-- ==== Sys2Proof/Word.lean ====
section
/-! DEFINITION. The words of the two links (R190: both carry bytes) and the plain types every file shares. -/

namespace Sys2Proof

/-- One byte of a host-link or bay-link frame. -/
abbrev Byte := BitVec 8

/-- A two-byte field of a frame (an id, a code, a temperature, a fleet number). -/
abbrev Word16 := BitVec 16

/-- A four-byte field of a frame (a depot time, a setting's value). -/
abbrev Word32 := BitVec 32

/-- A bay number, 0 to 15 (00_scope.md, Conventions). -/
abbrev BayNo := Fin 16

/-- A timer: the milliseconds it has left, or `none` while it is stopped. -/
abbrev Timer := Option Nat

end Sys2Proof
end

