-- ==== Sys2Proof/Config.lean ====
section
/-! DEFINITION. What the part fixes once: periods, capacities, the settings table (R185), and the values the manual
leaves open, as opaque constants (logs 21 and 22). -/

namespace Sys2Proof.Config

/-- Presence debounce time, ms (R1). -/
def presenceDebounce : Nat := 2000
/-- Plug debounce time, ms (R1). -/
def plugDebounce : Nat := 500
/-- SHED line debounce time, ms (R4). -/
def shedDebounce : Nat := 500
/-- The overdraw timer's running time at which the bay trips, ms (R10). -/
def overdrawLimit : Nat := 10000
/-- How long no character has been received when the line is quiet, ms (R17). -/
def lineQuiet : Nat := 2
/-- The wait for a quiet line after which an attempt is sent anyway, ms (R17). -/
def quietWait : Nat := 100
/-- The time from the opening of a reply window in which a reply must start, ms (R19). -/
def replyWindow : Nat := 100
/-- Re-probe period, ms (R29). -/
def reprobePeriod : Nat := 5000
/-- Confirm timer period, ms (R115). -/
def confirmPeriod : Nat := 3000
/-- Open-wait timer period, ms (R167). -/
def openWaitPeriod : Nat := 10000
/-- Largest depot time (R14). -/
def maxTime : Nat := 4294967295
/-- Largest attempt-error count (R23). -/
def maxAttemptErrors : Nat := 65535
/-- Attempts of one transaction (R23). -/
def maxAttempts : Nat := 3
/-- Entries of a fault table (R56). -/
def tableSize : Nat := 32
/-- Entries of the Fault Class Map (R57). -/
def mapSize : Nat := 64
/-- Entries of a coach's lamp list (R45). -/
def lampSize : Nat := 48
/-- Records of the departure list (R145). -/
def listSize : Nat := 64
/-- Saved sets of a hold stack (R143). -/
def stackSize : Nat := 4
/-- Records a DEPARTURE_LIST reply carries at most (R149). -/
def listReplySize : Nat := 32
/-- Largest host part of the shed depth (R103). -/
def maxShedHost : Nat := 14
/-- Fault memory capacity of a coach whose chain holds no FAULT_MEMORY descriptor (R46). -/
def defaultFaultCapacity : Nat := 255
/-- Largest payload of a host-link frame (R178). -/
def maxHostPayload : Nat := 1024
/-- Largest payload of a bay-link frame (R18). -/
def maxBayPayload : Nat := 32
/-- IDENT's vendor code, part code and revision (R187). -/
def vendorCode : Nat := 0x47A1
def partCode : Nat := 0x0D16
def revision : Nat := 3

/-- A row of the settings table: lowest value, highest value, default (R185). -/
structure SettingRow where
  lo : Nat
  hi : Nat
  default : Nat
  deriving DecidableEq, Repr

/-- The settings table's ranges and defaults, by setting number (R185). -/
def settingRows : Vector SettingRow 17 :=
  #v[⟨10, 800, 100⟩, ⟨0, 20, 5⟩, ⟨0, 800, 0⟩, ⟨1, 60, 5⟩, ⟨10, 300, 30⟩, ⟨0, 60, 10⟩, ⟨30, 360, 180⟩, ⟨0, 30, 10⟩,
    ⟨50, 2000, 600⟩, ⟨20, 1000, 250⟩, ⟨50, 2000, 300⟩, ⟨10, 240, 60⟩, ⟨0, 1, 1⟩, ⟨0, 1, 0⟩, ⟨60, 600, 180⟩,
    ⟨60, 900, 300⟩, ⟨0, 120, 30⟩]

/-- How many notices one event may take before the rest is left to the next idle step (DESIGN CHOICE, log 5). -/
def cascadeBound : Nat := 65536

/-- The code of the clock-set state in a TIME_READ reply; R193 lists no such enumeration. Free value (log 21). -/
opaque clockSetCode : Bool → Byte

/-- Whether a timer that stands between two whole seconds shows the later one where a reply gives seconds. Free value
(log 22). -/
opaque partSecond : Nat → Bool

/-- Whether the overdraw timer shows the later tenth of a second between two whole ones. Free value (log 22). -/
opaque partTenth : Nat → Bool

end Sys2Proof.Config
end

