-- ==== Sys2Proof/Syntax.lean ====
section
/-! DEFINITION. The commands of the block: one constructor of `Instr` for each row of spec/opcode_table.json, with the
payload fields of R192 and R196 as the operands of a request row. -/

namespace Sys2Proof

/-- The two exit lanes. -/
inductive Lane where
  | a
  | b
  deriving DecidableEq, Repr

/-- A host-link frame without its marks: KIND and payload (R178). -/
structure HostFrame where
  kind : Byte
  payload : List Byte
  deriving DecidableEq, Repr

/-- The refusal reasons, in code order (R180, R193). -/
inductive RefusalReason where
  | unknownKind
  | format
  | range
  | notEnabled
  | state
  | full
  | empty
  | notFound
  | duplicate
  deriving DecidableEq, Repr

/-- The beginning of a reply: the bay whose link it comes on and the character that starts it (R19). -/
structure ReplyStart where
  bay : BayNo
  start : Byte
  deriving DecidableEq, Repr

/-- The faults HOST_FRAME_FAULT reports: a bad stop bit, a LEN above 1024, a CRC mismatch (R178). -/
inductive FrameFault where
  | character
  | length
  | check
  deriving DecidableEq, Repr

/-- A raw field input (R1, R4). -/
inductive FieldInput where
  | presence (b : BayNo)
  | plug (b : BayNo)
  | shed
  | gate (l : Lane)
  deriving DecidableEq, Repr

/-- A map entry as a request carries it (R192). -/
structure MapWords where
  low : Word16
  high : Word16
  source : Byte
  disposition : Byte
  heatStop : Byte
  deriving DecidableEq, Repr

/-- The fields DEPARTURE_ADD and DEPARTURE_AMEND share, as the request carries them (R196, bytes 3 to 13). -/
structure DepartureWords where
  flags : Byte
  time : Word32
  target : Word16
  fleet : Word16
  lane : Byte
  lead : Byte
  deriving DecidableEq, Repr

/-- Four samples of a precision channel, 50 ms apart (R130, R131). -/
structure FourSamples where
  s1 : Int
  s2 : Int
  s3 : Int
  s4 : Int
  deriving DecidableEq, Repr

/-- The payload of a completed host-link frame and the CRC received behind it (R178, R190). -/
structure CheckedPayload where
  payload : List Byte
  crc : Word16
  deriving DecidableEq, Repr

/-- The commands, in the table's order. -/
inductive Instr where
  | powerOn
  | hostFrameReceived (kind : Byte) (body : CheckedPayload)
  | hostFrameFault (cause : FrameFault)
  | hostFrameGap
  | replySent
  | unknownKind (kind : Byte)
  | ident
  | restart
  | eventsFetch
  | eventMask (mask : Option (BitVec 24))
  | settingsWrite (number : Byte) (value : Word32)
  | settingsRead (number : Byte)
  | setTime (time : Word32)
  | timeRead
  | bayEnable (bay : Byte)
  | bayDisable (bay : Byte)
  | bayStatus (bay : Byte)
  | linkRead (bay : Byte)
  | redock (bay : Byte)
  | profileRead (bay : Byte)
  | mapClear
  | mapAppend (entry : MapWords)
  | mapInsert (position : Byte) (entry : MapWords)
  | mapRead
  | faultScan (bay : Byte)
  | faultsRead (bay : Byte)
  | ambientSet (temperature : Word16)
  | heatRead (bay : Byte)
  | shedEnter
  | shedLeave
  | budgetRead
  | lampStart (bay mode passes : Byte)
  | lampAdvance (bay : Byte)
  | lampAbort (bay : Byte)
  | lampRead (bay : Byte)
  | departureAdd (id : Word16) (bay : Byte) (fields : DepartureWords) (waivers : Byte)
  | departureAmend (id : Word16) (fields : DepartureWords)
  | departureCancel (id : Word16)
  | departureWaive (id : Word16) (waivers : Byte)
  | departureRead (id : Word16)
  | departureList (start : Byte)
  | holdPush (bay reasons : Byte)
  | holdPop (bay : Byte)
  | hallHoldPush (reasons : Byte)
  | hallHoldPop
  | holdsRead (bay : Byte)
  | laneClose (lane : Byte)
  | laneOpen (lane : Byte)
  | lanesRead
  | rawInputChange (input : FieldInput) (level : Bool)
  | presenceChange (b : BayNo)
  | plugChange (b : BayNo)
  | shedLineChange
  | gatePassage (l : Lane)
  | meterSample (b : BayNo) (shore auxVolts auxAmps : Int)
  | overdrawTrip (b : BayNo)
  | openWaitTimer (b : BayNo)
  | plugTimer (b : BayNo)
  | clockTick
  | lineQuietSend (b : BayNo)
  | requestSent (b : BayNo)
  | replyFrame (b : ReplyStart) (kind : Byte) (payload : List Byte) (check : Byte)
  | replyCharacterError (b : BayNo)
  | noReply (b : BayNo)
  | replyGap (b : BayNo)
  | reprobeTimer (b : BayNo)
  | pollTimer (b : BayNo)
  | staleTimer (b : BayNo)
  | rampTimer
  | confirmTimer
  | baselineComplete (b : BayNo) (amps : FourSamples)
  | settleTimer (b : BayNo)
  | litComplete (b : BayNo) (amps volts : FourSamples)
  | validityTimer (b : BayNo)
  | laneTimer (l : Lane)
  | sofCharacter
  | replyStart (b : ReplyStart)
  deriving DecidableEq, Repr

end Sys2Proof
end

