-- ==== Sys2Proof/Machine/State.lean ====
section
/-! DEFINITION. Everything the part holds, block by block, as plain data, and the state after power-on. -/

namespace Sys2Proof.Machine

/-! ## Bay Front End -/

/-- Exit signal aspects, in code order (R11, R193). -/
inductive Aspect where
  | dark
  | red
  | amber
  | green
  deriving DecidableEq, Repr

/-- What the BFE of one bay holds (R1 to R12). `presence` is OCCUPIED, `plug` is PLUGGED. Samples are newest first. -/
structure Bfe where
  enabled : Bool
  rawPresence : Bool
  rawPlug : Bool
  presence : Bool
  plug : Bool
  presenceTimer : Timer
  plugTimer : Timer
  contactor : Bool
  latch : Bool
  tripped : Bool
  /-- The running time of the overdraw timer in ms, or `none` while it is clear (R9). -/
  overdraw : Option Nat
  aspect : Aspect
  shore : List Nat
  auxVolts : List Nat
  auxAmps : List Nat
  deriving DecidableEq, Repr

/-! ## Coach Link Controller -/

/-- Link states, in code order (R28, R193). -/
inductive LinkState where
  | down
  | active
  | lost
  deriving DecidableEq, Repr

/-- Transaction classes, highest first (R25). -/
inductive TxClass where
  | heat
  | lamp
  | read
  | poll
  deriving DecidableEq, Repr

/-- A bay-link request with its payload (R20, R21, R22). -/
inductive BayRequest where
  | ident
  | desc (index : Nat)
  | fcount
  | fread (index : Nat)
  | status
  | lamp (circuit : Nat) (on : Bool)
  | stage (count : Nat)
  deriving DecidableEq, Repr

/-- What a good reply carries (R20, R21, R22). A descriptor's body and a fault record's bytes go to their owners
unchecked. -/
inductive CoachReply where
  | ident (fleet coachType : Nat) (faultMemory : Bool)
  | desc (kind next : Nat) (body : List Byte)
  | fcount (count : Nat)
  | fread (record : List Byte)
  | status (cabin : Option Int) (ignition heaterStop faultsChanged : Bool) (stages : Nat)
  | done
  deriving DecidableEq, Repr

/-- The result of a transaction (R24). -/
inductive TxResult where
  | done (reply : CoachReply)
  | refused
  | failed
  deriving DecidableEq, Repr

/-- Where an attempt stands: ready to send (with the rest of the 100 ms wait for a quiet line, R17), being sent, its
reply window open with no reply started (with the rest of the 100 ms, R19), its reply arriving, or ended and its result
being reported (R24). -/
inductive AttemptPhase where
  | ready (left : Nat)
  | sending
  | waiting (left : Nat)
  | receiving
  | reporting
  deriving DecidableEq, Repr

/-- The transaction in flight (R23); its class is `none` for a re-probe (R30). -/
structure InFlight where
  request : BayRequest
  cls : Option TxClass
  attempt : Nat
  phase : AttemptPhase
  deriving DecidableEq, Repr

/-- The last coach status (R36). -/
structure CoachStatus where
  time : Nat
  cabin : Option Int
  ignition : Bool
  heaterStop : Bool
  faultsChanged : Bool
  stages : Nat
  deriving DecidableEq, Repr

/-- What the CLC of one bay holds (R17 to R37). `lineOut` is the frame being sent on the line, empty while none is;
`quiet` is how long no character has been received, in ms, counted to 2 (R17). -/
structure Clc where
  link : LinkState
  failures : Nat
  attemptErrors : Nat
  inflight : Option InFlight
  heatSlot : Option Nat
  lampSlot : Option (Nat × Bool)
  readSlot : Option BayRequest
  pollSlot : Bool
  reprobe : Timer
  poll : Timer
  lastStatus : Option CoachStatus
  lineOut : List Byte
  quiet : Nat
  deriving DecidableEq, Repr

/-! ## Docking Unit -/

/-- Docking states, in code order (R38, R193). -/
inductive DockState where
  | undocked
  | probing
  | readingDescriptors
  | readingFaults
  | docked
  | dockFailed
  deriving DecidableEq, Repr

/-- Match states, in code order: NONE, MATCH, MISMATCH (R49, R193). -/
inductive MatchState where
  | unmatched
  | matched
  | mismatched
  deriving DecidableEq, Repr

/-- Lamp groups, in code order (R45, R193). -/
inductive LampGroup where
  | front
  | rear
  | side
  | interior
  | signal
  | marker
  deriving DecidableEq, Repr

/-- One entry of the profile's lamp list (R46). -/
structure LampEntry where
  circuit : Nat
  group : LampGroup
  nominal : Nat
  tolerance : Nat
  checkable : Bool
  deriving DecidableEq, Repr

/-- What an IDENT reply told (R40). -/
structure Identity where
  fleet : Nat
  coachType : Nat
  faultMemory : Bool
  deriving DecidableEq, Repr

/-- The coach profile (R46): identity, heater (stages capable, stage power in 100 W), cabin (heat capacity, loss
coefficient), lamp list, the capacity of the FAULT_MEMORY descriptor taken, and the four marks. -/
structure Profile where
  identity : Option Identity
  heater : Option (Nat × Nat)
  cabin : Option (Nat × Nat)
  lamps : List LampEntry
  faultCapacity : Option Nat
  clamped : Bool
  duplicate : Bool
  lampsTruncated : Bool
  unknownDescriptor : Bool
  deriving DecidableEq, Repr

/-- Why an undocking was taken (R52). -/
inductive UndockReason where
  | plugOut
  | disabled
  | redock
  | identity
  deriving DecidableEq, Repr

/-- What the DKU holds for one bay. `read` is the read it waits for and whether that read is on the link (else it waits
for the link, R41); `failure` is the failing index and the faulty next index (R43). -/
structure Dku where
  state : DockState
  profile : Profile
  indices : List Nat
  read : Option (BayRequest × Bool)
  failure : Option (Nat × Nat)
  matching : MatchState
  wrongBay : Bool
  retained : Bool
  deriving DecidableEq, Repr

/-! ## Fault Reader -/

/-- Dispositions, in code order (R57, R193). -/
inductive Disposition where
  | blocking
  | advisory
  | ignore
  deriving DecidableEq, Repr

/-- An entry of the Fault Class Map (R57); the source is `none` for ANY. -/
structure MapEntry where
  low : Nat
  high : Nat
  source : Option Nat
  disposition : Disposition
  heatStop : Bool
  deriving DecidableEq, Repr

/-- An entry of a fault table (R56). -/
structure FaultEntry where
  code : Nat
  source : Nat
  active : Bool
  occurrences : Nat
  firstSeen : Nat
  lastSeen : Nat
  circuit : Option Nat
  /-- Cabin temperature in 0.1 °C and aux voltage in 10 mV. -/
  freeze : Option (Int × Nat)
  readIndex : Nat
  disposition : Disposition
  heatStop : Bool
  confirmed : Bool
  isNew : Bool
  deriving DecidableEq, Repr

/-- The four table marks (R56). -/
structure TableMarks where
  truncated : Bool
  overCapacity : Bool
  badRecord : Bool
  incomplete : Bool
  deriving DecidableEq, Repr

/-- A set of scan kinds (R60). -/
structure KindSet where
  docking : Bool
  change : Bool
  departure : Bool
  host : Bool
  deriving DecidableEq, Repr

/-- One scan kind (R60). -/
inductive ScanKind where
  | docking
  | change
  | departure
  | host
  deriving DecidableEq, Repr

/-- The committed fault table, in rank order (R56). -/
structure FaultTable where
  entries : List FaultEntry
  marks : TableMarks
  time : Nat
  kinds : KindSet
  deriving DecidableEq, Repr

/-- Scan states, in code order (R56, R193). -/
inductive ScanState where
  | idle
  | counting
  | reading
  | awaitingLink
  deriving DecidableEq, Repr

/-- The scan of a bay with its shadow table (R56). -/
structure Scan where
  state : ScanState
  kinds : KindSet
  limit : Nat
  next : Nat
  shadow : List FaultEntry
  marks : TableMarks
  restartPending : Bool
  deriving DecidableEq, Repr

/-- A lamp verdict (R56). -/
inductive Verdict where
  | none
  | failed
  | passed
  deriving DecidableEq, Repr

/-- What the FRD holds for one bay (R56). -/
structure Frd where
  table : FaultTable
  scan : Scan
  rescan : KindSet
  readSinceDocking : Bool
  unreadSinceFailure : Bool
  scanDone : Bool
  linkHeldLost : Bool
  verdicts : Vector Verdict 64
  unconfirmed : List (Nat × Nat)
  retained : Bool
  deriving DecidableEq, Repr

/-! ## Heat Planner -/

/-- Plan states, in code order (R78, R193). -/
inductive PlanState where
  | none
  | waiting
  | heating
  | holding
  | suspended
  | ended
  deriving DecidableEq, Repr

/-- End codes, in order of rank, COMPLETED 1 to OVERDRAW 6 (R95). -/
inductive EndCode where
  | completed
  | undocked
  | hostCancel
  | stageFail
  | coachStop
  | overdraw
  deriving DecidableEq, Repr

/-- Heat readiness, in code order (R98, R193). -/
inductive Readiness where
  | ready
  | notReady
  | fault
  deriving DecidableEq, Repr

/-- The heat plan record (R78). Temperatures in 0.1 °C, energy in kJ, powers in W, `time` in s, `lead` in min. -/
structure Plan where
  departure : Option Nat
  target : Option Int
  scheduled : Option Nat
  cabinUsed : Int
  ambientUsed : Int
  energy : Nat
  loss : Nat
  netPower : Int
  time : Nat
  lead : Nat
  start : Nat
  holdingStages : Nat
  holdingPoint : Nat
  unreachable : Bool
  short : Bool
  late : Bool
  noHeater : Bool
  defaultCabin : Bool
  state : PlanState
  prior : Option PlanState
  endCode : Option EndCode
  deriving DecidableEq, Repr

/-- What the HPL holds for one bay (R78). The assumed-cabin mark is set exactly while `sample` is none. -/
structure Hpl where
  plan : Plan
  sample : Option (Int × Nat)
  stale : Bool
  staleTimer : Timer
  causeLink : Bool
  causeClearing : Bool
  coachStop : Bool
  deriving DecidableEq, Repr

/-! ## Feeder Allocator -/

/-- Grant row classes, in code order (R100, R193). -/
inductive RowClass where
  | none
  | heating
  | holding
  deriving DecidableEq, Repr

/-- Last command results, in code order (R100, R193). -/
inductive CommandResult where
  | none
  | acknowledged
  | refused
  | failed
  deriving DecidableEq, Repr

/-- A grant table row (R100). -/
structure GrantRow where
  cls : RowClass
  rankKey : Option Nat
  planRequest : Nat
  requested : Nat
  granted : Nat
  power : Nat
  inFlight : Bool
  failures : Nat
  quiet : Bool
  linkHeldLost : Bool
  commanded : Nat
  lastResult : CommandResult
  deriving DecidableEq, Repr

/-- The phase of a stage-up (R100): AWAITING_REPLY, or CONFIRMING with the confirm timer. -/
inductive StagePhase where
  | awaitingReply
  | confirming (left : Nat)
  deriving DecidableEq, Repr

/-- The stage-up record (R100). -/
structure StageUp where
  bay : BayNo
  count : Nat
  reference : Nat
  phase : StagePhase
  deriving DecidableEq, Repr

/-- The FAL's hall state (R100). -/
structure Feeder where
  budget : Nat
  base : Nat
  plugged : Nat
  shedHost : Nat
  shedLine : Nat
  gateOpen : Bool
  ramp : Timer
  stageUp : Option StageUp
  deriving DecidableEq, Repr

/-! ## Lamp Check Sequencer -/

/-- Lamp statuses, in code order (R122, R193). -/
inductive LampStatus where
  | notRun
  | running
  | paused
  | passed
  | failed
  | expired
  | aborted
  deriving DecidableEq, Repr

/-- Lamp outcomes, in code order: PASS to OPEN in order of severity, then NOT_CHECKED (R135, R193). -/
inductive LampOutcome where
  | pass
  | disturbed
  | lowSupply
  | noResponse
  | coachRefused
  | high
  | low
  | open
  | notChecked
  deriving DecidableEq, Repr

/-- Step phases, in code order (R122, R193). -/
inductive StepPhase where
  | none
  | queued
  | quietWait
  | baseline
  | light
  | settle
  | lit
  | off
  deriving DecidableEq, Repr

/-- Pause reasons (R122). -/
structure PauseReasons where
  step : Bool
  ignition : Bool
  link : Bool
  deriving DecidableEq, Repr

/-- Lamp modes, in code order (R122, R193). -/
inductive LampMode where
  | run
  | step
  deriving DecidableEq, Repr

/-- A results table entry (R122). -/
structure LampResult where
  circuit : Nat
  group : LampGroup
  nominal : Nat
  tolerance : Nat
  outcome : LampOutcome
  power : Option Nat
  measurements : Nat
  time : Option Nat
  deriving DecidableEq, Repr

/-- What the LCS holds for one bay (R122). `baseline` holds the baseline samples of the step in progress, `outcome` the
outcome that step has reached, `settle` its settle timer; `ignition` is `none` until a STATUS has told it. -/
structure Lcs where
  status : LampStatus
  reasons : PauseReasons
  mode : LampMode
  passes : Nat
  sequence : List Nat
  pass : Nat
  index : Nat
  tries : Nat
  phase : StepPhase
  channel : Option (Fin 4)
  owed : Option Nat
  baseline : List Nat
  outcome : Option (LampOutcome × Option Nat)
  settle : Timer
  linkHeldLost : Bool
  ignition : Option Bool
  validity : Timer
  results : List LampResult
  retained : Bool
  deriving DecidableEq, Repr

/-! ## Departure Manager -/

/-- Lane preferences, in code order (R144, R193). -/
inductive LanePreference where
  | a
  | b
  | either
  deriving DecidableEq, Repr

/-- A waiver set (R144). -/
structure Waivers where
  heatNotReady : Bool
  heatFault : Bool
  heatStale : Bool
  lampNotPassed : Bool
  deriving DecidableEq, Repr

/-- A departure record (R144). -/
structure Departure where
  id : Nat
  bay : BayNo
  time : Nat
  target : Option Int
  fleet : Option Nat
  lampCheck : Bool
  lane : LanePreference
  lead : Nat
  waivers : Waivers
  lateReported : Bool
  deriving DecidableEq, Repr

/-- A set of automatic hold reasons, in the order of R153's table. -/
structure AutoSet where
  outOfService : Bool
  noDeparture : Bool
  notDocked : Bool
  linkLost : Bool
  wrongCoach : Bool
  faultData : Bool
  faultBlocking : Bool
  heatNotReady : Bool
  heatFault : Bool
  heatStale : Bool
  lampNotPassed : Bool
  deriving DecidableEq, Repr

/-- An operator or hall hold set: bit n is the n-th of the eight operator reasons (R143, R193). -/
abbrev OperatorSet := BitVec 8

/-- An effective hold set (R159): the automatic reasons and the operator reasons in it. -/
structure HoldSet where
  auto : AutoSet
  operator : OperatorSet
  deriving DecidableEq, Repr

/-- A hold set with its stack, the most recently saved set first (R143). -/
structure HoldStack where
  set : OperatorSet
  saved : List OperatorSet
  deriving DecidableEq, Repr

/-- The owner conditions of one bay as last reported to the DPM (R153, R154), with the DPM's own three: whether the bay
has no active departure, whether that departure requires a lamp check, and its waiver set (R150). -/
structure Conditions where
  enabled : Bool
  docked : Bool
  linkLost : Bool
  mismatch : Bool
  readSinceDocking : Bool
  unreadSinceFailure : Bool
  scanDone : Bool
  blocking : Bool
  readiness : Readiness
  stale : Bool
  lampPassed : Bool
  noDeparture : Bool
  lampRequired : Bool
  waivers : Waivers
  deriving DecidableEq, Repr

/-- What the DPM holds for one bay (R143). -/
structure Dpm where
  active : Option Nat
  operator : HoldStack
  conditions : Conditions
  reliance : Bool
  frozen : Bool
  frozenSet : AutoSet
  reported : HoldSet
  deriving DecidableEq, Repr

/-! ## Clearance Controller -/

/-- Clearance states, in code order (R161, R193). -/
inductive ClearState where
  | outOfService
  | empty
  | arrived
  | docking
  | preparing
  | ready
  | scanning
  | queued
  | clearing
  | cleared
  | recalled
  deriving DecidableEq, Repr

/-- What the CLR holds for one bay (R161). `revoking` is the model's own: set, with the state PREPARING, from step 1 to
step 5 of a revocation (R170), so that a hold set reported within it is recorded and the bay settled last (log 18). -/
structure Clr where
  state : ClearState
  windowPoint : Option Nat
  windowOpen : Bool
  plugTimer : Timer
  openWait : Timer
  openRequest : Bool
  holds : HoldSet
  revoking : Bool
  deriving DecidableEq, Repr

/-- Lane states, in code order (R173, R193). -/
inductive LaneState where
  | free
  | granted
  | passageWait
  | closed
  deriving DecidableEq, Repr

/-- A lane record (R173). -/
structure LaneRecord where
  state : LaneState
  holder : Option BayNo
  closePending : Bool
  timer : Timer
  deriving DecidableEq, Repr

/-! ## Host Link Interface and Depot Clock -/

/-- The thirteen flags of a bay, in code order (R181, R193). -/
inductive BayFlag where
  | dock
  | undock
  | sensor
  | link
  | faults
  | heat
  | lamp
  | holds
  | clearance
  | departed
  | late
  | overdraw
  | wrongBay
  deriving DecidableEq, Repr

/-- The seven flags of the hall, in code order after the bay flags (R181, R193). -/
inductive HallFlag where
  | reset
  | clockUnset
  | shed
  | budget
  | lane
  | gateUnexpected
  | hostLinkError
  deriving DecidableEq, Repr

/-- The reasons of LINK (R34). -/
inductive LinkReason where
  | lost
  | recovered
  | down
  deriving DecidableEq, Repr

/-- The reasons of FAULTS (R67, R68, R59). -/
inductive FaultsReason where
  | changed
  | unchanged
  | failed
  | reclassified
  deriving DecidableEq, Repr

/-- The reasons of LAMP (R194). -/
inductive LampReason where
  | passed
  | failed
  | aborted
  | expired
  | paused
  | unconfirmed
  deriving DecidableEq, Repr

/-- The reasons of HOST_LINK_ERROR (R178, R179). -/
inductive HostLinkReason where
  | character
  | gap
  | length
  | check
  | overrun
  deriving DecidableEq, Repr

/-- The reason of a raising (R181, R194). `plain` is the reason of a flag that has none. -/
inductive Reason where
  | plain
  | dock (failed : Bool)
  | undock (why : UndockReason)
  | link (why : LinkReason)
  | faults (why : FaultsReason)
  | heat (state : PlanState) (code : Option EndCode)
  | heatStale
  | lamp (why : LampReason)
  | holds (held : Bool)
  | clearance (state : ClearState)
  | revoked
  | plugTimeout
  | departure (id : Nat)
  | bay (b : BayNo)
  | reset (restart : Bool)
  | shed (line : Bool)
  | lane (l : Lane) (state : LaneState)
  | laneTimeout (l : Lane)
  | gate (l : Lane)
  | hostLink (why : HostLinkReason)
  deriving DecidableEq, Repr

/-- An event flag (R181), with the qualifier bit of R194. -/
structure Flag where
  set : Bool
  reason : Reason
  qualifier : Bool
  count : Nat
  deriving DecidableEq, Repr

/-- The host link (R178, R179, R184). `sending` is the reply being sent, whose request still holds a buffer slot, and
`lineOut` its bytes from SOF to CRC-16 (R178, R190); `held` is the frame in the other slot. -/
structure HostLink where
  inFrame : Bool
  sending : Option HostFrame
  lineOut : List Byte
  held : Option HostFrame
  mask : BitVec 20
  attn : Bool
  deriving DecidableEq, Repr

/-- The Depot Clock (R14); `phase` counts the milliseconds of the running second (R15). -/
structure Clock where
  time : Nat
  isSet : Bool
  phase : Nat
  deriving DecidableEq, Repr

/-- The hall-wide inputs (R4). A gate holds the milliseconds of its activation while its input is active. -/
structure HallInputs where
  rawShed : Bool
  shed : Bool
  shedTimer : Timer
  gateA : Option Nat
  gateB : Option Nat
  deriving DecidableEq, Repr

/-! ## Notices

Within one event the blocks hand notices to one another, each taken with all it leads to before the next one of the rule
that gave it (R3, R6, R29, R48, R52, ...). A notice names what is to be done; Machine/Cascade.lean says which definition
does it. -/

/-- A notice of one block to another, or a numbered action of a rule that other actions may come before. -/
inductive Notice where
  | raise (b : BayNo) (k : BayFlag) (r : Reason) (q : Bool)
  | raiseHall (k : HallFlag) (r : Reason)
  | contactor (b : BayNo)
  | clcUp (b : BayNo)
  | clcDown (b : BayNo)
  | clcDiscard (b : BayNo)
  | clcStopPoll (b : BayNo)
  | clcNext (b : BayNo)
  | dkuStart (b : BayNo)
  | dkuBegin (b : BayNo)
  | dkuSubmit (b : BayNo) (request : BayRequest)
  | dkuResult (b : BayNo) (request : BayRequest) (result : TxResult)
  | dkuRecovered (b : BayNo)
  | dkuScanCommitted (b : BayNo)
  | dkuUndock (b : BayNo) (why : UndockReason)
  | dkuRetain (b : BayNo)
  | dkuDiscard (b : BayNo)
  | dkuMatch (b : BayNo)
  | dkuWrongBay (b : BayNo)
  | clearTrip (b : BayNo)
  | frdRequest (b : BayNo) (kind : ScanKind)
  | frdTakeRescan (b : BayNo)
  | frdResult (b : BayNo) (request : BayRequest) (result : TxResult)
  | frdLost (b : BayNo)
  | frdRecovered (b : BayNo)
  | frdChange (b : BayNo)
  | frdSplit (b : BayNo)
  | frdHeatStop (b : BayNo)
  | frdReclassify (b : BayNo)
  | frdReshadow (b : BayNo)
  | frdClear (b : BayNo)
  | frdRetain (b : BayNo)
  | frdActiveChanged (b : BayNo)
  | hplForm (b : BayNo) (atDocked : Bool)
  | hplNone (b : BayNo)
  | hplAmended (b : BayNo)
  | hplRecompute (b : BayNo)
  | hplStart (b : BayNo)
  | hplPoint (b : BayNo)
  | hplSample (b : BayNo) (temperature : Int)
  | hplCoachStop (b : BayNo)
  | hplEnd (b : BayNo) (code : EndCode)
  | hplAddLink (b : BayNo)
  | hplDropLink (b : BayNo)
  | hplAddClearing (b : BayNo)
  | hplDropClearing (b : BayNo)
  | hplDocked (b : BayNo)
  | hplSessionStart (b : BayNo)
  | hplUndock (b : BayNo)
  | hplPlugOut (b : BayNo)
  | hplForget (b : BayNo)
  | falTake (b : BayNo)
  | falContactor (b : BayNo)
  | falLost (b : BayNo)
  | falRecovered (b : BayNo)
  | falDocked (b : BayNo)
  | falEmpty (b : BayNo)
  | falUndock (b : BayNo)
  | falRecompute
  | falResult (b : BayNo) (count : Nat) (result : TxResult)
  | falSelect
  | lcsAutomatic (b : BayNo)
  | lcsNext (b : BayNo)
  | lcsStepEnd (b : BayNo)
  | lcsRunEnd (b : BayNo)
  | lcsResult (b : BayNo) (circuit : Nat) (on : Bool) (result : TxResult)
  | lcsRemoved (b : BayNo)
  | lcsSwitchOff (b : BayNo)
  | lcsIgnition (b : BayNo) (on : Bool)
  | lcsLost (b : BayNo)
  | lcsRecovered (b : BayNo)
  | lcsDocked (b : BayNo)
  | lcsAbandonRun (b : BayNo)
  | lcsUndock (b : BayNo)
  | lcsRetain (b : BayNo)
  | lcsSessionStart (b : BayNo)
  | tellService (b : BayNo)
  | tellDock (b : BayNo)
  | tellLink (b : BayNo)
  | tellScan (b : BayNo)
  | tellHeat (b : BayNo)
  | tellLamp (b : BayNo)
  | tellReliance (b : BayNo)
  | tellFreeze (b : BayNo) (on : Bool)
  | ownConditions (b : BayNo)
  | rederive (b : BayNo)
  | workOut (b : BayNo)
  | amended (b : BayNo) (fleet heat lane : Bool)
  | departed (b : BayNo) (cleared : Bool)
  | lateCheck (id : Option Nat)
  | clrHolds (b : BayNo)
  | clrSettle (b : BayNo)
  | clrDocked (b : BayNo)
  | clrScanCommitted (b : BayNo)
  | clrFromSensors (b : BayNo)
  | clrPresence (b : BayNo) (occupied : Bool)
  | clrPlugIn (b : BayNo)
  | clrPlugOut (b : BayNo)
  | clrUndocked (b : BayNo) (why : UndockReason)
  | clrDisable (b : BayNo)
  | clrWindow (b : BayNo)
  | clrDeparture (b : BayNo)
  | clrOfferTo (b : BayNo)
  | clrSuspend (b : BayNo)
  | clrStartTimers (b : BayNo)
  | clrOpenTest (b : BayNo)
  | clrRevokeEnd (b : BayNo) (timeout : Bool)
  | laneOffer (l : Lane)
  deriving DecidableEq, Repr

/-! ## The state -/

/-- The whole state of the part. The first ten fields hold one record per bay. `unfinished` is the model's own (log 5),
`pending` the queue of commands waiting (the first is taken first). -/
structure State where
  bfe : Vector Bfe 16
  clc : Vector Clc 16
  dku : Vector Dku 16
  frd : Vector Frd 16
  hpl : Vector Hpl 16
  row : Vector GrantRow 16
  lcs : Vector Lcs 16
  dpm : Vector Dpm 16
  clr : Vector Clr 16
  flags : Vector (Vector Flag 13) 16
  hallFlags : Vector Flag 7
  clock : Clock
  hallInputs : HallInputs
  settings : Vector Nat 17
  map : List MapEntry
  ambient : Int
  feeder : Feeder
  channels : Vector (Option BayNo) 4
  channelQueue : List BayNo
  departures : List Departure
  hallHold : HoldStack
  laneA : LaneRecord
  laneB : LaneRecord
  waitOrder : List BayNo
  hli : HostLink
  unfinished : List Notice
  pending : List Instr
  deriving DecidableEq, Repr

/-- What stops the part. No rule of the manual lets a command stop it, so no meaning answers a fault. -/
inductive Fault where
  /-- Kept so that the type is not empty; nobody raises it. Safe: a state that nothing reaches proves nothing false. -/
  | neverRaised
  deriving DecidableEq, Repr

/-- What the model refuses. -/
inductive Refusal where
  /-- Raised by an arm of `exec` whose row has no meaning yet. Safe: the model stops where the part goes on. -/
  | notModelled (mnemonic : String)
  deriving DecidableEq, Repr

/-! ## Power-on values -/

def KindSet.none : KindSet := ⟨false, false, false, false⟩
def TableMarks.clear : TableMarks := ⟨false, false, false, false⟩
def Waivers.none : Waivers := ⟨false, false, false, false⟩
def PauseReasons.none : PauseReasons := ⟨false, false, false⟩
def HoldStack.empty : HoldStack := ⟨0, []⟩

/-- No automatic reason. -/
def AutoSet.none : AutoSet := ⟨false, false, false, false, false, false, false, false, false, false, false⟩

/-- A flag that has not been raised (R188, step 3). -/
def Flag.clear : Flag := ⟨false, .plain, false, 0⟩

/-- The BFE at power-on (R1, R6, R7, R9, R10, R11, R12). -/
def Bfe.reset : Bfe :=
  { enabled := false, rawPresence := false, rawPlug := false, presence := false, plug := false, presenceTimer := none,
    plugTimer := none, contactor := false, latch := false, tripped := false, overdraw := none, aspect := .red,
    shore := [], auxVolts := [], auxAmps := [] }

/-- The CLC at power-on (R17, R23, R25, R28, R35; log 36). -/
def Clc.reset : Clc :=
  { link := .down, failures := 0, attemptErrors := 0, inflight := none, heatSlot := none, lampSlot := none,
    readSlot := none, pollSlot := false, reprobe := none, poll := none, lastStatus := none, lineOut := [],
    quiet := Config.lineQuiet }

/-- A profile that holds no fields and no marks (R39). -/
def Profile.empty : Profile :=
  { identity := none, heater := none, cabin := none, lamps := [], faultCapacity := none, clamped := false,
    duplicate := false, lampsTruncated := false, unknownDescriptor := false }

/-- The DKU at power-on (R38). -/
def Dku.reset : Dku :=
  { state := .undocked, profile := .empty, indices := [], read := none, failure := none, matching := .unmatched,
    wrongBay := false, retained := false }

/-- An empty fault table (R56). -/
def FaultTable.empty : FaultTable := ⟨[], .clear, 0, .none⟩

/-- No scan (R56). -/
def Scan.idle : Scan := ⟨.idle, .none, 0, 0, [], .clear, false⟩

/-- The empty session state of the FRD (R56). -/
def Frd.reset : Frd :=
  { table := .empty, scan := .idle, rescan := .none, readSinceDocking := false, unreadSinceFailure := false,
    scanDone := false, linkHeldLost := false, verdicts := Vector.replicate 64 .none, unconfirmed := [],
    retained := false }

/-- A plan in NONE with every field absent or zero and every flag clear (R78). -/
def Plan.empty : Plan :=
  { departure := none, target := none, scheduled := none, cabinUsed := 0, ambientUsed := 0, energy := 0, loss := 0,
    netPower := 0, time := 0, lead := 0, start := 0, holdingStages := 0, holdingPoint := 0, unreachable := false,
    short := false, late := false, noHeater := false, defaultCabin := false, state := .none, prior := none,
    endCode := none }

/-- The HPL at power-on (R78). -/
def Hpl.reset : Hpl :=
  { plan := .empty, sample := none, stale := false, staleTimer := none, causeLink := false, causeClearing := false,
    coachStop := false }

/-- A grant table row at power-on (R100). -/
def GrantRow.reset : GrantRow :=
  { cls := .none, rankKey := none, planRequest := 0, requested := 0, granted := 0, power := 0, inFlight := false,
    failures := 0, quiet := false, linkHeldLost := false, commanded := 0, lastResult := .none }

/-- The FAL's hall state at power-on: 100 kW gives a budget of 1,000 units (R100). -/
def Feeder.reset : Feeder :=
  { budget := 1000, base := 1000, plugged := 0, shedHost := 0, shedLine := 0, gateOpen := true, ramp := none,
    stageUp := none }

/-- A lamp record at power-on (R122). -/
def Lcs.reset : Lcs :=
  { status := .notRun, reasons := .none, mode := .run, passes := 1, sequence := [], pass := 1, index := 0, tries := 1,
    phase := .none, channel := none, owed := none, baseline := [], outcome := none, settle := none,
    linkHeldLost := false, ignition := none, validity := none, results := [], retained := false }

/-- The owner conditions of a disabled, undocked bay with its link DOWN (R143). -/
def Conditions.reset : Conditions :=
  { enabled := false, docked := false, linkLost := false, mismatch := false, readSinceDocking := false,
    unreadSinceFailure := false, scanDone := false, blocking := false, readiness := .notReady, stale := false,
    lampPassed := false, noDeparture := true, lampRequired := false, waivers := .none }

/-- The effective hold set at power-on: OUT_OF_SERVICE and NO_DEPARTURE (R143). -/
def HoldSet.reset : HoldSet := ⟨{ AutoSet.none with outOfService := true, noDeparture := true }, 0⟩

/-- The DPM's state of one bay at power-on (R143). -/
def Dpm.reset : Dpm :=
  { active := none, operator := .empty, conditions := .reset, reliance := false, frozen := false, frozenSet := .none,
    reported := .reset }

/-- The CLR's state of one bay at power-on (R161). -/
def Clr.reset : Clr :=
  { state := .outOfService, windowPoint := none, windowOpen := false, plugTimer := none, openWait := none,
    openRequest := false, holds := .reset, revoking := false }

/-- A lane at power-on (R161). -/
def LaneRecord.reset : LaneRecord := ⟨.free, none, false, none⟩

/-- The part right after power-on (R188): every block's power-on state, RESET raised with kind POWER_ON, CLOCK_UNSET
raised, ATTN asserted. -/
def State.reset : State :=
  { bfe := Vector.replicate 16 .reset
    clc := Vector.replicate 16 .reset
    dku := Vector.replicate 16 .reset
    frd := Vector.replicate 16 .reset
    hpl := Vector.replicate 16 .reset
    row := Vector.replicate 16 .reset
    lcs := Vector.replicate 16 .reset
    dpm := Vector.replicate 16 .reset
    clr := Vector.replicate 16 .reset
    flags := Vector.replicate 16 (Vector.replicate 13 .clear)
    hallFlags := #v[⟨true, .reset false, false, 1⟩, ⟨true, .plain, false, 1⟩, .clear, .clear, .clear, .clear, .clear]
    clock := ⟨0, false, 0⟩
    hallInputs := ⟨false, false, none, none, none⟩
    settings := #v[100, 5, 0, 5, 30, 10, 180, 10, 600, 250, 300, 60, 1, 0, 180, 300, 30]
    map := []
    ambient := 0
    feeder := .reset
    channels := Vector.replicate 4 none
    channelQueue := []
    departures := []
    hallHold := .empty
    laneA := .reset
    laneB := .reset
    waitOrder := []
    hli := ⟨false, none, [], none, 0xFFFFF, true⟩
    unfinished := []
    pending := [] }

end Sys2Proof.Machine
end

