-- ==== Sys2Proof/Machine/Ops.lean ====
section
/-! DEFINITION. The named operations every block uses: reading and writing one bay's record of a block, settings, timers,
the exit signal that follows the clearance state (R11, R161), and what a reaction of a block is. -/

namespace Sys2Proof.Machine

/-! ## Per-bay records -/

/-- The record of bay `b`. -/
def bayAt {α : Type} (v : Vector α 16) (b : BayNo) : α := v[b]

/-- The records with that of bay `b` replaced. -/
def bayPut {α : Type} (v : Vector α 16) (b : BayNo) (x : α) : Vector α 16 := v.set b.val x b.isLt

/-- The sixteen bays in bay order. -/
def allBays : List BayNo := [0, 1, 2, 3, 4, 5, 6, 7, 8, 9, 10, 11, 12, 13, 14, 15]

def State.bfeAt (s : State) (b : BayNo) : Bfe := bayAt s.bfe b
def State.clcAt (s : State) (b : BayNo) : Clc := bayAt s.clc b
def State.dkuAt (s : State) (b : BayNo) : Dku := bayAt s.dku b
def State.frdAt (s : State) (b : BayNo) : Frd := bayAt s.frd b
def State.hplAt (s : State) (b : BayNo) : Hpl := bayAt s.hpl b
def State.rowAt (s : State) (b : BayNo) : GrantRow := bayAt s.row b
def State.lcsAt (s : State) (b : BayNo) : Lcs := bayAt s.lcs b
def State.dpmAt (s : State) (b : BayNo) : Dpm := bayAt s.dpm b
def State.clrAt (s : State) (b : BayNo) : Clr := bayAt s.clr b
def State.flagsAt (s : State) (b : BayNo) : Vector Flag 13 := bayAt s.flags b

def State.modBfe (s : State) (b : BayNo) (f : Bfe → Bfe) : State := { s with bfe := bayPut s.bfe b (f (bayAt s.bfe b)) }
def State.modClc (s : State) (b : BayNo) (f : Clc → Clc) : State := { s with clc := bayPut s.clc b (f (bayAt s.clc b)) }
def State.modDku (s : State) (b : BayNo) (f : Dku → Dku) : State := { s with dku := bayPut s.dku b (f (bayAt s.dku b)) }
def State.modFrd (s : State) (b : BayNo) (f : Frd → Frd) : State := { s with frd := bayPut s.frd b (f (bayAt s.frd b)) }
def State.modHpl (s : State) (b : BayNo) (f : Hpl → Hpl) : State := { s with hpl := bayPut s.hpl b (f (bayAt s.hpl b)) }
def State.modRow (s : State) (b : BayNo) (f : GrantRow → GrantRow) : State :=
  { s with row := bayPut s.row b (f (bayAt s.row b)) }
def State.modLcs (s : State) (b : BayNo) (f : Lcs → Lcs) : State := { s with lcs := bayPut s.lcs b (f (bayAt s.lcs b)) }
def State.modDpm (s : State) (b : BayNo) (f : Dpm → Dpm) : State := { s with dpm := bayPut s.dpm b (f (bayAt s.dpm b)) }
def State.modClr (s : State) (b : BayNo) (f : Clr → Clr) : State := { s with clr := bayPut s.clr b (f (bayAt s.clr b)) }
def State.modFlags (s : State) (b : BayNo) (f : Vector Flag 13 → Vector Flag 13) : State :=
  { s with flags := bayPut s.flags b (f (bayAt s.flags b)) }
def State.modHli (s : State) (f : HostLink → HostLink) : State := { s with hli := f s.hli }
def State.modClock (s : State) (f : Clock → Clock) : State := { s with clock := f s.clock }
def State.modInputs (s : State) (f : HallInputs → HallInputs) : State := { s with hallInputs := f s.hallInputs }
def State.modFeeder (s : State) (f : Feeder → Feeder) : State := { s with feeder := f s.feeder }

/-- The record of a lane. -/
def State.laneAt (s : State) : Lane → LaneRecord
  | .a => s.laneA
  | .b => s.laneB

/-- A lane's record changed. -/
def State.modLane (s : State) (l : Lane) (f : LaneRecord → LaneRecord) : State :=
  match l with
  | .a => { s with laneA := f s.laneA }
  | .b => { s with laneB := f s.laneB }

/-- A channel's holder changed. -/
def State.setChannel (s : State) (c : Fin 4) (h : Option BayNo) : State :=
  { s with channels := s.channels.set c.val h c.isLt }

/-! ## Bay numbers, settings, timers -/

/-- The bay a byte of a request names: none above 15 (RANGE). -/
def bayOf (x : Byte) : Option BayNo := if h : x.toNat < 16 then some ⟨x.toNat, h⟩ else none

/-- The value of a setting (R185). -/
def State.setting (s : State) (n : Fin 17) : Nat := s.settings[n]

/-- A value held within a range. -/
def clampNat (lo hi v : Nat) : Nat := if v < lo then lo else if hi < v then hi else v

/-- A signed value held within a range. -/
def clampInt (lo hi v : Int) : Int := if v < lo then lo else if hi < v then hi else v

/-- A timer of `n` ms. -/
def msTimer (n : Nat) : Timer := some n

/-- A timer of `n` seconds. -/
def secTimer (n : Nat) : Timer := some (n * 1000)

/-! ## Reactions -/

/-- What a block does on a notice: its own change, then the notices it hands on, each to be taken with all it leads to
before the next one ('acts in this order within the event'). -/
abbrev Reaction := State × List Notice

/-- A reaction without notices. -/
def done (s : State) : Reaction := (s, [])

/-- A reaction followed by another. -/
def Reaction.then (r : Reaction) (f : State → Reaction) : Reaction := ((f r.1).1, r.2 ++ (f r.1).2)

/-- Notices put after those of a reaction. -/
def Reaction.also (r : Reaction) (ns : List Notice) : Reaction := (r.1, r.2 ++ ns)

/-! ## The exit signal -/

/-- The aspect a clearance state shows (R11). -/
def ClearState.aspect : ClearState → Aspect
  | .empty => .dark
  | .outOfService | .arrived | .docking | .preparing | .recalled => .red
  | .ready | .scanning | .queued | .clearing => .amber
  | .cleared => .green

/-- The clearance state changes and the exit signal follows it in the same event (R11, R161); a revocation under way ends
with any change. -/
def State.setClear (s : State) (b : BayNo) (st : ClearState) : State :=
  (s.modClr b (fun c => { c with state := st, revoking := false })).modBfe b (fun f => { f with aspect := st.aspect })

/-- The change of a clearance state with its CLEARANCE raising (R161). -/
def enterClear (s : State) (b : BayNo) (st : ClearState) : Reaction :=
  (s.setClear b st, [.raise b .clearance (.clearance st) false])

/-! ## Profiles, records and conditions read by several blocks -/

/-- The presence the BFE reports (R2). -/
def Bfe.reported (f : Bfe) : Bool := f.presence || f.plug

/-- Sensor conflict (R2). -/
def Bfe.conflict (f : Bfe) : Bool := f.plug && !f.presence

/-- The five conditions of R7. -/
def State.contactorWanted (s : State) (b : BayNo) : Bool :=
  (s.bfeAt b).enabled && (s.bfeAt b).plug && ((s.dkuAt b).state == .docked) && !(s.bfeAt b).tripped &&
    !(s.clrAt b).openRequest

/-- The record with an id. -/
def State.departureOf (s : State) (id : Nat) : Option Departure := s.departures.find? (fun d => d.id == id)

/-- A bay's active departure record as the DPM holds it (R143). -/
def State.activeOf (s : State) (b : BayNo) : Option Departure :=
  match (s.dpmAt b).active with
  | none => none
  | some id => s.departureOf id

/-- Whether the profile says the fault memory is absent (R46, R73). -/
def Profile.faultAbsent (p : Profile) : Bool :=
  match p.identity with
  | some i => !i.faultMemory
  | none => false

/-- The capacity of a present fault memory (R46). -/
def Profile.capacity (p : Profile) : Nat := p.faultCapacity.getD Config.defaultFaultCapacity

/-- A bay's stage power: that of the profile's heater, or 0 (R120). -/
def Profile.stagePower (p : Profile) : Nat :=
  match p.heater with
  | some h => h.2
  | none => 0

/-- A scan kind in a set (R60). -/
def KindSet.has (k : KindSet) : ScanKind → Bool
  | .docking => k.docking
  | .change => k.change
  | .departure => k.departure
  | .host => k.host

/-- A scan kind added to a set; a kind already there is not added twice (R60). -/
def KindSet.add (k : KindSet) : ScanKind → KindSet
  | .docking => { k with docking := true }
  | .change => { k with change := true }
  | .departure => { k with departure := true }
  | .host => { k with host := true }

/-- A fault table entry that is ACTIVE and BLOCKING (R153). -/
def FaultTable.blocking (t : FaultTable) : Bool := t.entries.any (fun e => e.active && e.disposition == .blocking)

/-- The heat-stop condition (R74). -/
def FaultTable.heatStop (t : FaultTable) : Bool := t.entries.any (fun e => e.active && e.heatStop)

/-- A quotient rounded up. -/
def ceilDiv (a b : Nat) : Nat := (a + (b - 1)) / b

/-- A quotient rounded half up. -/
def halfUpDiv (a b : Nat) : Nat := (2 * a + b) / (2 * b)

end Sys2Proof.Machine
end

