-- ==== Sys2Proof/Machine/Flags.lean ====
section
/-! DEFINITION. The event flags, their raising, the event mask and ATTN (R181 to R184). -/

namespace Sys2Proof.Machine

/-- A bay flag's code (R193). -/
def BayFlag.code : BayFlag → Fin 13
  | .dock => 0 | .undock => 1 | .sensor => 2 | .link => 3 | .faults => 4 | .heat => 5 | .lamp => 6 | .holds => 7
  | .clearance => 8 | .departed => 9 | .late => 10 | .overdraw => 11 | .wrongBay => 12

/-- A hall flag's place among the hall flags; its code is 13 more (R193). -/
def HallFlag.code : HallFlag → Fin 7
  | .reset => 0 | .clockUnset => 1 | .shed => 2 | .budget => 3 | .lane => 4 | .gateUnexpected => 5 | .hostLinkError => 6

/-- Whether the mask's entry for a flag code is ENABLED (R184, R192). -/
def HostLink.enables (h : HostLink) (code : Nat) : Bool := h.mask.getLsbD code

def State.flag (s : State) (b : BayNo) (k : BayFlag) : Flag := (s.flagsAt b)[k.code]
def State.hallFlag (s : State) (k : HallFlag) : Flag := s.hallFlags[k.code]
def State.modFlag (s : State) (b : BayNo) (k : BayFlag) (f : Flag → Flag) : State :=
  s.modFlags b (fun v => v.set k.code.val (f v[k.code]) k.code.isLt)
def State.modHallFlag (s : State) (k : HallFlag) (f : Flag → Flag) : State :=
  { s with hallFlags := s.hallFlags.set k.code.val (f s.hallFlags[k.code]) k.code.isLt }

/-- A raising: the flag is set, its reason replaced, its count raised by 1 and held at 255 (R181). `keep` keeps the
qualifier of the set flag: LAMP keeps the indication UNCONFIRMED until the fetch that reports it (R75). -/
def Flag.raise (f : Flag) (r : Reason) (q keep : Bool) : Flag :=
  { set := true, reason := r, qualifier := q || (keep && f.set && f.qualifier),
    count := if f.count < 255 then f.count + 1 else 255 }

/-- A fetch clears the flag it reports: not set, count 0 (R183). -/
def Flag.fetched (f : Flag) : Flag := { f with set := false, qualifier := false, count := 0 }

/-- ATTN is asserted in the event that sets a flag whose kind is ENABLED (R184). -/
def State.attnFor (s : State) (code : Nat) : State :=
  s.modHli (fun h => { h with attn := h.attn || h.enables code })

/-- A block raises a bay's flag (R181). -/
def raiseFlag (s : State) (b : BayNo) (k : BayFlag) (r : Reason) (q : Bool) : State :=
  (s.modFlag b k (fun f => f.raise r q (k == .lamp))).attnFor k.code.val

/-- A block raises a hall flag (R181). -/
def raiseHallFlag (s : State) (k : HallFlag) (r : Reason) : State :=
  (s.modHallFlag k (fun f => f.raise r false false)).attnFor (13 + k.code.val)

/-- The bay flags in code order (R193). -/
def bayFlagKinds : List BayFlag :=
  [.dock, .undock, .sensor, .link, .faults, .heat, .lamp, .holds, .clearance, .departed, .late, .overdraw, .wrongBay]

/-- The hall flags in code order (R193). -/
def hallFlagKinds : List HallFlag := [.reset, .clockUnset, .shed, .budget, .lane, .gateUnexpected, .hostLinkError]

/-- Whether some flag of an ENABLED kind is set (R184). -/
def State.anyEnabledFlag (s : State) : Bool :=
  hallFlagKinds.any (fun k => (s.hallFlag k).set && s.hli.enables (13 + k.code.val)) ||
  allBays.any (fun b => bayFlagKinds.any (fun k => (s.flag b k).set && s.hli.enables k.code.val))

/-- ATTN re-evaluated (R184). -/
def State.reattend (s : State) : State := s.modHli (fun h => { h with attn := s.anyEnabledFlag })

/-! ## The fetch -/

/-- Whether the condition of a bay's condition flag holds; the other flags stand for none (R182). -/
def State.conditionHolds (s : State) (b : BayNo) : BayFlag → Bool
  | .link => (s.clcAt b).link == .lost
  | .sensor => (s.bfeAt b).conflict
  | .overdraw => (s.bfeAt b).tripped
  | .dock | .undock | .faults | .heat | .lamp | .holds | .clearance | .departed | .late | .wrongBay => false

/-- Whether the condition of a hall flag holds (R182). -/
def State.hallConditionHolds (s : State) : HallFlag → Bool
  | .clockUnset => !s.clock.isSet
  | .reset | .shed | .budget | .lane | .gateUnexpected | .hostLinkError => false

/-- What a fetch does with a flag: a set flag whose condition holds stays set with count 0, any other reported flag is
cleared, a flag that was not set stays as it is (R182, R183). -/
def Flag.afterFetch (f : Flag) (holds : Bool) : Flag :=
  if f.set then (if holds then { f with count := 0 } else f.fetched) else f

/-- The thirteen flags of a bay after a fetch (R183). -/
def State.fetchBay (s : State) (b : BayNo) : Vector Flag 13 :=
  let f := fun k => (s.flag b k).afterFetch (s.conditionHolds b k)
  #v[f .dock, f .undock, f .sensor, f .link, f .faults, f .heat, f .lamp, f .holds, f .clearance, f .departed, f .late,
    f .overdraw, f .wrongBay]

/-- The seven hall flags after a fetch (R183). -/
def State.fetchHall (s : State) : Vector Flag 7 :=
  let f := fun k => (s.hallFlag k).afterFetch (s.hallConditionHolds k)
  #v[f .reset, f .clockUnset, f .shed, f .budget, f .lane, f .gateUnexpected, f .hostLinkError]

/-- Every reported flag treated as R182 lays down, then ATTN re-evaluated (R183). -/
def State.fetched (s : State) : State :=
  let g := fun b => s.fetchBay b
  ({ s with
    flags := #v[g 0, g 1, g 2, g 3, g 4, g 5, g 6, g 7, g 8, g 9, g 10, g 11, g 12, g 13, g 14, g 15]
    hallFlags := s.fetchHall } : State).reattend

end Sys2Proof.Machine
end

