-- ==== Sys2Proof/Machine/Heat.lean ====
section
/-! DEFINITION. The Heat Planner: the computation of a plan, its states, samples, suspension, ending, readiness
(R78 to R98). -/

namespace Sys2Proof.Machine

/-! ## The computation -/

/-- What the computation reads besides the plan: the profile's heater (stages capable, stage power in 100 W) and cabin,
the cabin temperature to use, the ambient, the settings heat margin, maximum lead and default cabin values (R82). -/
structure HeatFigures where
  stages : Nat
  power : Nat
  cabin : Option (Nat × Nat)
  cabinUsed : Int
  ambient : Int
  margin : Nat
  maxLead : Nat
  defaultCapacity : Nat
  defaultLoss : Nat
  deriving DecidableEq, Repr

/-- Heat capacity C in kJ/K (R82, step 2). -/
def HeatFigures.capacity (x : HeatFigures) : Nat := match x.cabin with | some c => c.1 | none => x.defaultCapacity

/-- Loss coefficient U in W/K (R82, step 2). -/
def HeatFigures.loss (x : HeatFigures) : Nat := match x.cabin with | some c => c.2 | none => x.defaultLoss

/-- Full heater power in W (R82, step 1). -/
def HeatFigures.fullPower (x : HeatFigures) : Nat := x.stages * x.power * 100

/-- Temperature rise, in 0.1 K (R83, step 3). -/
def HeatFigures.rise (x : HeatFigures) (target : Int) : Int := target - x.cabinUsed

/-- Energy E in kJ (R83, step 4). -/
def HeatFigures.energy (x : HeatFigures) (target : Int) : Nat := ceilDiv (x.capacity * (x.rise target).toNat) 10

/-- Mean loss L in W (R83, step 5). -/
def HeatFigures.meanLoss (x : HeatFigures) (target : Int) : Nat :=
  let b := target + x.cabinUsed - 2 * x.ambient
  if b ≤ 0 then 0 else ceilDiv (x.loss * b.toNat) 20

/-- Net power Pn in W (R84, step 6). -/
def HeatFigures.netPower (x : HeatFigures) (target : Int) : Int := (x.fullPower : Int) - (x.meanLoss target : Int)

/-- Heating time t in s of step 7 (R84). -/
def HeatFigures.heatTime (x : HeatFigures) (target : Int) : Nat :=
  ceilDiv (x.energy target * 1000) (x.netPower target).toNat

/-- The lead of step 7 before the maximum is applied, in min (R84). -/
def HeatFigures.wantedLead (x : HeatFigures) (target : Int) : Nat := ceilDiv (x.heatTime target) 60 + x.margin

/-- Holding stages (R85, step 9). -/
def HeatFigures.holding (x : HeatFigures) (target : Int) : Nat :=
  let wh := if x.ambient < target then ceilDiv (x.loss * (target - x.ambient).toNat) 10 else 0
  min x.stages (ceilDiv wh (x.power * 100))

/-- Step 8: the start time and the time-based HOLDING point from the lead and t (R84). -/
def Plan.schedule (p : Plan) (at_ lead t : Nat) : Plan :=
  let start := if at_ < 60 * lead then 0 else at_ - 60 * lead
  { p with lead := lead, time := t, start := start, holdingPoint := min (start + t) Config.maxTime }

/-- The whole computation for a target and a scheduled time (R82 to R85). LATE and NO_HEATER are not touched. -/
def Plan.compute (p : Plan) (x : HeatFigures) (target : Int) (at_ : Nat) : Plan :=
  let q := { p with
    cabinUsed := x.cabinUsed, ambientUsed := x.ambient, defaultCabin := x.cabin.isNone,
    holdingStages := x.holding target }
  if x.rise target ≤ 0 then
    { q with energy := 0, loss := 0, netPower := 0, unreachable := false, short := false }.schedule at_
      (min x.margin x.maxLead) 0
  else
    let r := { q with energy := x.energy target, loss := x.meanLoss target, netPower := x.netPower target }
    if x.netPower target < 500 then
      { r with unreachable := true, short := false }.schedule at_ x.maxLead (x.maxLead * 60)
    else if x.maxLead < x.wantedLead target then
      { r with unreachable := false, short := true }.schedule at_ x.maxLead (x.heatTime target)
    else { r with unreachable := false, short := false }.schedule at_ (x.wantedLead target) (x.heatTime target)

/-- The figures the computation reads for a bay with a heater (R82). -/
def State.heatFigures (s : State) (b : BayNo) (stages power : Nat) : HeatFigures :=
  { stages := stages, power := power, cabin := (s.dkuAt b).profile.cabin,
    cabinUsed := match (s.hplAt b).sample with | some x => x.1 | none => s.ambient
    ambient := s.ambient, margin := s.setting 5, maxLead := s.setting 6, defaultCapacity := s.setting 8,
    defaultLoss := s.setting 9 }

/-- A bay's plan computed anew, where it has a target, a scheduled time and a heater (R86). -/
def State.computed (s : State) (b : BayNo) (p : Plan) : Plan :=
  match p.target, p.scheduled, (s.dkuAt b).profile.heater with
  | some t, some at_, some (n, w) => p.compute (s.heatFigures b n w) t at_
  | _, _, _ => p

/-! ## Plan states -/

/-- What the state rules read: the depot time, the tolerance, the assumed-cabin mark (R87, R88). -/
structure HeatClock where
  now : Nat
  tolerance : Int
  assumed : Bool
  deriving DecidableEq, Repr

def State.heatClock (s : State) (b : BayNo) : HeatClock :=
  ⟨s.clock.time, (s.setting 7 : Nat), (s.hplAt b).sample.isNone⟩

/-- A plan with the states it has entered, in order; each is one raising of HEAT (R92, log 13). -/
abbrev Course := Plan × List PlanState

/-- A state entered. -/
def Plan.enter (p : Plan) (st : PlanState) : Course := ({ p with state := st }, [st])

/-- ΔT as the latest computation used it (R87). -/
def Plan.rise (p : Plan) : Int := p.target.getD 0 - p.cabinUsed

/-- The plan enters HEATING, and goes on to HOLDING where the time-based point under the assumed-cabin mark is reached
(R88). -/
def Plan.enterHeating (p : Plan) (k : HeatClock) : Course :=
  if k.assumed ∧ p.holdingPoint ≤ k.now then ({ p with state := .holding }, [.heating, .holding]) else p.enter .heating

/-- The start evaluation of a computed plan that waits (R87). -/
def Plan.startEvaluation (p : Plan) (k : HeatClock) : Course :=
  if k.now < p.start then ({ p with state := .waiting }, [])
  else
    let q := { p with late := p.late || decide (p.start < k.now) }
    if p.rise ≤ k.tolerance then q.enter .holding else q.enterHeating k

/-- Whether a plan is in WAITING, HEATING, HOLDING or SUSPENDED (R86). -/
def PlanState.active : PlanState → Bool
  | .waiting | .heating | .holding | .suspended => true
  | .none | .ended => false

/-- Whether a plan is in WAITING, HEATING or HOLDING (R90). -/
def PlanState.running : PlanState → Bool
  | .waiting | .heating | .holding => true
  | .none | .suspended | .ended => false

/-- What a recomputation does after the figures are renewed (R86). -/
def Plan.recomputed (p : Plan) (k : HeatClock) : Course :=
  match p.state with
  | .waiting => p.startEvaluation k
  | .heating => if k.assumed ∧ p.holdingPoint ≤ k.now then p.enter .holding else (p, [])
  | .none | .holding | .suspended | .ended => (p, [])

/-- The sample tests, with the sample's own Tc (R88, R89). -/
def Plan.sampleTest (p : Plan) (k : HeatClock) : Course :=
  match p.state with
  | .heating => if p.rise ≤ k.tolerance then p.enter .holding else (p, [])
  | .holding => if 2 * k.tolerance < p.rise then p.enter .heating else (p, [])
  | .none | .waiting | .suspended | .ended => (p, [])

/-- One course followed by another. -/
def Course.then (c : Course) (f : Plan → Course) : Course := ((f c.1).1, c.2 ++ (f c.1).2)

/-- A plan suspended, remembering its state (R80 step 4, R90). -/
def Plan.suspend (p : Plan) : Course :=
  if p.state.running then ({ p with state := .suspended, prior := some p.state }, [.suspended]) else (p, [])

/-- A suspended plan that resumes, already recomputed (R91). -/
def Plan.resume (p : Plan) (k : HeatClock) : Course :=
  let q := { p with prior := none }
  if k.now < p.start then q.enter .waiting
  else
    match p.prior with
    | some .heating => if p.rise ≤ k.tolerance then q.enter .holding else q.enterHeating k
    | some .holding => if 2 * k.tolerance < p.rise then q.enterHeating k else q.enter .holding
    | _ => q.startEvaluation k

/-- The rank of an end code (R95). -/
def EndCode.rank : EndCode → Nat
  | .completed => 1 | .undocked => 2 | .hostCancel => 3 | .stageFail => 4 | .coachStop => 5 | .overdraw => 6

/-- An end event: the plan ends with its code, or an ended plan's code gives way to a higher-ranked one (R95). -/
def Plan.endWith (p : Plan) (code : EndCode) : Course :=
  match p.state, p.endCode with
  | .ended, some old => if old.rank < code.rank then ({ p with endCode := some code }, [.ended]) else (p, [])
  | _, _ => ({ p with state := .ended, prior := none, endCode := some code }, [.ended])

/-! ## Readiness and the figures handed on -/

/-- The readiness of a plan state other than SUSPENDED, for a departure with a target (R98). -/
def readinessOf (st : PlanState) (code : Option EndCode) : Readiness :=
  match st, code with
  | .ended, some .overdraw | .ended, some .coachStop | .ended, some .stageFail => .fault
  | .ended, some .completed => .ready
  | .holding, _ => .ready
  | _, _ => .notReady

/-- A plan's heat readiness for a departure with a target (R98). -/
def Plan.readiness (p : Plan) (causeLink : Bool) : Readiness :=
  match p.state, p.prior with
  | .suspended, some st => if causeLink then .notReady else readinessOf st none
  | _, _ => readinessOf p.state p.endCode

/-- A bay's heat readiness (R98). -/
def State.readiness (s : State) (b : BayNo) : Readiness :=
  match s.activeOf b with
  | none => .notReady
  | some d => if d.target.isNone then .ready else (s.hplAt b).plan.readiness (s.hplAt b).causeLink

/-- The HEAT_DATA_STALE condition (R98). -/
def Hpl.staleCondition (h : Hpl) : Bool := h.plan.state.active && (h.stale || h.sample.isNone)

/-- The plan class handed to the FAL (R92). -/
def Plan.rowClass (p : Plan) : RowClass :=
  match p.state with
  | .heating => .heating
  | .holding => .holding
  | .none | .waiting | .suspended | .ended => .none

/-- The request handed to the FAL (R92). -/
def Plan.request (p : Plan) (heater : Option (Nat × Nat)) : Nat :=
  match p.state with
  | .heating => match heater with | some h => h.1 | none => 0
  | .holding => p.holdingStages
  | .none | .waiting | .suspended | .ended => 0

/-- The three figures handed to the FAL: class, request, rank key (R92). -/
def Plan.figures (p : Plan) (heater : Option (Nat × Nat)) : RowClass × Nat × Option Nat :=
  (p.rowClass, p.request heater, p.scheduled)

/-- Whether a bay's plan would hand the FAL another figure as `p` than as it stands (R92). -/
def State.figuresChange (s : State) (b : BayNo) (p : Plan) : Bool :=
  p.figures (s.dkuAt b).profile.heater != (s.hplAt b).plan.figures (s.dkuAt b).profile.heater

/-- A course carried out on a bay's plan: HEAT raised for each state entered, then the figures to the FAL where `hands`
says so, then the readiness to the DPM (R92). -/
def carryCourse (b : BayNo) (hands : Bool) (c : Course) (s : State) : Reaction :=
  (s.modHpl b (fun h => { h with plan := c.1 }),
    c.2.map (fun st => .raise b .heat (.heat st (if st = .ended then c.1.endCode else none)) false) ++
    (if hands then [.falTake b] else []) ++ [.tellHeat b])

/-- A course taken by a standing plan: the FAL has the figures in the event that changes any of them (R92, R106). -/
def takeCourse (b : BayNo) (c : Course) (s : State) : Reaction := carryCourse b (s.figuresChange b c.1) c s

/-- A course taken by a plan that is formed, or computed at an amendment: its figures go to the FAL (R80 step 6, R81,
R120). -/
def formCourse (b : BayNo) (c : Course) (s : State) : Reaction := carryCourse b true c s

/-! ## Notices taken by the HPL -/

/-- The record of a new plan before its state is chosen (R80, step 1). -/
def Plan.fresh (d : Option Departure) : Plan :=
  match d with
  | some d => { Plan.empty with departure := some d.id, target := d.target, scheduled := some d.time }
  | none => .empty

/-- Whether a plan for a bay can be computed: DOCKED, a target, a heater (R80, step 3). -/
def State.computable (s : State) (b : BayNo) (p : Plan) : Bool :=
  (s.dkuAt b).state == .docked && p.target.isSome && p.scheduled.isSome && (s.dkuAt b).profile.heater.isSome

/-- Whether a DOCKED bay's plan with a target stays in NONE for want of a heater (R80, step 3). -/
def State.lacksHeater (s : State) (b : BayNo) (p : Plan) : Bool :=
  (s.dkuAt b).state == .docked && p.target.isSome && (s.dkuAt b).profile.heater.isNone

/-- Steps 3 and 4 of R80 for a plan that can be computed: WAITING, the start evaluation, a standing suspension cause. -/
def State.launch (s : State) (b : BayNo) (p : Plan) : Course :=
  let c := ((s.computed b p).enter .waiting).then (fun q => q.startEvaluation (s.heatClock b))
  if (s.hplAt b).causeLink || (s.hplAt b).causeClearing then c.then Plan.suspend else c

/-- Step 5 of R80: a plan formed while the coach-stop mark is set or the heat-stop condition holds ends COACH_STOP. -/
def State.stopAtFormation (s : State) (b : BayNo) (p : Plan) : Course :=
  if (s.hplAt b).coachStop || ((s.frdAt b).table.heatStop && !(s.frdAt b).retained) then p.endWith .coachStop else (p, [])

/-- A new plan is formed (R80). -/
def hplForm (b : BayNo) (atDocked : Bool) (s : State) : Reaction :=
  let s1 := s.modHpl b (fun h => { h with causeLink := h.causeLink && !atDocked })
  let p := Plan.fresh (s1.activeOf b)
  let c :=
    if s1.computable b p then s1.launch b p
    else
      { p with noHeater := s1.lacksHeater b p }.enter .none
  formCourse b (c.then (s1.stopAtFormation b)) s1

/-- The plan goes to NONE (R81). -/
def Plan.toNone (p : Plan) : Course :=
  ({ p with state := .none, prior := none }, if p.state = .none then [] else [.none])

/-- The active departure becomes none (R81). -/
def hplNone (b : BayNo) (s : State) : Reaction :=
  let p := (s.hplAt b).plan
  if p.state = .ended then takeCourse b (p, []) s
  else
    takeCourse b ({ p with
      departure := none, target := none, scheduled := none, unreachable := false, short := false, late := false,
      noHeater := false, defaultCabin := false }.toNone) s

/-- A recomputation (R86). -/
def State.recompute (s : State) (b : BayNo) (p : Plan) : Course :=
  if p.state.active then (s.computed b p).recomputed (s.heatClock b) else (p, [])

/-- The active departure is amended (R81). -/
def hplAmended (b : BayNo) (s : State) : Reaction :=
  let p := (s.hplAt b).plan
  match s.activeOf b with
  | none => takeCourse b (p, []) s
  | some d =>
    let q := { p with target := d.target, scheduled := some d.time }
    if p.state = .ended then takeCourse b (p, []) s
    else if d.target.isNone then takeCourse b q.toNone s
    else if p.state = .none then
      if s.computable b q then formCourse b ((s.launch b q).then (s.stopAtFormation b)) s else takeCourse b (q, []) s
    else takeCourse b (s.recompute b q) s

/-- A recomputation at a hall-wide event (R86). -/
def hplRecompute (b : BayNo) (s : State) : Reaction :=
  if (s.hplAt b).plan.state.active then takeCourse b (s.recompute b (s.hplAt b).plan) s else done s

/-- The depot time reaches a WAITING plan's start time (R87). -/
def hplStart (b : BayNo) (s : State) : Reaction :=
  let p := (s.hplAt b).plan
  if p.state = .waiting ∧ p.start = s.clock.time then takeCourse b (p.startEvaluation (s.heatClock b)) s else done s

/-- The depot time reaches the time-based HOLDING point of a HEATING plan without samples (R88). -/
def hplPoint (b : BayNo) (s : State) : Reaction :=
  let p := (s.hplAt b).plan
  if p.state = .heating ∧ (s.hplAt b).sample = none ∧ p.holdingPoint ≤ s.clock.time then
    takeCourse b (p.enter .holding) s
  else done s

/-- The stale timer's period (R94). -/
def State.stalePeriod (s : State) : Timer := secTimer (3 * s.setting 4)

/-- A valid cabin sample (R93). -/
def hplSample (b : BayNo) (t : Int) (s : State) : Reaction :=
  let s1 := s.modHpl b (fun h => { h with
    sample := some (t, s.clock.time)
    stale := false
    staleTimer := if (s.dkuAt b).state = .docked then s.stalePeriod else h.staleTimer })
  takeCourse b ((s1.recompute b (s1.hplAt b).plan).then (fun p => p.sampleTest (s1.heatClock b))) s1

/-- A heater-stop request: the coach-stop mark and the end event (R95, R96). -/
def hplCoachStop (b : BayNo) (s : State) : Reaction :=
  let s1 := s.modHpl b (fun h => { h with coachStop := true })
  takeCourse b ((s1.hplAt b).plan.endWith .coachStop) s1

/-- An end event (R95). -/
def hplEnd (b : BayNo) (code : EndCode) (s : State) : Reaction := takeCourse b ((s.hplAt b).plan.endWith code) s

/-- A suspension cause was added (R90). -/
def hplCauseAdded (b : BayNo) (s : State) : Reaction := takeCourse b (s.hplAt b).plan.suspend s

/-- A suspension cause was removed: with none left a suspended plan is recomputed and resumes (R91). -/
def hplCauseDropped (b : BayNo) (s : State) : Reaction :=
  let h := s.hplAt b
  if h.plan.state = .suspended ∧ h.causeLink = false ∧ h.causeClearing = false then
    takeCourse b ((s.computed b h.plan).resume (s.heatClock b)) s
  else takeCourse b (h.plan, []) s

def hplAddLink (b : BayNo) (s : State) : Reaction := hplCauseAdded b (s.modHpl b (fun h => { h with causeLink := true }))
def hplDropLink (b : BayNo) (s : State) : Reaction :=
  hplCauseDropped b (s.modHpl b (fun h => { h with causeLink := false }))
def hplAddClearing (b : BayNo) (s : State) : Reaction :=
  hplCauseAdded b (s.modHpl b (fun h => { h with causeClearing := true }))
def hplDropClearing (b : BayNo) (s : State) : Reaction :=
  hplCauseDropped b (s.modHpl b (fun h => { h with causeClearing := false }))

/-- The bay enters DOCKED: the stale timer starts and the plan is formed (R48 step 5, R94). -/
def hplDocked (b : BayNo) (s : State) : Reaction :=
  hplForm b true (s.modHpl b (fun h => { h with staleTimer := s.stalePeriod }))

/-- The sample record emptied, the stale mark and timer cleared, the coach-stop mark cleared (R94, R96). -/
def Hpl.endSession (h : Hpl) : Hpl := { h with sample := none, stale := false, staleTimer := none, coachStop := false }

/-- A docking start (R94, R96). -/
def hplSessionStart (b : BayNo) (s : State) : Reaction := (s.modHpl b Hpl.endSession, [.tellHeat b])

/-- An undocking: the plan ends UNDOCKED, the suspension causes and the session's data go (R52, R90, R94, R96). -/
def hplUndock (b : BayNo) (s : State) : Reaction :=
  let s1 := s.modHpl b (fun h => { h.endSession with causeLink := false, causeClearing := false })
  takeCourse b ((s1.hplAt b).plan.endWith .undocked) s1

/-- The plug-out in CLEARING: the plan ends COMPLETED, the CLEARING cause goes, the stale timer stops and the stale mark
is cleared (R90, R94, R169). -/
def hplPlugOut (b : BayNo) (s : State) : Reaction :=
  let s1 := s.modHpl b (fun h => { h with causeClearing := false, stale := false, staleTimer := none })
  takeCourse b ((s1.hplAt b).plan.endWith .completed) s1

/-- A bay disable: the sample record is emptied (R94). -/
def hplForget (b : BayNo) (s : State) : Reaction :=
  (s.modHpl b (fun h => { h with sample := none, stale := false, staleTimer := none }), [.tellHeat b])

/-- The stale timer expires (R94). -/
def hplStale (b : BayNo) (s : State) : Reaction :=
  if (s.hplAt b).staleTimer.isSome then
    (s.modHpl b (fun h => { h with stale := true, staleTimer := none }),
      [.raise b .heat .heatStale false, .tellHeat b])
  else done s

end Sys2Proof.Machine
end

