-- ==== Sys2Proof/WellFormed.lean ====
section
/-! DEFINITION. Which commands are well formed. A request row's operands are fields of fixed width and need no check;
the three rows below carry more than the links can. -/

namespace Sys2Proof

/-- The request kind codes of R192. -/
def requestKinds : List Nat :=
  [0x01, 0x02, 0x03, 0x04, 0x05, 0x06, 0x07, 0x08, 0x10, 0x11, 0x12, 0x13, 0x14, 0x15, 0x20, 0x21, 0x22, 0x23, 0x24,
    0x25, 0x30, 0x31, 0x32, 0x33, 0x34, 0x40, 0x41, 0x42, 0x43, 0x50, 0x51, 0x52, 0x53, 0x54, 0x55, 0x60, 0x61, 0x62,
    0x63, 0x64, 0x70, 0x71, 0x72]

/-- A received host-link frame has LEN up to 1024 (R178); UNKNOWN_KIND names a kind that R192 does not list (R180); a
complete bay-link reply has LEN up to 32 (R18, R19). -/
def Instr.wellFormed : Instr → Bool
  | .hostFrameReceived _ body => decide (body.payload.length ≤ Config.maxHostPayload)
  | .unknownKind kind => !requestKinds.contains kind.toNat
  | .replyFrame _ _ payload _ => decide (payload.length ≤ Config.maxBayPayload)
  | .powerOn | .hostFrameFault _ | .hostFrameGap | .replySent | .ident | .restart | .eventsFetch | .eventMask _
  | .settingsWrite _ _ | .settingsRead _ | .setTime _ | .timeRead | .bayEnable _ | .bayDisable _ | .bayStatus _
  | .linkRead _ | .redock _ | .profileRead _ | .mapClear | .mapAppend _ | .mapInsert _ _ | .mapRead | .faultScan _
  | .faultsRead _ | .ambientSet _ | .heatRead _ | .shedEnter | .shedLeave | .budgetRead | .lampStart _ _ _
  | .lampAdvance _ | .lampAbort _ | .lampRead _ | .departureAdd _ _ _ _ | .departureAmend _ _ | .departureCancel _
  | .departureWaive _ _ | .departureRead _ | .departureList _ | .holdPush _ _ | .holdPop _ | .hallHoldPush _
  | .hallHoldPop | .holdsRead _ | .laneClose _ | .laneOpen _ | .lanesRead | .rawInputChange _ _ | .presenceChange _
  | .plugChange _ | .shedLineChange | .gatePassage _ | .meterSample _ _ _ _ | .overdrawTrip _ | .openWaitTimer _
  | .plugTimer _ | .clockTick | .lineQuietSend _ | .requestSent _ | .replyCharacterError _ | .noReply _ | .replyGap _
  | .reprobeTimer _ | .pollTimer _ | .staleTimer _ | .rampTimer | .confirmTimer | .baselineComplete _ _
  | .settleTimer _ | .litComplete _ _ _ | .validityTimer _ | .laneTimer _ | .sofCharacter | .replyStart _ => true

end Sys2Proof
end

