-- ==== Sys2Proof/Decode.lean ====
section
/-! DEFINITION. The decoder. No row of spec/opcode_table.json gives bits (each has no fields), so no word spells a
command and `decodeTableWord` answers none. What the host sends is a host-link frame: `decodeRequest` reads its KIND and
payload as R192 and R196 lay them out, and `encodeRequest` writes the frame of a request. -/

namespace Sys2Proof

/-- The command a word spells by the table's bits: none, since the table gives no row any bits. -/
def decodeTableWord (_nbits _w : Nat) : Option Instr := none

/-- A two-byte field, least significant byte first (R190). -/
def word16 (lo hi : Byte) : Word16 := hi ++ lo

/-- A four-byte field, least significant byte first (R190). -/
def word32 (b0 b1 b2 b3 : Byte) : Word32 := (b3 ++ b2) ++ (b1 ++ b0)

/-- The bytes of a two-byte field, least significant first (R190). -/
def bytes16 (w : Word16) : List Byte := [w.extractLsb' 0 8, w.extractLsb' 8 8]

/-- The bytes of a four-byte field, least significant first (R190). -/
def bytes32 (w : Word32) : List Byte := [w.extractLsb' 0 8, w.extractLsb' 8 8, w.extractLsb' 16 8, w.extractLsb' 24 8]

/-- A payload of no bytes, or FORMAT (R180). -/
def payload0 (i : Instr) : List Byte → Except RefusalReason Instr
  | [] => .ok i
  | _ => .error .format

/-- A payload of one byte, or FORMAT (R180). -/
def payload1 (f : Byte → Instr) : List Byte → Except RefusalReason Instr
  | [x] => .ok (f x)
  | _ => .error .format

/-- A payload of two bytes, or FORMAT (R180). -/
def payload2 (f : Byte → Byte → Instr) : List Byte → Except RefusalReason Instr
  | [x, y] => .ok (f x y)
  | _ => .error .format

/-- A payload of three bytes, or FORMAT (R180). -/
def payload3 (f : Byte → Byte → Byte → Instr) : List Byte → Except RefusalReason Instr
  | [x, y, z] => .ok (f x y z)
  | _ => .error .format

/-- EVENT_MASK: empty to read the mask, three bytes to replace it (R184, R192). -/
def decodeEventMask : List Byte → Except RefusalReason Instr
  | [] => .ok (.eventMask none)
  | [x, y, z] => .ok (.eventMask (some (z ++ (y ++ x))))
  | _ => .error .format

/-- SETTINGS_WRITE: the setting number, then the value in four bytes (R192). -/
def decodeSettingsWrite : List Byte → Except RefusalReason Instr
  | [n, v0, v1, v2, v3] => .ok (.settingsWrite n (word32 v0 v1 v2 v3))
  | _ => .error .format

/-- SET_TIME: the depot time in four bytes (R192). -/
def decodeSetTime : List Byte → Except RefusalReason Instr
  | [t0, t1, t2, t3] => .ok (.setTime (word32 t0 t1 t2 t3))
  | _ => .error .format

/-- MAP_APPEND: code low, code high, source unit, disposition, heat-stop (R192). -/
def decodeMapAppend : List Byte → Except RefusalReason Instr
  | [l0, l1, h0, h1, src, disp, stop] => .ok (.mapAppend ⟨word16 l0 l1, word16 h0 h1, src, disp, stop⟩)
  | _ => .error .format

/-- MAP_INSERT: the position, then a map entry (R192). -/
def decodeMapInsert : List Byte → Except RefusalReason Instr
  | [pos, l0, l1, h0, h1, src, disp, stop] => .ok (.mapInsert pos ⟨word16 l0 l1, word16 h0 h1, src, disp, stop⟩)
  | _ => .error .format

/-- DEPARTURE_ADD: the 15-byte departure record (R196). -/
def decodeDepartureAdd : List Byte → Except RefusalReason Instr
  | [i0, i1, bay, flags, t0, t1, t2, t3, g0, g1, f0, f1, lane, lead, waivers] =>
    .ok (.departureAdd (word16 i0 i1) bay ⟨flags, word32 t0 t1 t2 t3, word16 g0 g1, word16 f0 f1, lane, lead⟩ waivers)
  | _ => .error .format

/-- DEPARTURE_AMEND: the id, then bytes 3 to 13 of the departure record (R196). -/
def decodeDepartureAmend : List Byte → Except RefusalReason Instr
  | [i0, i1, flags, t0, t1, t2, t3, g0, g1, f0, f1, lane, lead] =>
    .ok (.departureAmend (word16 i0 i1) ⟨flags, word32 t0 t1 t2 t3, word16 g0 g1, word16 f0 f1, lane, lead⟩)
  | _ => .error .format

/-- The request a received frame carries: a KIND that names no request kind is UNKNOWN_KIND, a payload length the kind
does not accept is FORMAT, in that order (R180, R192). -/
def decodeRequest (f : HostFrame) : Except RefusalReason Instr :=
  match f.kind.toNat with
  | 0x01 => payload0 .ident f.payload
  | 0x02 => payload0 .restart f.payload
  | 0x03 => payload0 .eventsFetch f.payload
  | 0x04 => decodeEventMask f.payload
  | 0x05 => decodeSettingsWrite f.payload
  | 0x06 => payload1 .settingsRead f.payload
  | 0x07 => decodeSetTime f.payload
  | 0x08 => payload0 .timeRead f.payload
  | 0x10 => payload1 .bayEnable f.payload
  | 0x11 => payload1 .bayDisable f.payload
  | 0x12 => payload1 .bayStatus f.payload
  | 0x13 => payload1 .linkRead f.payload
  | 0x14 => payload1 .redock f.payload
  | 0x15 => payload1 .profileRead f.payload
  | 0x20 => payload0 .mapClear f.payload
  | 0x21 => decodeMapAppend f.payload
  | 0x22 => decodeMapInsert f.payload
  | 0x23 => payload0 .mapRead f.payload
  | 0x24 => payload1 .faultScan f.payload
  | 0x25 => payload1 .faultsRead f.payload
  | 0x30 => payload2 (fun lo hi => .ambientSet (word16 lo hi)) f.payload
  | 0x31 => payload1 .heatRead f.payload
  | 0x32 => payload0 .shedEnter f.payload
  | 0x33 => payload0 .shedLeave f.payload
  | 0x34 => payload0 .budgetRead f.payload
  | 0x40 => payload3 .lampStart f.payload
  | 0x41 => payload1 .lampAdvance f.payload
  | 0x42 => payload1 .lampAbort f.payload
  | 0x43 => payload1 .lampRead f.payload
  | 0x50 => decodeDepartureAdd f.payload
  | 0x51 => decodeDepartureAmend f.payload
  | 0x52 => payload2 (fun lo hi => .departureCancel (word16 lo hi)) f.payload
  | 0x53 => payload3 (fun lo hi w => .departureWaive (word16 lo hi) w) f.payload
  | 0x54 => payload2 (fun lo hi => .departureRead (word16 lo hi)) f.payload
  | 0x55 => payload1 .departureList f.payload
  | 0x60 => payload2 .holdPush f.payload
  | 0x61 => payload1 .holdPop f.payload
  | 0x62 => payload1 .hallHoldPush f.payload
  | 0x63 => payload0 .hallHoldPop f.payload
  | 0x64 => payload1 .holdsRead f.payload
  | 0x70 => payload1 .laneClose f.payload
  | 0x71 => payload1 .laneOpen f.payload
  | 0x72 => payload0 .lanesRead f.payload
  | _ => .error .unknownKind

/-- The bytes of a map entry (R192). -/
def MapWords.bytes (e : MapWords) : List Byte :=
  bytes16 e.low ++ bytes16 e.high ++ [e.source, e.disposition, e.heatStop]

/-- Bytes 3 to 13 of a departure record (R196). -/
def DepartureWords.bytes (d : DepartureWords) : List Byte :=
  [d.flags] ++ bytes32 d.time ++ bytes16 d.target ++ bytes16 d.fleet ++ [d.lane, d.lead]

/-- The host-link frame of a request row (R192); none for a row that is no request. -/
def encodeRequest : Instr → Option HostFrame
  | .ident => some ⟨0x01, []⟩
  | .restart => some ⟨0x02, []⟩
  | .eventsFetch => some ⟨0x03, []⟩
  | .eventMask none => some ⟨0x04, []⟩
  | .eventMask (some m) => some ⟨0x04, [m.extractLsb' 0 8, m.extractLsb' 8 8, m.extractLsb' 16 8]⟩
  | .settingsWrite n v => some ⟨0x05, n :: bytes32 v⟩
  | .settingsRead n => some ⟨0x06, [n]⟩
  | .setTime t => some ⟨0x07, bytes32 t⟩
  | .timeRead => some ⟨0x08, []⟩
  | .bayEnable b => some ⟨0x10, [b]⟩
  | .bayDisable b => some ⟨0x11, [b]⟩
  | .bayStatus b => some ⟨0x12, [b]⟩
  | .linkRead b => some ⟨0x13, [b]⟩
  | .redock b => some ⟨0x14, [b]⟩
  | .profileRead b => some ⟨0x15, [b]⟩
  | .mapClear => some ⟨0x20, []⟩
  | .mapAppend e => some ⟨0x21, e.bytes⟩
  | .mapInsert p e => some ⟨0x22, p :: e.bytes⟩
  | .mapRead => some ⟨0x23, []⟩
  | .faultScan b => some ⟨0x24, [b]⟩
  | .faultsRead b => some ⟨0x25, [b]⟩
  | .ambientSet t => some ⟨0x30, bytes16 t⟩
  | .heatRead b => some ⟨0x31, [b]⟩
  | .shedEnter => some ⟨0x32, []⟩
  | .shedLeave => some ⟨0x33, []⟩
  | .budgetRead => some ⟨0x34, []⟩
  | .lampStart b m p => some ⟨0x40, [b, m, p]⟩
  | .lampAdvance b => some ⟨0x41, [b]⟩
  | .lampAbort b => some ⟨0x42, [b]⟩
  | .lampRead b => some ⟨0x43, [b]⟩
  | .departureAdd id b d w => some ⟨0x50, bytes16 id ++ [b] ++ d.bytes ++ [w]⟩
  | .departureAmend id d => some ⟨0x51, bytes16 id ++ d.bytes⟩
  | .departureCancel id => some ⟨0x52, bytes16 id⟩
  | .departureWaive id w => some ⟨0x53, bytes16 id ++ [w]⟩
  | .departureRead id => some ⟨0x54, bytes16 id⟩
  | .departureList n => some ⟨0x55, [n]⟩
  | .holdPush b r => some ⟨0x60, [b, r]⟩
  | .holdPop b => some ⟨0x61, [b]⟩
  | .hallHoldPush r => some ⟨0x62, [r]⟩
  | .hallHoldPop => some ⟨0x63, []⟩
  | .holdsRead b => some ⟨0x64, [b]⟩
  | .laneClose l => some ⟨0x70, [l]⟩
  | .laneOpen l => some ⟨0x71, [l]⟩
  | .lanesRead => some ⟨0x72, []⟩
  | .powerOn | .hostFrameReceived _ _ | .hostFrameFault _ | .hostFrameGap | .replySent | .unknownKind _
  | .rawInputChange _ _ | .presenceChange _ | .plugChange _ | .shedLineChange | .gatePassage _ | .meterSample _ _ _ _
  | .overdrawTrip _ | .openWaitTimer _ | .plugTimer _ | .clockTick | .lineQuietSend _ | .requestSent _
  | .replyFrame _ _ _ _ | .replyCharacterError _ | .noReply _ | .replyGap _ | .reprobeTimer _ | .pollTimer _
  | .staleTimer _ | .rampTimer | .confirmTimer | .baselineComplete _ _ | .settleTimer _ | .litComplete _ _ _
  | .validityTimer _ | .laneTimer _ | .sofCharacter | .replyStart _ => none

end Sys2Proof
end

