-- ==== Sys2Proof/Machine/Frames.lean ====
section
/-! DEFINITION. The check sequences, the frames of both links, the codes of R193 and R198, and the reading of a coach's
reply (R18 to R22, R190, R191, R198, R201). -/

namespace Sys2Proof.Machine

/-! ## Check sequences -/

/-- `n` bit steps of the CRC-8 with polynomial 0x07 (R190). -/
def crc8Steps : Nat → Byte → Byte
  | 0, c => c
  | n + 1, c => crc8Steps n (if c.getLsbD 7 then (c <<< 1) ^^^ 0x07 else c <<< 1)

/-- The bay-link CRC-8 over a list of bytes, from 0x00 (R18, R190). -/
def crc8 (bytes : List Byte) : Byte := bytes.foldl (fun c x => crc8Steps 8 (c ^^^ x)) 0

/-- `n` bit steps of the CRC-16 with polynomial 0x1021 (R190). -/
def crc16Steps : Nat → Word16 → Word16
  | 0, c => c
  | n + 1, c => crc16Steps n (if c.getLsbD 15 then (c <<< 1) ^^^ 0x1021 else c <<< 1)

/-- The host-link CRC-16 over a list of bytes, from 0xFFFF (R178, R190). -/
def crc16 (bytes : List Byte) : Word16 := bytes.foldl (fun c x => crc16Steps 8 (c ^^^ (x ++ (0 : Byte)))) 0xFFFF

/-! ## Fields -/

/-- A one-byte field. -/
def byte (n : Nat) : Byte := BitVec.ofNat 8 n

/-- A two-byte field, low byte first (R190). -/
def field16 (n : Nat) : List Byte := bytes16 (BitVec.ofNat 16 n)

/-- A three-byte field, low byte first (R202). -/
def field24 (n : Nat) : List Byte := [byte n, byte (n / 256), byte (n / 65536)]

/-- A four-byte field, low byte first (R190). -/
def field32 (n : Nat) : List Byte := bytes32 (BitVec.ofNat 32 n)

/-- A signed two-byte field, two's complement. -/
def signed16 (i : Int) : List Byte := bytes16 (BitVec.ofInt 16 i)

/-- A signed four-byte field, two's complement. -/
def signed32 (i : Int) : List Byte := bytes32 (BitVec.ofInt 32 i)

/-- A yes-or-no byte. -/
def flagByte (x : Bool) : Byte := if x then 1 else 0

/-- A group of marks, one bit each, the first in bit 0 (R202). -/
def markBits : List Bool → Nat
  | [] => 0
  | x :: xs => (if x then 1 else 0) + 2 * markBits xs

/-- A group of up to eight marks as a byte (R202). -/
def marks (xs : List Bool) : Byte := byte (markBits xs)

/-! ## Host-link frames -/

/-- What a frame's CRC covers: LEN, KIND and the payload (R178). -/
def frameBody (f : HostFrame) : List Byte := field16 f.payload.length ++ [f.kind] ++ f.payload

/-- The characters of a host-link frame as sent: SOF, LEN, KIND, payload, CRC (R178, R190, R191). -/
def frameBytes (f : HostFrame) : List Byte := [0x7E] ++ frameBody f ++ bytes16 (crc16 (frameBody f))

/-- A refusal reason's code (R193). -/
def reasonCode : RefusalReason → Nat
  | .unknownKind => 0 | .format => 1 | .range => 2 | .notEnabled => 3 | .state => 4 | .full => 5 | .empty => 6
  | .notFound => 7 | .duplicate => 8

/-- The KIND of the reply to a request kind: 0x80 more, or 0xFF for a KIND of 0x80 or above (R180). -/
def replyKind (k : Byte) : Byte := if k.toNat < 0x80 then k + 0x80 else 0xFF

/-! ## Bay-link frames -/

/-- The code of a bay-link request kind (R198). -/
def BayRequest.code : BayRequest → Nat
  | .ident => 0x10
  | .desc _ => 0x11
  | .fcount => 0x12
  | .fread _ => 0x13
  | .status => 0x14
  | .lamp _ _ => 0x15
  | .stage _ => 0x16

/-- The payload of a bay-link request (R198). -/
def BayRequest.payload : BayRequest → List Byte
  | .ident | .fcount | .status => []
  | .desc i => [byte i]
  | .fread i => [byte i]
  | .lamp c on => [byte c, flagByte on]
  | .stage n => [byte n]

/-- The SYNC character that begins every bay-link frame (R18, R190). -/
def syncMark : Byte := 0xA5

/-- What CHECK covers: LEN, KIND and the payload (R18). -/
def checkedBytes (kind : Byte) (payload : List Byte) : List Byte := byte payload.length :: kind :: payload

/-- The characters of a bay-link request: SYNC, LEN, KIND, payload, CHECK (R18, R198). -/
def BayRequest.frame (r : BayRequest) : List Byte :=
  let body := checkedBytes (byte r.code) r.payload
  [syncMark] ++ body ++ [crc8 body]

/-- What a complete reply with a good CHECK means to the request it answers; `none` is a WRONG_REPLY (R19 to R22, R198,
R201). The cabin temperature and the stages active are taken as R21 lays down. -/
def readReply (r : BayRequest) (kind : Byte) (payload : List Byte) : Option TxResult :=
  match r with
  | .ident =>
    match payload with
    | f0 :: f1 :: t :: m :: _ =>
      if kind.toNat = 0x90 ∧ (word16 f0 f1).toNat ≠ 0 then
        some (.done (.ident (word16 f0 f1).toNat t.toNat (m.toNat != 0)))
      else none
    | _ => none
  | .desc _ =>
    match payload with
    | k :: n :: body => if kind.toNat = 0x91 then some (.done (.desc k.toNat n.toNat body)) else none
    | _ => none
  | .fcount =>
    match payload with
    | n :: _ => if kind.toNat = 0x92 then some (.done (.fcount n.toNat)) else none
    | _ => none
  | .fread _ => if kind.toNat = 0x93 ∧ 12 ≤ payload.length then some (.done (.fread payload)) else none
  | .status =>
    match payload with
    | fl :: t0 :: t1 :: n :: _ =>
      if kind.toNat = 0x94 then
        let t := (word16 t0 t1).toInt
        let cabin := if fl.getLsbD 0 && decide (-400 ≤ t) && decide (t ≤ 600) then some t else none
        some (.done (.status cabin (fl.getLsbD 1) (fl.getLsbD 2) (fl.getLsbD 3) (min n.toNat 8)))
      else none
    | _ => none
  | .lamp _ _ => if kind.toNat = 0x95 then some (.done .done) else if kind.toNat = 0xEE then some .refused else none
  | .stage _ => if kind.toNat = 0x96 then some (.done .done) else if kind.toNat = 0xEE then some .refused else none

end Sys2Proof.Machine
end

