-- ==== Sys2Proof/Machine/Link.lean ====
section
/-! DEFINITION. The Coach Link Controller: the pending set and its arbiter, attempts and transactions, link states,
re-probes and the status poll (R17 to R36). -/

namespace Sys2Proof.Machine

/-! ## The pending set and the arbiter -/

/-- A transaction's first attempt, ready to be sent once the line is quiet (R17, R23). -/
def InFlight.start (r : BayRequest) (cls : Option TxClass) : InFlight := ⟨r, cls, 1, .ready Config.quietWait⟩

/-- The pending request of the highest class taken from its slot and begun, in the order HEAT, LAMP, READ, POLL (R26). -/
def Clc.takeHighest (c : Clc) : Clc :=
  match c.heatSlot, c.lampSlot, c.readSlot, c.pollSlot with
  | some n, _, _, _ => { c with heatSlot := none, inflight := some (.start (.stage n) (some .heat)) }
  | none, some (k, on), _, _ => { c with lampSlot := none, inflight := some (.start (.lamp k on) (some .lamp)) }
  | none, none, some r, _ => { c with readSlot := none, inflight := some (.start r (some .read)) }
  | none, none, none, true => { c with pollSlot := false, inflight := some (.start .status (some .poll)) }
  | none, none, none, false => c

/-- The CLC takes the next transaction when the link is ACTIVE and nothing is in flight (R26). -/
def Clc.arbitrate (c : Clc) : Clc :=
  match c.link, c.inflight with
  | .active, none => c.takeHighest
  | .active, some _ | .down, _ | .lost, _ => c

/-- A STAGE submission of class HEAT: refused on a DOWN link, else it fills or replaces the slot (R25, R27). -/
def Clc.submitHeat (c : Clc) (n : Nat) : Clc :=
  match c.link with
  | .down => c
  | .active | .lost => { c with heatSlot := some n }.arbitrate

/-- Whether a LAMP submission is taken (R25, R27). -/
def Clc.takesLamp (c : Clc) : Bool := c.link == .active && c.lampSlot.isNone

/-- A LAMP submission that is taken; a refused one leaves the CLC as it is. -/
def Clc.submitLamp (c : Clc) (circuit : Nat) (on : Bool) : Clc :=
  if c.takesLamp then { c with lampSlot := some (circuit, on) }.arbitrate else c

/-- Whether a READ submission is taken (R25, R27). -/
def Clc.takesRead (c : Clc) : Bool := c.link == .active && c.readSlot.isNone

/-- A READ submission that is taken; a refused one leaves the CLC as it is. -/
def Clc.submitRead (c : Clc) (r : BayRequest) : Clc :=
  if c.takesRead then { c with readSlot := some r }.arbitrate else c

/-- Whether a POLL is pending or in flight (R35). -/
def Clc.polling (c : Clc) : Bool :=
  c.pollSlot ||
    match c.inflight with
    | some f => f.cls == some .poll
    | none => false

/-- A POLL submission: dropped unless the link is ACTIVE and no POLL is pending or in flight (R27, R35). -/
def Clc.submitPoll (c : Clc) : Clc :=
  if c.link == .active && !c.polling then { c with pollSlot := true }.arbitrate else c

/-- Whether STAGE 0 is pending or in flight. -/
def Clc.carriesStageZero (c : Clc) : Bool :=
  c.heatSlot == some 0 ||
    match c.inflight with
    | some f => f.request == .stage 0
    | none => false

/-- Every slot emptied. -/
def Clc.dropPending (c : Clc) : Clc :=
  { c with heatSlot := none, lampSlot := none, readSlot := none, pollSlot := false }

/-! ## Results -/

/-- The report of a transaction's result to the block that submitted it (R24, R25). -/
def reportOf (b : BayNo) (cls : TxClass) (r : BayRequest) (result : TxResult) : List Notice :=
  match cls, r with
  | .heat, .stage n => [.falResult b n result]
  | .lamp, .lamp k on => [.lcsResult b k on result]
  | .read, .fcount => [.frdResult b .fcount result]
  | .read, .fread i => [.frdResult b (.fread i) result]
  | .read, .ident => [.dkuResult b .ident result]
  | .read, .desc i => [.dkuResult b (.desc i) result]
  | .read, .status => [.dkuResult b .status result]
  | .heat, _ | .lamp, _ | .read, _ | .poll, _ => []

/-- The FAILED reports for the pending requests removed at a link loss, in class order HEAT, LAMP, READ; a removed POLL
is dropped without a report (R29). -/
def Clc.failPending (c : Clc) (b : BayNo) : List Notice :=
  (match c.heatSlot with | some n => reportOf b .heat (.stage n) .failed | none => []) ++
  (match c.lampSlot with | some (k, on) => reportOf b .lamp (.lamp k on) .failed | none => []) ++
  (match c.readSlot with | some r => reportOf b .read r .failed | none => [])

/-- What a STATUS reply hands on, in this order: the cabin sample, the heater-stop request, the change notice, the
ignition state (R36). -/
def statusNotices (b : BayNo) (cabin : Option Int) (ignition heaterStop changed : Bool) : List Notice :=
  (match cabin with | some t => [.hplSample b t] | none => []) ++
  (if heaterStop then [.hplCoachStop b] else []) ++
  (if changed then [.frdChange b] else []) ++
  [.lcsIgnition b ignition]

/-- The transaction in flight has ended; it stays in flight until its result has been reported (log 11). -/
def Clc.markReporting (c : Clc) (f : InFlight) : Clc := { c with inflight := some { f with phase := .reporting } }

/-- The end of a transaction that drew a good reply: the consecutive-failure count becomes 0, a STATUS is recorded and
handed on, the result is reported, the next pending transaction is taken (R24, R36). -/
def transactionGood (b : BayNo) (f : InFlight) (cls : TxClass) (result : TxResult) (s : State) : Reaction :=
  let s1 := s.modClc b (fun c => { c with failures := 0 }.markReporting f)
  match result with
  | .done (.status cabin ignition heaterStop changed stages) =>
    (s1.modClc b (fun c =>
        { c with lastStatus := some ⟨s.clock.time, cabin, ignition, heaterStop, changed, stages⟩ }),
      statusNotices b cabin ignition heaterStop changed ++ reportOf b cls f.request result ++ [.clcNext b])
  | .done _ | .refused | .failed => (s1, reportOf b cls f.request result ++ [.clcNext b])

/-- The link enters LOST (R29). -/
def enterLost (b : BayNo) (f : InFlight) (cls : TxClass) (s : State) : Reaction :=
  let c0 := s.clcAt b
  (s.modClc b (fun c =>
      ({ c with link := .lost, failures := 0, reprobe := msTimer Config.reprobePeriod }.dropPending).markReporting f),
    reportOf b cls f.request .failed ++ c0.failPending b ++
    [.tellLink b, .falLost b, .hplAddLink b, .lcsLost b, .frdLost b, .raise b .link (.link .lost) false, .clcNext b])

/-- The end of a transaction whose third attempt failed (R24). -/
def transactionFailed (b : BayNo) (f : InFlight) (cls : TxClass) (s : State) : Reaction :=
  if (s.clcAt b).failures = 0 then
    (s.modClc b (fun c => { c with failures := 1 }.markReporting f), reportOf b cls f.request .failed ++ [.clcNext b])
  else enterLost b f cls s

/-- The link recovers at a successful re-probe (R31). -/
def linkRecovers (b : BayNo) (f : InFlight) (s : State) : Reaction :=
  (s.modClc b (fun c => { c with link := .active, failures := 0, reprobe := none }.markReporting f),
    [.raise b .link (.link .recovered) false, .tellLink b, .dkuRecovered b] ++
    (if (s.dkuAt b).state == .docked then [] else [.frdRecovered b]) ++ [.clcNext b])

/-- An attempt drew a good reply: the transaction ends (R23); a re-probe's reply is handed to no block (R30). -/
def attemptSucceeds (b : BayNo) (f : InFlight) (result : TxResult) (s : State) : Reaction :=
  match f.cls with
  | some cls => transactionGood b f cls result s
  | none => linkRecovers b f s

/-- The attempt-error count raised by 1, held at 65,535 (R23). -/
def Clc.countError (c : Clc) : Clc :=
  { c with attemptErrors := if c.attemptErrors < Config.maxAttemptErrors then c.attemptErrors + 1 else c.attemptErrors }

/-- An attempt failed: the count rises, and the same request is sent again or the transaction ends as failed
(R23, R30). -/
def attemptFails (b : BayNo) (f : InFlight) (s : State) : Reaction :=
  let s1 := s.modClc b Clc.countError
  if f.attempt < Config.maxAttempts then
    done (s1.modClc b (fun c =>
      { c with inflight := some { f with attempt := f.attempt + 1, phase := .ready Config.quietWait } }))
  else
    match f.cls with
    | some cls => transactionFailed b f cls s1
    | none => done (s1.modClc b (fun c => { c with inflight := none, reprobe := msTimer Config.reprobePeriod }))

/-! ## Notices taken by the CLC -/

/-- The CLC takes the next pending transaction after its reports (R24, R26). -/
def clcNext (b : BayNo) (s : State) : Reaction :=
  done (s.modClc b (fun c =>
    match c.inflight with
    | some f => if f.phase = .reporting then { c with inflight := none }.arbitrate else c
    | none => c.arbitrate))

/-- The plug-in of an enabled bay: a DOWN link enters ACTIVE (R28). -/
def clcUp (b : BayNo) (s : State) : Reaction :=
  done (s.modClc b (fun c =>
    if c.link = .down then { c with link := .active, failures := 0, inflight := none, lastStatus := none }.dropPending
    else c))

/-- The link goes DOWN (R32). -/
def clcDown (b : BayNo) (s : State) : Reaction :=
  let lost := (s.clcAt b).link == .lost
  (s.modClc b (fun c =>
      { c with link := .down, inflight := none, reprobe := none, poll := none, failures := 0,
               lastStatus := none }.dropPending),
    [.tellLink b] ++ (if lost then [.raise b .link (.link .down) false] else []))

/-- Whether a re-probe is in flight (R30). -/
def Clc.reprobing (c : Clc) : Bool :=
  match c.inflight with
  | some f => f.cls.isNone
  | none => false

/-- A session discard on one link (R33). -/
def Clc.discard (c : Clc) : Clc :=
  match c.link with
  | .down => c
  | .active => { c with inflight := none, poll := none, lastStatus := none, failures := 0 }.dropPending
  | .lost =>
    { c with inflight := none, poll := none, lastStatus := none,
             reprobe := if c.reprobing then msTimer Config.reprobePeriod else c.reprobe }.dropPending

/-- A session discard (R33). -/
def clcDiscard (b : BayNo) (s : State) : Reaction := done (s.modClc b Clc.discard)

/-- The poll timer stops at an undocking (R35, R52). -/
def clcStopPoll (b : BayNo) (s : State) : Reaction := done (s.modClc b (fun c => { c with poll := none }))

/-- The poll timer begins a period of the setting as it stands (R35). -/
def State.pollPeriod (s : State) : Timer := secTimer (s.setting 4)

/-! ## Events of the line -/

/-- A character has been received, in a reply window or outside one: the line's quiet time starts anew (R17). -/
def clcHeard (b : BayNo) (s : State) : State := s.modClc b (fun c => { c with quiet := 0 })

/-- Whether an attempt that is ready may be sent: no frame is on the line, and the line has been quiet for 2 ms or the
100 ms wait is over (R17). -/
def Clc.maySend (c : Clc) (left : Nat) : Bool := c.lineOut == [] && (decide (Config.lineQuiet ≤ c.quiet) || left == 0)

/-- The line has been quiet for 2 ms, or 100 ms have passed: the request frame is sent (R17). -/
def clcSend (b : BayNo) (s : State) : Reaction :=
  done (s.modClc b (fun c =>
    match c.inflight with
    | some f =>
      match f.phase with
      | .ready n =>
        if c.maySend n then { c with inflight := some { f with phase := .sending }, lineOut := f.request.frame } else c
      | .sending | .waiting _ | .receiving | .reporting => c
    | none => c))

/-- The last character of a request has been sent: its reply window opens; the frame of an abandoned transaction is
completed and opens none (R17, R19, R32). -/
def clcSent (b : BayNo) (s : State) : Reaction :=
  done (s.modClc b (fun c =>
    match c.lineOut, c.inflight with
    | [], _ => c
    | _ :: _, some f =>
      if f.phase = .sending then
        { c with lineOut := [], inflight := some { f with phase := .waiting Config.replyWindow } }
      else { c with lineOut := [] }
    | _ :: _, none => { c with lineOut := [] }))

/-- Whether a reply window is open, with its reply started or not (R19). -/
def AttemptPhase.open : AttemptPhase → Bool
  | .waiting _ | .receiving => true
  | .ready _ | .sending | .reporting => false

/-- The reply start arrives and ends the 100 ms wait; one that is not SYNC fails the attempt at once, as CHECK (R19). -/
def clcReplyStart (b : BayNo) (start : Byte) (s : State) : Reaction :=
  let s1 := clcHeard b s
  match (s.clcAt b).inflight with
  | some f =>
    match f.phase with
    | .waiting _ =>
      if start = syncMark then done (s1.modClc b (fun c => { c with inflight := some { f with phase := .receiving } }))
      else attemptFails b f s1
    | .ready _ | .sending | .receiving | .reporting => done s1
  | none => done s1

/-- The three tests of CHECK on a whole frame: the reply start is SYNC, LEN is at most 32, the CHECK received is the one
computed (R18, R19). -/
def replyChecks (start kind : Byte) (payload : List Byte) (check : Byte) : Bool :=
  start == syncMark && decide (payload.length ≤ Config.maxBayPayload) && crc8 (checkedBytes kind payload) == check

/-- A reply frame completes; in an open window CHECK and WRONG_REPLY are tested, in that order (R19). The row carries the
frame's characters from the reply start on, so that a frame whose start came with no row of its own is tested as well. -/
def clcReply (b : BayNo) (start kind : Byte) (payload : List Byte) (check : Byte) (s : State) : Reaction :=
  let s1 := clcHeard b s
  match (s.clcAt b).inflight with
  | some f =>
    if f.phase.open then
      if replyChecks start kind payload check then
        match readReply f.request kind payload with
        | some result => attemptSucceeds b f result s1
        | none => attemptFails b f s1
      else attemptFails b f s1
    else done s1
  | none => done s1

/-- A failure found in a window whose phase satisfies `p` (R19). -/
def clcFailure (b : BayNo) (p : AttemptPhase → Bool) (s : State) : Reaction :=
  match (s.clcAt b).inflight with
  | some f => if p f.phase then attemptFails b f s else done s
  | none => done s

/-- No reply has started (R19). -/
def AttemptPhase.isWaiting : AttemptPhase → Bool
  | .waiting _ => true
  | .ready _ | .sending | .receiving | .reporting => false

/-- A reply is arriving (R19). -/
def AttemptPhase.isReceiving : AttemptPhase → Bool
  | .receiving => true
  | .ready _ | .sending | .waiting _ | .reporting => false

/-- The re-probe timer expires: STATUS if the bay is DOCKED, IDENT in every other docking state (R30). -/
def clcReprobe (b : BayNo) (s : State) : Reaction :=
  let c := s.clcAt b
  if c.link = .lost ∧ c.reprobe.isSome ∧ c.inflight = none then
    let r : BayRequest := if (s.dkuAt b).state = .docked then .status else .ident
    done (s.modClc b (fun c => { c with reprobe := none, inflight := some (.start r none) }))
  else done s

/-- The poll timer expires: its next period starts and a POLL is submitted, or the expiry is dropped (R35). -/
def clcPoll (b : BayNo) (s : State) : Reaction :=
  if (s.clcAt b).poll.isSome then done (s.modClc b (fun c => { c with poll := s.pollPeriod }.submitPoll)) else done s

end Sys2Proof.Machine
end

