-- ==== Sys2Proof/Machine/Budget.lean ====
section
/-! DEFINITION. The Feeder Allocator: the budget, the rank, requests, cuts, forced removal, selection, preemption and the
stage-up in flight (R100 to R120). -/

namespace Sys2Proof.Machine

/-! ## Budget and load -/

/-- A row's load in 100 W units. -/
def GrantRow.load (r : GrantRow) : Nat := r.granted * r.power

/-- The sum of the loads of some bays' rows. -/
def State.loadOf (s : State) : List BayNo → Nat
  | [] => 0
  | b :: bs => (s.rowAt b).load + s.loadOf bs

/-- The granted load G (R100). -/
def State.grantedLoad (s : State) : Nat := s.loadOf allBays

/-- The shed depth (R104). -/
def Feeder.depth (f : Feeder) : Nat := f.shedHost + f.shedLine

/-- Whether a bay counts as plugged and enabled (R101). -/
def Bfe.counts (f : Bfe) : Bool := f.enabled && f.plug

/-- The count of plugged enabled bays as the field stands (R101). -/
def State.countPlugged (s : State) : Nat := (allBays.filter (fun b => (s.bfeAt b).counts)).length

/-- The base budget Bn for a count of plugged enabled bays (R101). -/
def State.baseBudget (s : State) (plugged : Nat) : Nat := s.setting 0 * 10 - plugged * s.setting 1

/-- The heat budget for a base budget (R101). -/
def State.heatBudget (s : State) (base : Nat) : Nat :=
  if s.feeder.depth = 0 then base else min base (s.setting 2 * 10)

/-- The average of up to five samples, rounded half up; 0 before the first (R12). -/
def averageOf (xs : List Nat) : Nat := if xs = [] then 0 else halfUpDiv xs.sum xs.length

/-- The averaged shore power (R12). -/
def Bfe.shorePower (f : Bfe) : Nat := averageOf f.shore

/-! ## Rank -/

/-- Whether row `x` ranks above row `y`: HEATING above HOLDING, then the earlier rank key, then the lower bay number
(R105). -/
def State.rowAbove (s : State) (x y : BayNo) : Bool :=
  let p := s.rowAt x
  let q := s.rowAt y
  if p.cls = q.cls then
    if p.rankKey.getD 0 = q.rankKey.getD 0 then decide (x.val < y.val)
    else decide (p.rankKey.getD 0 < q.rankKey.getD 0)
  else p.cls == .heating

/-- A bay put into its rank place. -/
def State.rankBay (s : State) (b : BayNo) : List BayNo → List BayNo
  | [] => [b]
  | x :: xs => if s.rowAbove b x then b :: x :: xs else x :: s.rankBay b xs

/-- The ranked rows among some bays, highest first (R105). -/
def State.rankBays (s : State) : List BayNo → List BayNo
  | [] => []
  | b :: bs => if (s.rowAt b).cls = .none then s.rankBays bs else s.rankBay b (s.rankBays bs)

/-- The ranked rows, highest first (R105). -/
def State.ranked (s : State) : List BayNo := s.rankBays allBays

/-! ## STAGE submissions and the end of a stage-up -/

/-- A STAGE request submitted and recorded as the commanded count (R107, R109). -/
def submitStage (b : BayNo) (n : Nat) (s : State) : State :=
  (s.modClc b (fun c => c.submitHeat n)).modRow b (fun r => { r with commanded := n })

/-- The ramp timer starts at a stage-up's completion (R110). -/
def startRamp (s : State) : State := s.modFeeder (fun f => { f with ramp := secTimer (s.setting 3) })

/-- The LCS is told that the bay's stage-up has ended: a step in QUIET_WAIT begins its baseline (R129). -/
def lcsStageEnded (b : BayNo) (s : State) : State :=
  s.modLcs b (fun l => if l.phase = .quietWait then { l with phase := .baseline, baseline := [] } else l)

/-- Whether the stage-up in flight is a bay's. -/
def State.stageUpOf (s : State) (b : BayNo) : Bool :=
  match s.feeder.stageUp with
  | some u => u.bay == b
  | none => false

/-- The record removed, the in-flight mark cleared, the ramp timer started, the LCS told: what every end of a stage-up
does (R115 to R118). -/
def endStageUp (b : BayNo) (s : State) : State :=
  lcsStageEnded b (startRamp ((s.modFeeder (fun f => { f with stageUp := none })).modRow b
    (fun r => { r with inFlight := false })))

/-- A stage-up cancelled by a cut or a removal of its stage (R118). -/
def cancelStageUp (b : BayNo) (s : State) : State := if s.stageUpOf b then endStageUp b s else s

/-! ## Removing stages -/

/-- How many stages of a row go while `excess` is above the budget: one at a time until it is covered or none is left
(R108, R113). -/
def GrantRow.stagesToTake (r : GrantRow) (excess : Nat) : Nat :=
  if excess = 0 then 0 else if r.power = 0 then r.granted else min r.granted (ceilDiv excess r.power)

/-- Stages removed from the rows listed, lowest first, until `excess` is covered; a stage-up in flight loses its stage
and is cancelled (R108, R113). -/
def stripRows : List BayNo → Nat → State → State
  | [], _, s => s
  | b :: bs, excess, s =>
    let r := s.rowAt b
    let k := r.stagesToTake excess
    let s1 := if k = 0 then s else cancelStageUp b (s.modRow b (fun r => { r with granted := r.granted - k }))
    stripRows bs (excess - k * r.power) s1

/-- The bays whose granted stages differ between two states, in bay order. -/
def changedGrants (old new : State) : List BayNo :=
  allBays.filter (fun b => (old.rowAt b).granted != (new.rowAt b).granted)

/-- One STAGE request for each changed row, in bay order (R108, R113). -/
def submitStages (bs : List BayNo) (s : State) : State :=
  bs.foldl (fun t b => submitStage b (t.rowAt b).granted t) s

/-- Rows of class none first, which hold no grant (R106), then the ranked rows, lowest first. -/
def State.lowestFirst (s : State) : List BayNo :=
  allBays.filter (fun b => (s.rowAt b).cls == .none) ++ s.ranked.reverse

/-- Forced removal, where the budget is below G: the stages go from the lowest rank up, then the STAGE requests (R108). -/
def forcedRemoval (s : State) : State :=
  let t := stripRows s.lowestFirst (s.grantedLoad - s.feeder.budget) s
  submitStages (changedGrants s t) t

/-- The report of a stage removed from a quiet bay (R107, R108, R119); several of one removal in bay order (DESIGN CHOICE,
log 38). -/
def removalReports (s : State) (bs : List BayNo) : List Notice :=
  (bs.filter (fun b => (s.rowAt b).quiet)).map .lcsRemoved

/-! ## Selection -/

/-- Whether a row is a candidate (R111). -/
def State.candidate (s : State) (b : BayNo) : Bool :=
  decide ((s.rowAt b).granted < (s.rowAt b).requested) && !(s.rowAt b).quiet && !(s.rowAt b).linkHeldLost &&
    (s.clcAt b).link == .active && (s.bfeAt b).contactor

/-- Whether a row's next stage fits (R111). -/
def State.fits (s : State) (b : BayNo) : Bool := decide (s.grantedLoad + (s.rowAt b).power ≤ s.feeder.budget)

/-- A committed stage-up (R114). -/
def commitStageUp (b : BayNo) (s : State) : State :=
  let n := (s.rowAt b).granted + 1
  let s1 := s.modRow b (fun r => { r with granted := n, inFlight := true })
  let s2 := s1.modFeeder (fun f => { f with stageUp := some ⟨b, n, (s.bfeAt b).shorePower, .awaitingReply⟩ })
  (submitStage b n s2).modFeeder (fun f => { f with gateOpen := false })

/-- The rows ranked below a claimant (R113). -/
def below (claimant : BayNo) : List BayNo → List BayNo
  | [] => []
  | b :: bs => if b = claimant then bs else below claimant bs

/-- Preemption for a claimant: stages of lower-ranked rows whose quiet mark is clear are removed until its next stage
fits; where the removable stages are not enough nothing is done (R113). -/
def preempt (b : BayNo) (s : State) : State :=
  let rows := (below b s.ranked).filter (fun x => !(s.rowAt x).quiet)
  let need := s.grantedLoad + (s.rowAt b).power - s.feeder.budget
  if s.loadOf rows < need then s
  else
    let t := stripRows rows.reverse need s
    commitStageUp b (submitStages (changedGrants s t) t)

/-- A selection: nothing while the gate is CLOSED; else the first candidate in rank order whose next stage fits takes the
stage-up, and with none the highest-ranked candidate claims one by preemption (R111, R112, R113). -/
def selection (s : State) : State :=
  if s.feeder.gateOpen then
    let cs := s.ranked.filter s.candidate
    match cs.find? s.fits with
    | some b => commitStageUp b s
    | none =>
      match cs with
      | [] => s
      | b :: _ => preempt b s
  else s

/-! ## Notices taken by the FAL -/

def falSelect (s : State) : Reaction := done (selection s)

/-- A cut of a bay's grant to its requested stages (R107). -/
def cutGrant (b : BayNo) (s : State) : Reaction :=
  let s1 := s.modRow b (fun r => { r with granted := r.requested })
  let s2 := cancelStageUp b s1
  (submitStage b (s2.rowAt b).granted s2, (if (s.rowAt b).quiet then [.lcsRemoved b] else []) ++ [.falSelect])

/-- The plan request as the FAL takes it (R106). -/
def State.effectiveRequest (s : State) (b : BayNo) : Nat :=
  if (s.rowAt b).linkHeldLost || !(s.bfeAt b).contactor || !(s.bfeAt b).enabled then 0 else (s.rowAt b).planRequest

/-- The requested stages set from the plan request: a fall below the grant cuts it, a rise makes a selection (R106). -/
def setRequested (b : BayNo) (s : State) : Reaction :=
  let n := s.effectiveRequest b
  let s1 := s.modRow b (fun r => { r with requested := n })
  if n < (s.rowAt b).granted then cutGrant b s1
  else if (s.rowAt b).requested < n then (s1, [.falSelect])
  else done s1

/-- The row takes the plan's class, request and rank key; a row holding two failures starts anew with a new plan's class
(R92, R106, R117). -/
def falTake (b : BayNo) (s : State) : Reaction :=
  let p := (s.hplAt b).plan
  setRequested b (s.modRow b (fun r => { r with
    cls := p.rowClass
    rankKey := p.scheduled
    planRequest := p.request (s.dkuAt b).profile.heater
    failures := if r.failures = 2 ∧ p.rowClass ≠ .none then 0 else r.failures }))

/-- The BFE tells of an opening or closing of the contactor (R7, R106). -/
def falContactor (b : BayNo) (s : State) : Reaction := setRequested b s

/-- The CLC's notice that the link is lost: the grant is cut to zero and STAGE 0 is submitted, to be held (R29, R106). -/
def falLost (b : BayNo) (s : State) : Reaction :=
  let r := setRequested b (s.modRow b (fun r => { r with linkHeldLost := true }))
  if (s.rowAt b).granted = 0 then (submitStage b 0 r.1, r.2) else r

/-- The CLC's notice that the link has recovered (R106, R111). -/
def falRecovered (b : BayNo) (s : State) : Reaction :=
  (setRequested b (s.modRow b (fun r => { r with linkHeldLost := false }))).also [.falSelect]

/-- The row emptied; the commanded count, the last command result and the quiet mark stay (R120). -/
def GrantRow.emptied (r : GrantRow) : GrantRow :=
  { r with cls := .none, rankKey := none, planRequest := 0, requested := 0, granted := 0, power := 0, failures := 0,
           linkHeldLost := false }

/-- Entering DOCKED: the row, empty since the docking start, takes its stage power (R120). -/
def falDocked (b : BayNo) (s : State) : Reaction :=
  done (s.modRow b (fun r => { r.emptied with power := (s.dkuAt b).profile.stagePower }))

/-- Docking start, disable: a standing grant is cut, then the row is emptied (R120). -/
def falEmpty (b : BayNo) (s : State) : Reaction :=
  if (s.rowAt b).granted = 0 then done (s.modRow b GrantRow.emptied)
  else
    let r := cutGrant b (s.modRow b (fun r => { r with requested := 0 }))
    (r.1.modRow b GrantRow.emptied, r.2)

/-- Undocking: the row is emptied, and STAGE 0 is submitted where the link can still take it; one that a cut of this event
has submitted is not submitted again (R33, R52 step 5, R120; log 12). -/
def falUndock (b : BayNo) (s : State) : Reaction :=
  let r := falEmpty b s
  let c := r.1.clcAt b
  if c.link = .down ∨ c.carriesStageZero = true then r else (submitStage b 0 r.1, r.2)

/-- The budget recomputed: forced removal, BUDGET, a selection (R102). -/
def falRecompute (s : State) : Reaction :=
  let n := s.countPlugged
  let base := s.baseBudget n
  let budget := s.heatBudget base
  let old := s.feeder.budget
  let s1 := s.modFeeder (fun f => { f with plugged := n, base := base, budget := budget })
  let s2 := if budget < s1.grantedLoad then forcedRemoval s1 else s1
  (s2, removalReports s2 (changedGrants s1 s2) ++
    (if budget = old then [] else [.raiseHall .budget .plain]) ++ (if old < budget then [.falSelect] else []))

/-- A failing stage-up (R117). -/
def stageUpFails (b : BayNo) (why : CommandResult) (s : State) : Reaction :=
  let n := (s.rowAt b).granted - 1
  let k := min ((s.rowAt b).failures + 1) 2
  let s1 := s.modRow b (fun r => { r with granted := n, failures := k })
  let s2 := (submitStage b n s1).modRow b (fun r => { r with lastResult := why })
  (endStageUp b s2, if k = 2 then [.hplEnd b .stageFail] else [])

/-- A stage-up ended by link loss (R115). -/
def stageUpLost (b : BayNo) (s : State) : Reaction :=
  done (endStageUp b (s.modRow b (fun r => { r with granted := r.granted - 1 })))

/-- The result of the stage-up's STAGE (R115). -/
def stageUpResult (b : BayNo) (u : StageUp) (result : TxResult) (s : State) : Reaction :=
  match result with
  | .done _ =>
    done (s.modFeeder (fun f => { f with stageUp := some { u with phase := .confirming Config.confirmPeriod } }))
  | .refused => stageUpFails b .refused s
  | .failed => if (s.clcAt b).link = .active then stageUpFails b .failed s else stageUpLost b s

/-- The record of a command result (R109). -/
def commandOf : TxResult → CommandResult
  | .done _ => .acknowledged
  | .refused => .refused
  | .failed => .failed

/-- A command result: recorded, and on a failure with the link ACTIVE and an empty slot the commanded count is submitted
again (R109). -/
def commandResult (b : BayNo) (result : TxResult) (s : State) : Reaction :=
  let s1 := s.modRow b (fun r => { r with lastResult := commandOf result })
  let c := s.clcAt b
  if result = .failed ∧ c.link = .active ∧ c.heatSlot = none then done (submitStage b (s.rowAt b).commanded s1)
  else done s1

/-- A HEAT result: the stage-up's while it awaits one of this count, else a command result (R109, R115). -/
def falResult (b : BayNo) (count : Nat) (result : TxResult) (s : State) : Reaction :=
  match s.feeder.stageUp with
  | some u =>
    if u.bay = b ∧ u.count = count ∧ u.phase = .awaitingReply then stageUpResult b u result s
    else commandResult b result s
  | none => commandResult b result s

/-- Whether an average confirms a stage-up: a rise of at least 60 % of one stage (R116). -/
def confirms (average reference power : Nat) : Bool :=
  decide (reference ≤ average) && decide (power * 6 ≤ (average - reference) * 10)

/-- A new averaged shore power while CONFIRMING (R116). -/
def falMeter (b : BayNo) (s : State) : State :=
  match s.feeder.stageUp with
  | some u =>
    match u.phase with
    | .confirming _ =>
      if u.bay = b ∧ confirms (s.bfeAt b).shorePower u.reference (s.rowAt b).power = true then
        endStageUp b (s.modRow b (fun r => { r with failures := 0 }))
      else s
    | .awaitingReply => s
  | none => s

/-- The confirm timer expires (R116, R117). -/
def falConfirmExpired (s : State) : Reaction :=
  match s.feeder.stageUp with
  | some u =>
    match u.phase with
    | .confirming _ => stageUpFails u.bay .acknowledged s
    | .awaitingReply => done s
  | none => done s

/-- The ramp timer expires: the gate opens and a selection is made (R110). -/
def falRampExpired (s : State) : Reaction :=
  if s.feeder.ramp.isSome then
    (s.modFeeder (fun f => { f with ramp := none, gateOpen := true }), [.falSelect])
  else done s

end Sys2Proof.Machine
end

