-- ==== Sys2Proof/Machine/Operands.lean ====
section
/-! DEFINITION. How the operands of the requests and the bodies of the coach's replies are read: ranges, clamping,
enumerations and presence bits (R44, R45, R57, R63, R144, R199 to R201). -/

namespace Sys2Proof.Machine

/-! ## Operands of requests -/

/-- A lane byte (R175, R201). -/
def laneOf (x : Byte) : Option Lane :=
  match x.toNat with
  | 0 => some .a
  | 1 => some .b
  | _ => none

/-- A lamp mode byte (R124, R193). -/
def lampModeOf (x : Byte) : Option LampMode :=
  match x.toNat with
  | 0 => some .run
  | 1 => some .step
  | _ => none

/-- A disposition byte (R193, R201). -/
def dispositionOf (x : Byte) : Option Disposition :=
  match x.toNat with
  | 0 => some .blocking
  | 1 => some .advisory
  | 2 => some .ignore
  | _ => none

/-- A lane preference byte (R144, R193). -/
def preferenceOf (x : Byte) : Option LanePreference :=
  match x.toNat with
  | 0 => some .a
  | 1 => some .b
  | 2 => some .either
  | _ => none

/-- A source unit of a map entry: 0 to 31, or 0xFF for ANY; anything else is RANGE (R58, R192, R201). -/
def sourceOf (x : Byte) : Option (Option Nat) :=
  if x.toNat = 0xFF then some none else if x.toNat < 32 then some (some x.toNat) else none

/-- A yes-or-no byte of a map entry (R192, R201). -/
def yesNoOf (x : Byte) : Option Bool :=
  match x.toNat with
  | 0 => some false
  | 1 => some true
  | _ => none

/-- The map entry a request carries, or RANGE (R57, R58). -/
def mapEntryOf (w : MapWords) : Option MapEntry :=
  match sourceOf w.source, dispositionOf w.disposition, yesNoOf w.heatStop with
  | some src, some d, some h =>
    if w.high.toNat < w.low.toNat then none else some ⟨w.low.toNat, w.high.toNat, src, d, h⟩
  | _, _, _ => none

/-- A waiver byte: a bit of 4 to 7 names a reason outside the four (R149, R201). -/
def waiversOf (x : Byte) : Option Waivers :=
  if x.toNat < 16 then some ⟨x.getLsbD 0, x.getLsbD 1, x.getLsbD 2, x.getLsbD 3⟩ else none

/-- The fields a DEPARTURE_ADD and a DEPARTURE_AMEND share, as taken (R144). -/
structure DepartureFields where
  time : Nat
  target : Option Int
  fleet : Option Nat
  lampCheck : Bool
  lane : LanePreference
  lead : Nat
  /-- Whether any field was clamped. -/
  clamped : Bool
  deriving DecidableEq, Repr

/-- The departure fields a request carries, or RANGE (R144, R196, R201). -/
def departureFieldsOf (w : DepartureWords) : Option DepartureFields :=
  match preferenceOf w.lane with
  | none => none
  | some lane =>
    if w.flags.getLsbD 1 && w.fleet.toNat == 0 then none
    else
      let target := if w.flags.getLsbD 0 then some (clampInt 50 300 w.target.toInt) else none
      let clampedTarget := w.flags.getLsbD 0 && (w.target.toInt != clampInt 50 300 w.target.toInt)
      some {
        time := w.time.toNat
        target := target
        fleet := if w.flags.getLsbD 1 then some w.fleet.toNat else none
        lampCheck := w.flags.getLsbD 2
        lane := lane
        lead := min w.lead.toNat 30
        clamped := clampedTarget || decide (30 < w.lead.toNat) }

/-! ## Descriptor bodies -/

/-- A LAMP descriptor's group byte (R45, R199). -/
def lampGroupOf (x : Byte) : Option LampGroup :=
  match x.toNat with
  | 0 => some .front
  | 1 => some .rear
  | 2 => some .side
  | 3 => some .interior
  | 4 => some .signal
  | 5 => some .marker
  | _ => none

/-- The CLAMPED mark after a field was taken within its range (R44). -/
def Profile.markClamped (p : Profile) (xs : List (Nat × Nat × Nat)) : Profile :=
  { p with clamped := p.clamped || xs.any (fun x => clampNat x.1 x.2.1 x.2.2 != x.2.2) }

/-- A HEATER descriptor applied (R44, R45). -/
def Profile.applyHeater (p : Profile) (stages power : Nat) : Profile :=
  let q := p.markClamped [(1, 8, stages), (5, 120, power)]
  if q.heater.isSome then { q with duplicate := true }
  else { q with heater := some (clampNat 1 8 stages, clampNat 5 120 power) }

/-- A CABIN descriptor applied (R44, R45). -/
def Profile.applyCabin (p : Profile) (capacity loss : Nat) : Profile :=
  let q := p.markClamped [(50, 2000, capacity), (20, 1000, loss)]
  if q.cabin.isSome then { q with duplicate := true }
  else { q with cabin := some (clampNat 50 2000 capacity, clampNat 20 1000 loss) }

/-- A LAMP descriptor of a known group applied; clamping comes before the duplicate test (R44, R45). -/
def Profile.applyLamp (p : Profile) (circuit : Nat) (group : LampGroup) (nominal tolerance : Nat) (checkable : Bool) :
    Profile :=
  let q := p.markClamped [(0, 63, circuit), (10, 2000, nominal), (5, 50, tolerance)]
  let c := clampNat 0 63 circuit
  if q.lamps.any (fun e => e.circuit == c) then { q with duplicate := true }
  else if q.lamps.length < Config.lampSize then
    { q with lamps := q.lamps ++ [⟨c, group, clampNat 10 2000 nominal, clampNat 5 50 tolerance, checkable⟩] }
  else { q with lampsTruncated := true }

/-- A FAULT_MEMORY descriptor applied (R44, R45). -/
def Profile.applyFaultMemory (p : Profile) (capacity : Nat) : Profile :=
  let q := p.markClamped [(1, 255, capacity)]
  if q.faultCapacity.isSome then { q with duplicate := true }
  else { q with faultCapacity := some (clampNat 1 255 capacity) }

/-- A descriptor applied to the profile: a body shorter than its kind's, an unknown kind or an unknown lamp group sets
UNKNOWN_DESCRIPTOR and nothing else (R42, R45, R199, R201; an unknown group is not clamped, log 16). -/
def Profile.applyDescriptor (p : Profile) (kind : Nat) (body : List Byte) : Profile :=
  match kind, body with
  | 1, s :: w :: _ => p.applyHeater s.toNat w.toNat
  | 2, c0 :: c1 :: u0 :: u1 :: _ => p.applyCabin (word16 c0 c1).toNat (word16 u0 u1).toNat
  | 3, c :: g :: n0 :: n1 :: t :: ch :: _ =>
    match lampGroupOf g with
    | some group => p.applyLamp c.toNat group (word16 n0 n1).toNat t.toNat (ch.toNat != 0)
    | none => { p with unknownDescriptor := true }
  | 4, c :: _ => p.applyFaultMemory c.toNat
  | _, _ => { p with unknownDescriptor := true }

/-! ## Coach fault records -/

/-- A three-byte operating hour (R200). -/
def hourOf (b0 b1 b2 : Byte) : Nat := b0.toNat + 256 * b1.toNat + 65536 * b2.toNat

/-- A coach fault record as read, before classification. -/
structure FaultRecord where
  code : Nat
  source : Nat
  active : Bool
  occurrences : Nat
  firstSeen : Nat
  lastSeen : Nat
  circuit : Option Nat
  freeze : Option (Int × Nat)
  /-- Whether taking the record sets BAD_RECORD. -/
  bad : Bool
  deriving DecidableEq, Repr

/-- The optional circuit reference: the reference or none, whether it is bad, and the bytes after it (R63, R200, R201). -/
def readCircuit (present : Bool) (rest : List Byte) : Option Nat × Bool × List Byte :=
  if present then
    match rest with
    | c :: more => if c.toNat ≤ 63 then (some c.toNat, false, more) else (none, true, more)
    | [] => (none, true, [])
  else (none, false, rest)

/-- The optional freeze frame, and whether it is bad (R200, R201). -/
def readFreeze (present : Bool) (rest : List Byte) : Option (Int × Nat) × Bool :=
  if present then
    match rest with
    | t0 :: t1 :: v0 :: v1 :: _ => (some ((word16 t0 t1).toInt, (word16 v0 v1).toNat), false)
    | _ => (none, true)
  else (none, false)

/-- A coach fault record read from an FREAD reply; `none` is a record that R63 discards (source unit above 31, status
neither ACTIVE nor STORED). -/
def faultRecordOf (payload : List Byte) : Option FaultRecord :=
  match payload with
  | c0 :: c1 :: src :: st :: occ :: f0 :: f1 :: f2 :: l0 :: l1 :: l2 :: fl :: rest =>
    if 31 < src.toNat ∨ 1 < st.toNat then none
    else
      let c := readCircuit (fl.getLsbD 0) rest
      let z := readFreeze (fl.getLsbD 1) c.2.2
      some {
        code := (word16 c0 c1).toNat
        source := src.toNat
        active := st.toNat == 1
        occurrences := max occ.toNat 1
        firstSeen := hourOf f0 f1 f2
        lastSeen := hourOf l0 l1 l2
        circuit := c.1
        freeze := z.1
        bad := c.2.1 || z.2 }
  | _ => none

end Sys2Proof.Machine
end

