-- ==== Sys2Proof/Machine/Docking.lean ====
section
/-! DEFINITION. The Docking Unit: docking, the descriptor walk, identity matching, re-identification, undocking and the
retained session (R38 to R54). -/

namespace Sys2Proof.Machine

/-! ## Matching -/

/-- The match state of a bay (R49). -/
def State.matchState (s : State) (b : BayNo) : MatchState :=
  if (s.dkuAt b).state = .docked then
    match s.activeOf b with
    | none => .unmatched
    | some d =>
      match d.fleet, (s.dkuAt b).profile.identity with
      | some f, some i => if i.fleet = f then .matched else .mismatched
      | some _, none => .mismatched
      | none, _ => .unmatched
  else .unmatched

/-- The earliest record for another bay that expects the coach in this bay (R50). -/
def State.wrongBayRecord (s : State) (b : BayNo) : Option Departure :=
  match (s.dkuAt b).profile.identity with
  | some i => s.departures.find? (fun d => d.bay != b && d.fleet == some i.fleet)
  | none => none

/-- Whether a bay's WRONG_BAY mark is to be set (R50). -/
def State.inWrongBay (s : State) (b : BayNo) : Bool :=
  (s.dkuAt b).state == .docked && (s.wrongBayRecord b).isSome && (s.dkuAt b).matching != .matched

/-- The WRONG_BAY mark re-evaluated; the flag is raised when the mark becomes set (R50). A retained mark is frozen (R53). -/
def dkuWrongBay (b : BayNo) (s : State) : Reaction :=
  if (s.dkuAt b).retained then done s
  else
    let m := s.inWrongBay b
    (s.modDku b (fun d => { d with wrongBay := m }),
      match s.wrongBayRecord b with
      | some r => if m && !(s.dkuAt b).wrongBay then [.raise b .wrongBay (.bay r.bay) false] else []
      | none => [])

/-- The match state re-evaluated at a change of the departure list, and the DPM told of a change (R49, R50). -/
def dkuMatch (b : BayNo) (s : State) : Reaction :=
  if (s.dkuAt b).retained then done s
  else
    let m := s.matchState b
    (s.modDku b (fun d => { d with matching := m }),
      (if m = (s.dkuAt b).matching then [] else [.tellDock b]) ++ [.dkuWrongBay b])

/-! ## The start of docking -/

/-- A retained session discarded with its fault table and lamp results (R39, R53). -/
def dkuDiscard (b : BayNo) (s : State) : Reaction :=
  if (s.dkuAt b).retained then
    (s.modDku b (fun _ => .reset), [.contactor b, .frdClear b, .tellScan b, .lcsUndock b, .tellDock b])
  else done s

/-- The bay's trip and overdraw timer cleared (R10, R39, R54). -/
def clearTrip (b : BayNo) (s : State) : Reaction :=
  if (s.bfeAt b).tripped then (s.modBfe b (fun f => { f with tripped := false, overdraw := none }), [.contactor b])
  else done s

/-- Docking starts (R39); what the other blocks clear at a docking start comes before the new session (log 29). -/
def dkuStart (b : BayNo) (s : State) : Reaction :=
  (s, [.dkuDiscard b, .clearTrip b, .hplSessionStart b, .lcsSessionStart b, .falEmpty b, .dkuBegin b])

/-- A new, empty session in PROBING, the attempt-error count zeroed, then the IDENT (R39, steps 2 to 5). -/
def dkuBegin (b : BayNo) (s : State) : Reaction :=
  ((s.modDku b (fun _ => { Dku.reset with state := .probing })).modClc b (fun c => { c with attemptErrors := 0 }),
    [.contactor b, .tellDock b, .dkuSubmit b .ident])

/-- A read submitted, or held as waiting for the link (R39, R41). -/
def dkuSubmit (b : BayNo) (r : BayRequest) (s : State) : Reaction :=
  let taken := (s.clcAt b).takesRead
  done ((s.modClc b (fun c => c.submitRead r)).modDku b (fun d => { d with read := some (r, taken) }))

/-! ## The walk -/

/-- The IDENT of docking is DONE (R40). -/
def dkuIdentified (b : BayNo) (i : Identity) (s : State) : Reaction :=
  (s.modDku b (fun d => { d with
      profile := { d.profile with identity := some i }, state := .readingDescriptors, read := none }),
    [.tellDock b, .dkuSubmit b (.desc 0)])

/-- A chain error: the profile keeps the identity alone (R43). -/
def Dku.failChain (d : Dku) (i n : Nat) : Dku :=
  { d with state := .dockFailed, failure := some (i, n), read := none,
           profile := { Profile.empty with identity := d.profile.identity } }

/-- A DESC of docking is DONE: the index, the body, the next index (R42, R43). -/
def dkuDescribed (b : BayNo) (i kind n : Nat) (body : List Byte) (s : State) : Reaction :=
  let indices := (s.dkuAt b).indices ++ [i]
  let s1 := s.modDku b (fun d => { d with indices := indices, profile := d.profile.applyDescriptor kind body, read := none })
  if n = 255 then
    (s1.modDku b (fun d => { d with state := .readingFaults }), [.tellDock b, .frdRequest b .docking])
  else if n < 64 ∧ indices.contains n = false then (s1, [.dkuSubmit b (.desc n)])
  else (s1.modDku b (fun d => d.failChain i n), [.tellDock b, .raise b .dock (.dock true) false])

/-- Entering DOCKED (R48). -/
def dkuDocked (b : BayNo) (s : State) : Reaction :=
  let s1 := s.modDku b (fun d => { d with state := .docked, read := none, indices := [] })
  let s2 := s1.modClc b (fun c => { c with poll := s.pollPeriod })
  (s2.modDku b (fun d => { d with matching := s2.matchState b }),
    [.frdTakeRescan b, .falDocked b, .contactor b, .dkuWrongBay b, .hplDocked b, .lcsDocked b, .tellDock b,
      .clrDocked b, .raise b .dock (.dock false) false])

/-- The IDENT of re-identification is DONE: the four blocks are told of the recovery, or the coach is another one (R51). -/
def dkuReidentified (b : BayNo) (fleet : Nat) (s : State) : Reaction :=
  let s1 := s.modDku b (fun d => { d with read := none })
  match (s.dkuAt b).profile.identity with
  | some i =>
    if i.fleet = fleet then (s1, [.falRecovered b, .hplDropLink b, .lcsRecovered b, .frdRecovered b])
    else (s1, [.clcDiscard b, .dkuUndock b .identity, .dkuStart b])
  | none => (s1, [.clcDiscard b, .dkuUndock b .identity, .dkuStart b])

/-- A docking read ended FAILED (R41, R51). -/
def dkuReadFailed (b : BayNo) (r : BayRequest) (s : State) : Reaction :=
  if (s.clcAt b).link = .active then (s, [.dkuSubmit b r])
  else done (s.modDku b (fun d => { d with read := some (r, false) }))

/-- The result of a read the DKU waits for, in the docking state in which it was submitted; any other result is not taken
(R40 to R43, R47, R51). -/
def dkuResult (b : BayNo) (r : BayRequest) (result : TxResult) (s : State) : Reaction :=
  let d := s.dkuAt b
  if d.read = some (r, true) then
    match result, d.state, r with
    | .done (.ident f t m), .probing, .ident => dkuIdentified b ⟨f, t, m⟩ s
    | .done (.desc kind n body), .readingDescriptors, .desc i => dkuDescribed b i kind n body s
    | .done (.status _ _ _ _ _), .readingFaults, .status => dkuDocked b s
    | .done (.ident f _ _), .docked, .ident => dkuReidentified b f s
    | .failed, _, _ => dkuReadFailed b r s
    | _, _, _ => done s
  else done s

/-- The FRD reports the docking scan committed: the first STATUS (R47). -/
def dkuScanCommitted (b : BayNo) (s : State) : Reaction :=
  if (s.dkuAt b).state = .readingFaults then (s, [.dkuSubmit b .status]) else done s

/-- The CLC's notice of recovery: a DOCKED bay is re-identified, a docking bay resubmits the read it holds (R31, R41,
R51). -/
def dkuRecovered (b : BayNo) (s : State) : Reaction :=
  let d := s.dkuAt b
  match d.state, d.read with
  | .docked, _ => (s, [.dkuSubmit b .ident])
  | .probing, some (r, false) | .readingDescriptors, some (r, false) | .readingFaults, some (r, false) =>
    (s, [.dkuSubmit b r])
  | _, _ => done s

/-! ## The end of a session -/

/-- Undocking, which also ends a trip (R10, R52); an UNDOCKED bay is left as it is. -/
def dkuUndock (b : BayNo) (why : UndockReason) (s : State) : Reaction :=
  if (s.dkuAt b).state = .undocked then done s
  else
    (s.modDku b (fun _ => .reset),
      [.contactor b, .clearTrip b, .lcsUndock b, .frdClear b, .tellScan b, .hplUndock b, .falUndock b, .clcStopPoll b,
        .tellDock b, .clrUndocked b why, .raise b .undock (.undock why) false])

/-- A plug-out taken in CLEARING: the session is retained (R53). -/
def dkuRetain (b : BayNo) (s : State) : Reaction :=
  (s.modDku b (fun d => { d with state := .undocked, read := none, indices := [], retained := true }),
    [.contactor b, .clcStopPoll b, .frdRetain b, .lcsRetain b, .tellDock b])

end Sys2Proof.Machine
end

