-- ==== Sys2Proof/Machine/Departures.lean ====
section
/-! DEFINITION. The Departure Manager: the departure list, the active departure, late checks, hold reasons, the frozen set
and the effective hold set (R143 to R159). -/

namespace Sys2Proof.Machine

/-! ## The list -/

/-- A record put at its place: after every record with the same or an earlier scheduled time (R145). -/
def insertDeparture (d : Departure) : List Departure → List Departure
  | [] => [d]
  | x :: xs => if d.time < x.time then d :: x :: xs else x :: insertDeparture d xs

/-- The list without the record of an id; the records behind it keep their order (R148). -/
def removeDeparture (id : Nat) (ds : List Departure) : List Departure := ds.filter (fun d => d.id != id)

/-- The record of an id changed in place. -/
def modDeparture (id : Nat) (f : Departure → Departure) (ds : List Departure) : List Departure :=
  ds.map (fun d => if d.id = id then f d else d)

/-- A bay's earliest record (R145). -/
def State.earliest (s : State) (b : BayNo) : Option Nat := (s.departures.find? (fun d => d.bay == b)).map Departure.id

/-- Whether a bay's active departure is pinned (R145). -/
def ClearState.pins : ClearState → Bool
  | .clearing | .cleared | .recalled => true
  | .outOfService | .empty | .arrived | .docking | .preparing | .ready | .scanning | .queued => false

/-- The pinned active departure of a bay (R145). -/
def State.pinnedOf (s : State) (b : BayNo) : Option Departure := if (s.clrAt b).state.pins then s.activeOf b else none

/-- Whether a scheduled time would stand a record ahead of the pinned active departure of its bay (R145 to R147). -/
def State.aheadOfPinned (s : State) (b : BayNo) (time : Nat) : Bool :=
  match s.pinnedOf b with
  | some p => decide (time < p.time)
  | none => false

/-- A record's late point (R151). -/
def State.latePoint (s : State) (d : Departure) : Nat := min (d.time + 60 * s.setting 16) Config.maxTime

/-- Whether a record is found late at a check (R151). -/
def State.foundLate (s : State) (d : Departure) : Bool := !d.lateReported && decide (s.latePoint d ≤ s.clock.time)

/-- A late check of the records chosen: marks set, LATE raised in list order (R151). -/
def lateCheck (chosen : Departure → Bool) (s : State) : Reaction :=
  ({ s with departures := s.departures.map (fun d =>
      if chosen d && s.foundLate d then { d with lateReported := true } else d) },
    (s.departures.filter (fun d => chosen d && s.foundLate d)).map (fun d =>
      .raise d.bay .late (.departure d.id) false))

/-! ## Hold sets -/

/-- Whether fault data is missing: unread, or relied on by the clearance with no departure scan done (R154). -/
def faultDataMissing (c : Conditions) (reliance : Bool) : Bool :=
  !c.readSinceDocking || c.unreadSinceFailure || (reliance && !c.scanDone)

/-- The automatic set derived from the owner conditions (R153). -/
def autoSet (c : Conditions) (reliance : Bool) : AutoSet :=
  { outOfService := !c.enabled
    noDeparture := c.noDeparture
    notDocked := c.enabled && !c.docked
    linkLost := c.linkLost
    wrongCoach := c.docked && c.mismatch
    faultData := c.docked && faultDataMissing c reliance
    faultBlocking := c.docked && c.blocking
    heatNotReady := c.docked && c.readiness == .notReady
    heatFault := c.docked && c.readiness == .fault
    heatStale := c.docked && c.stale
    lampNotPassed := c.docked && c.lampRequired && !c.lampPassed }

/-- The waived reasons removed (R155). -/
def AutoSet.waive (a : AutoSet) (w : Waivers) : AutoSet :=
  { a with
    heatNotReady := a.heatNotReady && !w.heatNotReady
    heatFault := a.heatFault && !w.heatFault
    heatStale := a.heatStale && !w.heatStale
    lampNotPassed := a.lampNotPassed && !w.lampNotPassed }

/-- The derived automatic set with waivers applied (R155). -/
def Dpm.automatic (d : Dpm) : AutoSet := (autoSet d.conditions d.reliance).waive d.conditions.waivers

/-- A bay's effective hold set (R159). -/
def State.effective (s : State) (b : BayNo) : HoldSet :=
  let d := s.dpmAt b
  ⟨if d.frozen then d.frozenSet else d.automatic, d.operator.set ||| s.hallHold.set⟩

/-- An empty hold set. -/
def HoldSet.none : HoldSet := ⟨.none, 0⟩

/-- Whether a hold set holds a reason. -/
def HoldSet.held (h : HoldSet) : Bool := h != .none

/-- The effective set re-derived: a change is reported to the CLR, then HOLDS is raised (R159). -/
def rederive (b : BayNo) (s : State) : Reaction :=
  let e := s.effective b
  if e = (s.dpmAt b).reported then done s
  else
    (s.modDpm b (fun d => { d with reported := e }), [.clrHolds b, .raise b .holds (.holds e.held) false])

/-- An owner's report recorded, then the set re-derived (R153, R159). -/
def report (b : BayNo) (f : Conditions → Conditions) (s : State) : Reaction :=
  rederive b (s.modDpm b (fun d => { d with conditions := f d.conditions }))

/-- The report of an owner whose rule has it tell each change: with no change there is none (R98, R159). -/
def reportChange (b : BayNo) (f : Conditions → Conditions) (s : State) : Reaction :=
  if f (s.dpmAt b).conditions = (s.dpmAt b).conditions then done s else report b f s

/-- The BFE reports whether the bay is enabled. -/
def tellService (b : BayNo) (s : State) : Reaction :=
  report b (fun c => { c with enabled := (s.bfeAt b).enabled }) s

/-- The DKU reports the docking state and the match state (R38, R49). -/
def tellDock (b : BayNo) (s : State) : Reaction :=
  report b (fun c => { c with docked := (s.dkuAt b).state == .docked, mismatch := (s.dkuAt b).matching == .mismatched }) s

/-- The CLC reports whether the link is LOST (R29, R31, R32). -/
def tellLink (b : BayNo) (s : State) : Reaction :=
  report b (fun c => { c with linkLost := (s.clcAt b).link == .lost }) s

/-- The FRD reports its scan marks and whether the table holds an ACTIVE BLOCKING entry (R72). -/
def tellScan (b : BayNo) (s : State) : Reaction :=
  let f := s.frdAt b
  report b (fun c => { c with
    readSinceDocking := f.readSinceDocking, unreadSinceFailure := f.unreadSinceFailure, scanDone := f.scanDone,
    blocking := f.table.blocking }) s

/-- The HPL reports a change of the heat readiness or of the HEAT_DATA_STALE condition (R98). -/
def tellHeat (b : BayNo) (s : State) : Reaction :=
  reportChange b (fun c => { c with readiness := s.readiness b, stale := (s.hplAt b).staleCondition }) s

/-- The LCS reports the lamp status (R123). -/
def tellLamp (b : BayNo) (s : State) : Reaction :=
  report b (fun c => { c with lampPassed := (s.lcsAt b).status == .passed }) s

/-- Whether a clearance state relies on the departure scan (R154). -/
def ClearState.relies : ClearState → Bool
  | .queued | .clearing => true
  | .outOfService | .empty | .arrived | .docking | .preparing | .ready | .scanning | .cleared | .recalled => false

/-- The CLR tells whether the bay is QUEUED or CLEARING: a change of the scan-reliance mark (R154, R159). -/
def tellReliance (b : BayNo) (s : State) : Reaction :=
  let on := (s.clrAt b).state.relies
  if (s.dpmAt b).reliance = on then done s else rederive b (s.modDpm b (fun d => { d with reliance := on }))

/-- The CLR tells that the bay has entered CLEARED, or left CLEARED and RECALLED: a change of the frozen mark (R156,
R159). -/
def tellFreeze (b : BayNo) (on : Bool) (s : State) : Reaction :=
  if (s.dpmAt b).frozen = on then done s
  else
    rederive b (s.modDpm b (fun d =>
      { d with frozen := on, frozenSet := if on then d.automatic else .none }))

/-- A change of the DPM's own conditions, read from the active departure: NO_DEPARTURE, the lamp requirement, the waiver
set (R150, R153, R159). -/
def ownConditions (b : BayNo) (s : State) : Reaction :=
  let d := s.activeOf b
  reportChange b (fun c => { c with
    noDeparture := d.isNone
    lampRequired := match d with | some d => d.lampCheck | none => false
    waivers := match d with | some d => d.waivers | none => .none }) s

/-! ## The active departure -/

/-- The active departure worked out anew; a change is told to the FRD, the DKU, the HPL and the CLR, in this order, and
the DPM's own conditions follow (R150). Between the first of these and the CLR's turn the wait order already reads the new
record (DESIGN CHOICE, log 43). -/
def workOut (b : BayNo) (s : State) : Reaction :=
  let n := s.earliest b
  if n = (s.dpmAt b).active then done s
  else
    (s.modDpm b (fun d => { d with active := n }),
      [.frdActiveChanged b, .dkuMatch b, if n.isSome then .hplForm b false else .hplNone b, .clrDeparture b,
        .ownConditions b])

/-- The active departure amended: the DKU is told of the fleet number, the HPL of the target or the time, the CLR of the
time, the lead or the preference (R150). -/
def amended (b : BayNo) (fleet heat lane : Bool) (s : State) : Reaction :=
  (s, (if fleet then [.dkuMatch b] else []) ++ (if heat then [.hplAmended b] else []) ++
    (if lane then [.clrDeparture b] else []) ++ [.ownConditions b])

/-- The WRONG_BAY pass over every bay (R146 to R148, R152). -/
def wrongBayPass : List Notice := allBays.map .dkuWrongBay

/-- The departed event (R152). -/
def departed (b : BayNo) (cleared : Bool) (s : State) : Reaction :=
  let id := (s.dpmAt b).active.getD 0
  ({ s with departures := removeDeparture id s.departures },
    [.raise b .departed (.departure id) (!cleared), .workOut b] ++ wrongBayPass)

/-! ## Operator holds -/

/-- A push: the set is saved, the reasons are added (R157). -/
def HoldStack.push (h : HoldStack) (reasons : OperatorSet) : HoldStack := ⟨h.set ||| reasons, h.set :: h.saved⟩

/-- A pop: the saved set at the top becomes the set (R157). -/
def HoldStack.pop (h : HoldStack) : HoldStack :=
  match h.saved with
  | [] => h
  | x :: xs => ⟨x, xs⟩

end Sys2Proof.Machine
end

