-- ==== Sys2Proof/Machine/Clearance.lean ====
section
/-! DEFINITION. The Clearance Controller: clearance states, the window, the wait order, CLEARING, CLEARED and RECALLED, the
lane arbiter (R161 to R175). -/

namespace Sys2Proof.Machine

/-! ## Windows and keys -/

/-- The window point of a departure (R164). -/
def Departure.windowPoint (d : Departure) : Nat := if d.time < 60 * d.lead then 0 else d.time - 60 * d.lead

/-- Whether a window is open at a depot time (R164). -/
def windowOpenAt (point : Option Nat) (now : Nat) : Bool :=
  match point with
  | some p => decide (p ≤ now)
  | none => false

/-- The scheduled time of a bay's active departure, the key of the wait order (R166; log 33). DESIGN CHOICE (log 43): it is
that of the record the DPM holds, also before the DPM has handed a new one on. -/
def State.waitKey (s : State) (b : BayNo) : Nat := match s.activeOf b with | some d => d.time | none => 0

/-- Whether bay `x` stands ahead of bay `y`: the earlier scheduled time, then the lower bay number (R166). -/
def State.waitsAhead (s : State) (x y : BayNo) : Bool :=
  if s.waitKey x = s.waitKey y then decide (x.val < y.val) else decide (s.waitKey x < s.waitKey y)

/-- A bay put at its place in the wait order (R166). -/
def State.waitPlace (s : State) (b : BayNo) : List BayNo → List BayNo
  | [] => [b]
  | x :: xs => if s.waitsAhead b x then b :: x :: xs else x :: s.waitPlace b xs

/-- The wait order without a bay; the bays behind it keep their order (R166). -/
def leaveOrder (b : BayNo) (s : State) : State := { s with waitOrder := s.waitOrder.filter (fun x => x != b) }

/-- A bay placed in the wait order by its key, once (R166). -/
def joinOrder (b : BayNo) (s : State) : State :=
  let t := leaveOrder b s
  { t with waitOrder := t.waitPlace b t.waitOrder }

/-! ## Lanes -/

/-- Whether a lane preference admits a lane (R173). -/
def LanePreference.admits : LanePreference → Lane → Bool
  | .either, _ => true
  | .a, .a => true
  | .b, .b => true
  | .a, .b => false
  | .b, .a => false

/-- Whether a waiting bay's preference admits a lane; a bay without an active departure admits none (R173; log 33). DESIGN
CHOICE (log 43): the preference is that of the record the DPM holds, also before the DPM has handed a new one on. -/
def State.admits (s : State) (b : BayNo) (l : Lane) : Bool :=
  match s.activeOf b with
  | some d => d.lane.admits l
  | none => false

/-- Whether a bay holds a lane (R6, R173). -/
def State.holdsLane (s : State) (b : BayNo) : Bool := s.laneA.holder == some b || s.laneB.holder == some b

/-- The raising of LANE for a lane's new state (R173). -/
def laneNotice (l : Lane) (st : LaneState) : Notice := .raiseHall .lane (.lane l st)

/-- A FREE lane granted to a bay of the wait order: a QUEUED bay enters CLEARING, a RECALLED one is CLEARED again (R167,
R171). -/
def grantLane (l : Lane) (b : BayNo) (s : State) : Reaction :=
  let s1 := leaveOrder b (s.modLane l (fun r => { r with state := .granted, holder := some b }))
  if (s.clrAt b).state = .recalled then (enterClear s1 b .cleared).also [laneNotice l .granted]
  else
    (enterClear s1 b .clearing).also
      [laneNotice l .granted, .tellReliance b, .clrSuspend b, .clrStartTimers b, .clrOpenTest b]

/-- Whether a bay may be granted a lane: it waits and holds none (R173). -/
def State.mayBeGranted (s : State) (b : BayNo) (l : Lane) : Bool := !s.holdsLane b && s.admits b l

/-- A FREE lane offered to the wait order: the first bay that may be granted it takes it (R173). -/
def laneOffer (l : Lane) (s : State) : Reaction :=
  if (s.laneAt l).state = .free then
    match s.waitOrder.find? (fun b => s.mayBeGranted b l) with
    | some b => grantLane l b s
    | none => done s
  else done s

/-- A waiting bay offered a FREE lane its preference admits, lane A before lane B (R166, R173). -/
def clrOfferTo (b : BayNo) (s : State) : Reaction :=
  if s.waitOrder.contains b then
    if s.laneA.state = .free ∧ s.mayBeGranted b .a = true then grantLane .a b s
    else if s.laneB.state = .free ∧ s.mayBeGranted b .b = true then grantLane .b b s
    else done s
  else done s

/-- A lane released: FREE, or CLOSED where a close is pending; a FREE lane is offered, and then the former holder of a
passage wait that stands in the order takes a FREE lane (R173, R174). -/
def laneRelease (l : Lane) (timeout : Bool) (s : State) : Reaction :=
  let r := s.laneAt l
  let st : LaneState := if r.closePending then .closed else .free
  (s.modLane l (fun _ => ⟨st, none, false, none⟩),
    [if timeout then .raiseHall .lane (.laneTimeout l) else laneNotice l st] ++
    (if st = .free then [.laneOffer l] else []) ++
    (match r.state, r.holder with | .passageWait, some h => [.clrOfferTo h] | _, _ => []))

/-- The lane a bay holds as GRANTED, if any. -/
def State.grantedLane (s : State) (b : BayNo) : Option Lane :=
  if s.laneA.state = .granted ∧ s.laneA.holder = some b then some .a
  else if s.laneB.state = .granted ∧ s.laneB.holder = some b then some .b
  else none

/-- The lane a bay holds as GRANTED is released, with what that hands on (R170 to R172). -/
def laneReleaseOf (b : BayNo) (s : State) : Reaction :=
  match s.grantedLane b with
  | some l => laneRelease l false s
  | none => done s

/-- The coach has left the bay: its GRANTED lane waits for the passage (R172, R174). -/
def lanePassageWait (b : BayNo) (s : State) : Reaction :=
  match s.grantedLane b with
  | some l =>
    (s.modLane l (fun r => { r with state := .passageWait, timer := secTimer (s.setting 15) }),
      [laneNotice l .passageWait])
  | none => done s

/-- A passage pulse (R174). -/
def passagePulse (l : Lane) (s : State) : Reaction :=
  if (s.laneAt l).state = .passageWait then laneRelease l false s
  else (s, [.raiseHall .gateUnexpected (.gate l)])

/-- The lane timer expires (R174). -/
def laneExpired (l : Lane) (s : State) : Reaction :=
  let r := s.laneAt l
  if r.state = .passageWait ∧ r.timer.isSome then laneRelease l true s
  else done (s.modLane l (fun r => { r with timer := none }))

/-! ## The docked bay -/

/-- Whether a bay is in PREPARING, READY, SCANNING or QUEUED (R163). -/
def ClearState.settles : ClearState → Bool
  | .preparing | .ready | .scanning | .queued => true
  | .outOfService | .empty | .arrived | .docking | .clearing | .cleared | .recalled => false

/-- The state a docked bay settles into (R163). -/
def State.settled (s : State) (b : BayNo) : ClearState :=
  let c := s.clrAt b
  if c.holds.held then .preparing
  else if !c.windowOpen then .ready
  else if (s.frdAt b).scanDone then .queued
  else .scanning

/-- A move of a bay between clearance states with what the wait order, the DPM and the FRD learn of it (R162, R163, R165,
R166). -/
def moveTo (b : BayNo) (st : ClearState) (s : State) : Reaction :=
  let old := (s.clrAt b).state
  let s1 := if old = .queued then leaveOrder b s else s
  let s2 := if st = .queued then joinOrder b s1 else s1
  (enterClear s2 b st).also
    ((if old = .queued ∨ st = .queued then [.tellReliance b] else []) ++
     (if st = .scanning then [.frdRequest b .departure] else []) ++
     (if st = .queued then [.clrOfferTo b] else []))

/-- A settling; a bay settled into the state it is in stays there (R163). -/
def settle (b : BayNo) (s : State) : Reaction :=
  if s.settled b = (s.clrAt b).state then done s else moveTo b (s.settled b) s

/-- A settling of a bay in one of the four states (R163); a revocation under way settles it last (R170). -/
def clrSettle (b : BayNo) (s : State) : Reaction :=
  if (s.clrAt b).state.settles && !(s.clrAt b).revoking then settle b s else done s

/-- The DKU reports that the bay entered DOCKED (R48, R163). -/
def clrDocked (b : BayNo) (s : State) : Reaction := if (s.clrAt b).state = .docking then settle b s else done s

/-- The FRD reports that a departure scan has committed (R165). -/
def clrScanCommitted (b : BayNo) (s : State) : Reaction :=
  if (s.clrAt b).state = .scanning then settle b s else done s

/-- The window point and mark evaluated; a change of the mark settles the bay (R164). A bay without an active departure
holds no window point (DESIGN CHOICE, log 7). -/
def clrWindow (b : BayNo) (s : State) : Reaction :=
  let p := (s.activeOf b).map Departure.windowPoint
  let o := windowOpenAt p s.clock.time
  (s.modClr b (fun c => { c with windowPoint := p, windowOpen := o }),
    if o = (s.clrAt b).windowOpen then [] else [.clrSettle b])

/-- The DPM hands on a new active departure, or a new time, lead or preference of it (R164, R166). DESIGN CHOICE
(log 40): the place in the wait order, then the window, which may take the bay back to READY, then the FREE lane. -/
def clrDeparture (b : BayNo) (s : State) : Reaction :=
  (if s.waitOrder.contains b then joinOrder b s else s, [.clrWindow b, .clrOfferTo b])

/-! ## Arrival, plug-in, presence -/

/-- The state set from the sensors at enabling and at RESTART (R5, R176). -/
def Bfe.clearState (f : Bfe) : ClearState := if f.plug then .docking else if f.reported then .arrived else .empty

/-- An OUT_OF_SERVICE bay takes its state from the sensors (R5, step 2); no other bay does (DEDUCED, log 31). -/
def clrFromSensors (b : BayNo) (s : State) : Reaction :=
  if (s.clrAt b).state = .outOfService then enterClear s b (s.bfeAt b).clearState else done s

/-- The open request withdrawn and the wait order left (R172). -/
def leaveCleared (b : BayNo) (s : State) : State := leaveOrder b (s.modClr b (fun c => { c with openRequest := false }))

/-- The coach of a CLEARED or RECALLED bay has left: the bay is EMPTY and out of its freeze, a lane it holds waits for the
passage, the departure is over, the retained session is discarded (R172). -/
def clrLeft (b : BayNo) (wasCleared : Bool) (s : State) : Reaction :=
  let r := lanePassageWait b (leaveCleared b s)
  (enterClear r.1 b .empty).also
    ([.contactor b, .tellFreeze b false] ++ r.2 ++ [.departed b wasCleared, .dkuDiscard b])

/-- A change of the reported presence (R162, R172). -/
def clrPresence (b : BayNo) (occupied : Bool) (s : State) : Reaction :=
  match (s.clrAt b).state, occupied with
  | .empty, true => enterClear s b .arrived
  | .arrived, false => enterClear s b .empty
  | .cleared, false => clrLeft b true s
  | .recalled, false => clrLeft b false s
  | _, _ => done s

/-- A plug-in: an ARRIVED bay is DOCKING; one of a CLEARED or RECALLED bay withdraws the open request and releases the
lane before (R162, R172). -/
def clrPlugIn (b : BayNo) (s : State) : Reaction :=
  match (s.clrAt b).state with
  | .arrived => moveTo b .docking s
  | .cleared | .recalled =>
    let r := laneReleaseOf b (leaveCleared b s)
    let t := enterClear r.1 b .docking
    (t.1, .contactor b :: r.2 ++ t.2 ++ [.tellFreeze b false])
  | .outOfService | .empty | .docking | .preparing | .ready | .scanning | .queued | .clearing => done s

/-- A plug-out taken in CLEARING (R169). -/
def clearedByPlugOut (b : BayNo) (s : State) : Reaction :=
  (enterClear (s.modClr b (fun c => { c with plugTimer := none, openWait := none })) b .cleared).also
    [.tellReliance b, .tellFreeze b true, .hplPlugOut b, .dkuRetain b]

/-- A plug-out (R162, R169). -/
def clrPlugOut (b : BayNo) (s : State) : Reaction :=
  match (s.clrAt b).state with
  | .clearing => clearedByPlugOut b s
  | .docking | .preparing | .ready | .scanning | .queued => moveTo b .arrived s
  | .outOfService | .empty | .arrived | .cleared | .recalled => done s

/-- The DKU tells of an undocking (R162). -/
def clrUndocked (b : BayNo) (why : UndockReason) (s : State) : Reaction :=
  match why with
  | .redock | .identity => if (s.clrAt b).state.settles then moveTo b .docking s else done s
  | .plugOut | .disabled => done s

/-- A disable: the wait order left, the timers stopped, the open request withdrawn, OUT_OF_SERVICE, the freeze ended (R6,
R161, R172). R6 lets no bay that holds a lane be disabled; one that held a lane would release it. -/
def clrDisable (b : BayNo) (s : State) : Reaction :=
  let r := laneReleaseOf b ((leaveCleared b s).modClr b (fun c => { c with plugTimer := none, openWait := none }))
  (enterClear r.1 b .outOfService).also (.contactor b :: r.2 ++ [.tellReliance b, .tellFreeze b false])

/-! ## CLEARING -/

/-- The HPL is told that the bay is CLEARING (R167, step 3). -/
def clrSuspend (b : BayNo) (s : State) : Reaction :=
  if (s.clrAt b).state = .clearing then (s, [.hplAddClearing b]) else done s

/-- The timers of CLEARING start (R167, step 4). -/
def clrStartTimers (b : BayNo) (s : State) : Reaction :=
  if (s.clrAt b).state = .clearing then
    done (s.modClr b (fun c => { c with plugTimer := secTimer (s.setting 14), openWait := msTimer Config.openWaitPeriod }))
  else done s

/-- The contactor-open point of CLEARING (R168). -/
def clrOpenPoint (b : BayNo) (s : State) : Reaction :=
  if (s.clrAt b).state = .clearing ∧ (s.clrAt b).openRequest = false then
    (s.modClr b (fun c => { c with openWait := none, openRequest := true }), [.contactor b])
  else done s

/-- The contactor-open test: an averaged shore power below 1.0 kW (R167 step 5, R168). -/
def clrOpenTest (b : BayNo) (s : State) : Reaction := if (s.bfeAt b).shorePower < 10 then clrOpenPoint b s else done s

/-- The open-wait timer expires (R168). -/
def clrOpenWaitExpired (b : BayNo) (s : State) : Reaction :=
  if (s.clrAt b).openWait.isSome then clrOpenPoint b (s.modClr b (fun c => { c with openWait := none })) else done s

/-- A clearance revoked: the timers stop, the open request is withdrawn, the lane is released, the plan's cause goes, and
the state is settled last (R170). Until that settling, within the event, the bay stands in PREPARING with the mark
revoking (log 18). -/
def clrRevoke (b : BayNo) (timeout : Bool) (s : State) : Reaction :=
  if (s.clrAt b).state = .clearing then
    let r := laneReleaseOf b ((s.setClear b .preparing).modClr b (fun c =>
      { c with plugTimer := none, openWait := none, openRequest := false, revoking := true }))
    (r.1, .contactor b :: r.2 ++ [.hplDropClearing b, .clrRevokeEnd b timeout])
  else done s

/-- The end of a revocation (R170, steps 5 and 6). -/
def clrRevokeEnd (b : BayNo) (timeout : Bool) (s : State) : Reaction :=
  if (s.clrAt b).revoking then
    let ends : List Notice := [.tellReliance b, .raise b .clearance (if timeout then .plugTimeout else .revoked) false]
    if (s.clrAt b).holds.held then (s.setClear b .preparing, ends)
    else (s.setClear b .ready, [.clrSettle b] ++ ends)
  else done s

/-- The plug timer expires (R170). -/
def clrPlugExpired (b : BayNo) (s : State) : Reaction :=
  if (s.clrAt b).plugTimer.isSome then clrRevoke b true (s.modClr b (fun c => { c with plugTimer := none })) else done s

/-- A CLEARED bay is recalled, its lane released before (R171). -/
def clrRecall (b : BayNo) (s : State) : Reaction :=
  let r := laneReleaseOf b s
  let t := enterClear r.1 b .recalled
  (t.1, r.2 ++ t.2)

/-! ## Hold sets -/

/-- The DPM reports a new hold set (R162, R163, R170, R171). -/
def clrHolds (b : BayNo) (s : State) : Reaction :=
  let h := (s.dpmAt b).reported
  let s1 := s.modClr b (fun c => { c with holds := h })
  match (s.clrAt b).state with
  | .preparing | .ready | .scanning | .queued => if (s.clrAt b).revoking then done s1 else settle b s1
  | .clearing => if h.held then clrRevoke b false s1 else done s1
  | .cleared => if h.held then clrRecall b s1 else done s1
  | .recalled => if h.held then done (leaveOrder b s1) else (joinOrder b s1, [.clrOfferTo b])
  | .outOfService | .empty | .arrived | .docking => done s1

end Sys2Proof.Machine
end

