-- ==== Sys2Proof/Machine/Field.lean ====
section
/-! DEFINITION. The Bay Front End: debouncing, sensor conflict, the contactor and its latch, overdraw, metering, the SHED
line and the gates (R1 to R12). -/

namespace Sys2Proof.Machine

/-! ## The contactor -/

/-- The contactor follows its five conditions, the latch follows it in the same event, an opening clears the overdraw
timer, and the FAL is told of each change (R7, R8, R9). -/
def bfeContactor (b : BayNo) (s : State) : Reaction :=
  let w := s.contactorWanted b
  if (s.bfeAt b).contactor = w then done s
  else
    (s.modBfe b (fun f => { f with contactor := w, latch := w, overdraw := if w then f.overdraw else none }),
      [.falContactor b])

/-! ## Debouncing -/

/-- A debounce timer after a raw level: it starts where the level differs from the debounced state, runs on where it runs
already, and is cleared where they agree (R1). -/
def debounce (raw debounced : Bool) (t : Timer) (period : Nat) : Timer :=
  if raw = debounced then none else match t with | some n => some n | none => msTimer period

/-- A gate input changes: an activation begins, or one shorter than 100 ms ends; one that has lasted 100 ms is a passage
(R4; log 4). -/
def gateLevel (l : Lane) (active : Bool) (s : State) : Reaction :=
  let since := match l with | .a => s.hallInputs.gateA | .b => s.hallInputs.gateB
  let next : Option Nat := if active then some (since.getD 0) else none
  let s1 := s.modInputs (fun i => match l with | .a => { i with gateA := next } | .b => { i with gateB := next })
  if active = false ∧ 100 ≤ since.getD 0 then passagePulse l s1 else done s1

/-- A raw level changes (R1, R4). -/
def rawChange (i : FieldInput) (level : Bool) (s : State) : Reaction :=
  match i with
  | .presence b =>
    done (s.modBfe b (fun f => { f with
      rawPresence := level, presenceTimer := debounce level f.presence f.presenceTimer Config.presenceDebounce }))
  | .plug b =>
    done (s.modBfe b (fun f => { f with
      rawPlug := level, plugTimer := debounce level f.plug f.plugTimer Config.plugDebounce }))
  | .shed =>
    done (s.modInputs (fun x => { x with
      rawShed := level, shedTimer := debounce level x.shed x.shedTimer Config.shedDebounce }))
  | .gate l => gateLevel l level s

/-- The presence debounce time runs out (R1, R2, R3). -/
def presenceChange (b : BayNo) (s : State) : Reaction :=
  let f := s.bfeAt b
  if f.presenceTimer.isNone then done s
  else
    let p := !f.presence
    (s.modBfe b (fun f => { f with presence := p, presenceTimer := none }),
      (if f.plug && !p then [.raise b .sensor .plain false] else []) ++
      (if f.enabled && !f.plug then [.clrPresence b p] else []))

/-- What a plug going PLUGGED hands on (R2, R3). -/
def plugInNotices (b : BayNo) (f : Bfe) : List Notice :=
  (if f.presence then [] else [.raise b .sensor .plain false]) ++
  (if f.enabled then
    [.contactor b] ++ (if f.presence then [] else [.clrPresence b true]) ++ [.clcUp b, .dkuStart b, .falRecompute, .clrPlugIn b]
  else [])

/-- What a plug going UNPLUGGED hands on: the contactor opens (log 10), then the CLR, the DKU unless the CLR takes the
plug-out in CLEARING, the CLC, the FAL, and the presence change out of a conflict (R2, R3, R7, R169). -/
def plugOutNotices (b : BayNo) (f : Bfe) (clearing : Bool) : List Notice :=
  if f.enabled then
    [.contactor b, .clrPlugOut b] ++ (if clearing then [] else [.dkuUndock b .plugOut]) ++ [.clcDown b, .falRecompute] ++
    (if f.presence then [] else [.clrPresence b false])
  else []

/-- The plug debounce time runs out (R1, R2, R3). -/
def plugChange (b : BayNo) (s : State) : Reaction :=
  let f := s.bfeAt b
  if f.plugTimer.isNone then done s
  else
    (s.modBfe b (fun f => { f with plug := !f.plug, plugTimer := none }),
      if f.plug then plugOutNotices b f ((s.clrAt b).state == .clearing) else plugInNotices b f)

/-- The SHED debounce time runs out: the line part follows, SHED is raised, the budget is recomputed (R4, R104). -/
def shedLineChange (s : State) : Reaction :=
  if s.hallInputs.shedTimer.isNone then done s
  else
    let on := !s.hallInputs.shed
    ((s.modInputs (fun i => { i with shed := on, shedTimer := none })).modFeeder (fun f =>
        { f with shedLine := if on then 1 else 0 }),
      [.raiseHall .shed (.shed true), .falRecompute])

/-- A gate returns inactive after at least 100 ms active (R4). The row stands for such a return: it hands on the pulse
whatever the time counted so far (DESIGN CHOICE, log 3), and does nothing while the gate is not active (log 4). -/
def gatePassage (l : Lane) (s : State) : Reaction :=
  match l with
  | .a => if s.hallInputs.gateA.isSome then passagePulse .a (s.modInputs (fun i => { i with gateA := none })) else done s
  | .b => if s.hallInputs.gateB.isSome then passagePulse .b (s.modInputs (fun i => { i with gateB := none })) else done s

/-! ## Metering and overdraw -/

/-- A new sample kept with the four before it (R12). -/
def pushSample (x : Nat) (xs : List Nat) : List Nat := x :: xs.take 4

/-- The allowed figure for a granted load (R9). -/
def allowedLoad (g : Nat) : Nat := g + max 10 (g / 5)

/-- The overdraw timer after a comparison (R9). -/
def overdrawAfter (contactor : Bool) (average g : Nat) (t : Option Nat) : Option Nat :=
  if contactor && decide (allowedLoad g < average) then some (t.getD 0) else none

/-- One sample of each quantity, held within its range, and the comparisons of its users: the overdraw timer, the
stage-up's confirmation, the contactor-open point (R9, R12, R116, R168). -/
def meterSample (b : BayNo) (shore volts amps : Int) (s : State) : Reaction :=
  let s1 := s.modBfe b (fun f => { f with
    shore := pushSample (clampInt 0 1500 shore).toNat f.shore
    auxVolts := pushSample (clampInt 1800 3200 volts).toNat f.auxVolts
    auxAmps := pushSample (clampInt 0 4000 amps).toNat f.auxAmps })
  let s2 := s1.modBfe b (fun f => { f with
    overdraw := overdrawAfter f.contactor f.shorePower (s1.rowAt b).load f.overdraw })
  (falMeter b s2, if (s.clrAt b).state = .clearing then [.clrOpenTest b] else [])

/-- The overdraw timer has run 10 s: the bay trips (R10). -/
def overdrawTrip (b : BayNo) (s : State) : Reaction :=
  if (s.bfeAt b).overdraw.isSome then
    (s.modBfe b (fun f => { f with tripped := true, overdraw := none }),
      [.contactor b, .hplEnd b .overdraw, .raise b .overdraw .plain false])
  else done s

end Sys2Proof.Machine
end

