-- ==== Sys2Proof/Machine/Faults.lean ====
section
/-! DEFINITION. The Fault Reader: the Fault Class Map, ranked tables, scans and their interruptions, lamp verdicts
(R56 to R75, R77). -/

namespace Sys2Proof.Machine

/-! ## Classification and rank -/

/-- Whether a map entry fits a fault (R57). -/
def MapEntry.fits (e : MapEntry) (code source : Nat) : Bool :=
  decide (e.low ≤ code) && decide (code ≤ e.high) && (e.source == none || e.source == some source)

/-- The disposition and heat-stop of a fault: those of the first entry in map order that fits, else ADVISORY with
heat-stop no (R57). -/
def classify (map : List MapEntry) (code source : Nat) : Disposition × Bool :=
  match map.find? (fun e => e.fits code source) with
  | some e => (e.disposition, e.heatStop)
  | none => (.advisory, false)

/-- An entry classified anew (R57). -/
def FaultEntry.reclassify (map : List MapEntry) (e : FaultEntry) : FaultEntry :=
  { e with disposition := (classify map e.code e.source).1, heatStop := (classify map e.code e.source).2 }

/-- The five rank classes, 1 the highest (R65). -/
def FaultEntry.rankClass (e : FaultEntry) : Nat :=
  match e.disposition, e.active with
  | .blocking, true => 1
  | .blocking, false => 2
  | .advisory, true => 3
  | .advisory, false => 4
  | .ignore, _ => 5

/-- Of two entries, whether the first ranks above the second: rank class, then the later last-seen hour, then the lower
read index (R65). -/
def FaultEntry.above (x y : FaultEntry) : Bool :=
  if x.rankClass = y.rankClass then
    if x.lastSeen = y.lastSeen then decide (x.readIndex < y.readIndex) else decide (y.lastSeen < x.lastSeen)
  else decide (x.rankClass < y.rankClass)

/-- An entry put into its rank place of a ranked list (R65). -/
def rankInsert (e : FaultEntry) : List FaultEntry → List FaultEntry
  | [] => [e]
  | x :: xs => if e.above x then e :: x :: xs else x :: rankInsert e xs

/-- A list put in rank order (R65). -/
def rankSort : List FaultEntry → List FaultEntry
  | [] => []
  | x :: xs => rankInsert x (rankSort xs)

/-- Every entry classified anew and the list put in rank order anew (R57, R59, R67, R70). -/
def reclassifyAll (map : List MapEntry) (es : List FaultEntry) : List FaultEntry :=
  rankSort (es.map (FaultEntry.reclassify map))

/-! ## Taking a record -/

/-- Whether an entry has a key (R64). -/
def FaultEntry.hasKey (e : FaultEntry) (source code : Nat) : Bool := e.source == source && e.code == code

/-- A record as an entry of its own (R63). -/
def FaultRecord.entry (r : FaultRecord) (map : List MapEntry) (i : Nat) : FaultEntry :=
  { code := r.code, source := r.source, active := r.active, occurrences := r.occurrences, firstSeen := r.firstSeen,
    lastSeen := r.lastSeen, circuit := r.circuit, freeze := r.freeze, readIndex := i,
    disposition := (classify map r.code r.source).1, heatStop := (classify map r.code r.source).2,
    confirmed := false, isNew := false }

/-- A record merged into the entry that has its key (R64). -/
def FaultEntry.merge (e : FaultEntry) (r : FaultRecord) : FaultEntry :=
  { e with
    occurrences := min (e.occurrences + r.occurrences) 255
    active := e.active || r.active
    firstSeen := min e.firstSeen r.firstSeen
    lastSeen := max e.lastSeen r.lastSeen
    circuit := if e.lastSeen < r.lastSeen then r.circuit else e.circuit
    freeze := if e.lastSeen < r.lastSeen then r.freeze else e.freeze }

/-- The lowest-ranked entry of a ranked list and the entries above it. -/
def splitLowest : List FaultEntry → Option (List FaultEntry × FaultEntry)
  | [] => none
  | [x] => some ([], x)
  | x :: xs =>
    match splitLowest xs with
    | some (ys, y) => some (x :: ys, y)
    | none => none

/-- A new entry put into a ranked table, which may be full: the new table and whether something was dropped (R66). -/
def addEntry (e : FaultEntry) (es : List FaultEntry) : List FaultEntry × Bool :=
  if es.length < Config.tableSize then (rankInsert e es, false)
  else
    match splitLowest es with
    | some (above, low) => if e.above low then (rankInsert e above, true) else (es, true)
    | none => (es, true)

/-- The shadow after the record of index `i` (R63, R64, R66). -/
def Scan.take (sc : Scan) (map : List MapEntry) (i : Nat) (payload : List Byte) : Scan :=
  match faultRecordOf payload with
  | none => { sc with marks := { sc.marks with badRecord := true } }
  | some r =>
    let m := { sc.marks with badRecord := sc.marks.badRecord || r.bad }
    match sc.shadow.find? (fun e => e.hasKey r.source r.code) with
    | some e =>
      { sc with
        shadow := rankInsert (e.merge r) (sc.shadow.filter (fun x => !x.hasKey r.source r.code))
        marks := m }
    | none =>
      let t := addEntry (r.entry map i) sc.shadow
      { sc with shadow := t.1, marks := { m with truncated := m.truncated || t.2 } }

/-! ## Verdicts -/

/-- The verdict on a circuit (R56). -/
def Frd.verdict (f : Frd) (circuit : Nat) : Verdict := (f.verdicts[circuit]?).getD .none

/-- The verdict an outcome makes; `none` leaves it as it was (R75). -/
def LampOutcome.verdict : LampOutcome → Option Verdict
  | .open | .low | .high => some .failed
  | .pass => some .passed
  | .coachRefused | .noResponse | .lowSupply | .disturbed | .notChecked => none

/-- The unconfirmed list: the pairs of the committed entries that are ACTIVE and refer to a circuit whose verdict is
PASSED (R75). DESIGN CHOICE (log 41): the pairs stand in the committed table's rank order as it is when the list is
formed. -/
def Frd.formUnconfirmed (f : Frd) : List (Nat × Nat) :=
  (f.table.entries.filter (fun e =>
    e.active && (match e.circuit with | some c => f.verdict c == .passed | none => false))).map
    (fun e => (e.source, e.code))

/-- Whether a list holds a pair that another does not (R75). -/
def gains (old new : List (Nat × Nat)) : Bool := new.any (fun p => !old.contains p)

/-- One circuit's outcome handed to the FRD: its verdict, the CONFIRMED marks of the entries that refer to it, the
unconfirmed list (R75). -/
def Frd.takeOutcome (f : Frd) (circuit : Nat) (o : LampOutcome) : Frd :=
  match o.verdict with
  | none => { f with unconfirmed := f.formUnconfirmed }
  | some v =>
    let mark := fun (e : FaultEntry) => if e.circuit = some circuit then { e with confirmed := v == .failed } else e
    let g := { f with
      verdicts := f.verdicts.setIfInBounds circuit v
      table := { f.table with entries := f.table.entries.map mark } }
    { g with unconfirmed := g.formUnconfirmed }

/-- The outcomes of a results table handed on in chain order (R138, R139). -/
def Frd.takeOutcomes (f : Frd) (results : List LampResult) : Frd :=
  results.foldl (fun g r => g.takeOutcome r.circuit r.outcome) f

/-! ## Scans -/

/-- A scan that begins: the shadow and its marks emptied, restart-pending cleared, COUNTING (R60). Until its count is
taken its read limit and next index are 0 (DESIGN CHOICE, log 7). -/
def Scan.begin (kinds : KindSet) : Scan := { Scan.idle with state := .counting, kinds := kinds }

/-- The FRD submits a read. One the CLC refuses on a LOST link leaves the scan where it stands: the notice of that loss,
still to come in the event, fails it (R27, R60, R69). -/
def frdSubmit (b : BayNo) (r : BayRequest) (s : State) : State := s.modClc b (fun c => c.submitRead r)

/-- A scan begins with a kind set (R60). -/
def frdBegin (b : BayNo) (kinds : KindSet) (s : State) : Reaction :=
  done (frdSubmit b .fcount (s.modFrd b (fun f => { f with scan := .begin kinds })))

/-- Whether the READ class belongs to the DKU's first STATUS: READING_FAULTS with the DOCKING scan committed (R60). -/
def State.readHeld (s : State) (b : BayNo) : Bool :=
  (s.dkuAt b).state == .readingFaults && (s.frdAt b).readSinceDocking

/-- Whether an entry is the same fault with the same record fields, disposition and heat-stop (R67, step 3). -/
def FaultEntry.same (x y : FaultEntry) : Bool :=
  x.code == y.code && x.source == y.source && x.active == y.active && x.occurrences == y.occurrences &&
    x.firstSeen == y.firstSeen && x.lastSeen == y.lastSeen && x.circuit == y.circuit && x.freeze == y.freeze &&
    x.disposition == y.disposition && x.heatStop == y.heatStop

/-- Whether a table to be committed differs from the committed one (R67, step 3). -/
def FaultTable.differs (old : FaultTable) (entries : List FaultEntry) (m : TableMarks) : Bool :=
  old.entries.length != entries.length || entries.any (fun e => !old.entries.any (fun o => o.same e)) || old.marks != m

/-- An entry's NEW and CONFIRMED marks at a commit (R67, step 2). -/
def FaultEntry.atCommit (f : Frd) (e : FaultEntry) : FaultEntry :=
  { e with
    isNew := !f.table.entries.any (fun o => o.hasKey e.source e.code)
    confirmed := match e.circuit with | some c => f.verdict c == .failed | none => false }

/-- A scan commits: the shadow becomes the committed table (R67). -/
def frdCommit (b : BayNo) (shadow : List FaultEntry) (m : TableMarks) (kinds : KindSet) (s : State) : Reaction :=
  let f := s.frdAt b
  let entries := (reclassifyAll s.map shadow).map (FaultEntry.atCommit f)
  let changed := f.table.differs entries m
  let g := { f with
    table := ⟨entries, m, s.clock.time, kinds⟩
    scan := .idle
    readSinceDocking := true
    unreadSinceFailure := false
    scanDone := f.scanDone || kinds.departure }
  let list := g.formUnconfirmed
  (s.modFrd b (fun _ => { g with unconfirmed := list }),
    (if gains f.unconfirmed list then [.raise b .lamp (.lamp .unconfirmed) true] else []) ++
    [.frdHeatStop b, .tellScan b] ++
    (if kinds.docking then [.dkuScanCommitted b] else []) ++
    (if kinds.departure then [.clrScanCommitted b] else []) ++
    (if changed then [.raise b .faults (.faults .changed) false]
      else if kinds.host then [.raise b .faults (.faults .unchanged) false] else []) ++
    [.frdTakeRescan b])

/-- A scan is requested (R60); of a coach without fault memory it commits in this event (R73). -/
def frdRequest (b : BayNo) (kind : ScanKind) (s : State) : Reaction :=
  let f := s.frdAt b
  if (s.dkuAt b).profile.faultAbsent then frdCommit b [] .clear (KindSet.none.add kind) s
  else if s.readHeld b || f.scan.state != .idle || f.linkHeldLost then
    done (s.modFrd b (fun f => { f with rescan := f.rescan.add kind }))
  else frdBegin b (KindSet.none.add kind) s

/-- The rescan mark is taken up: one scan of everything it holds (R60). Where an earlier step of the commit has already
begun a scan, step 11 of R67 leaves the mark to the next commit (DESIGN CHOICE, log 37). -/
def frdTakeRescan (b : BayNo) (s : State) : Reaction :=
  let f := s.frdAt b
  if f.rescan = .none ∨ s.readHeld b ∨ f.scan.state ≠ .idle ∨ f.linkHeldLost then done s
  else frdBegin b f.rescan (s.modFrd b (fun f => { f with rescan := .none }))

/-- A scan fails (R68). The DKU and the CLR, told of a failed docking or departure scan, do nothing (R47, R165). Read
limit and next index stay as they stood (DESIGN CHOICE, log 7). -/
def frdFail (b : BayNo) (s : State) : Reaction :=
  (s.modFrd b (fun f => { f with
      scan := { f.scan with state := .awaitingLink, shadow := [], marks := .clear }
      unreadSinceFailure := true }),
    [.tellScan b, .raise b .faults (.faults .failed) false])

/-- The repeat of a read after a FAILED result with the link ACTIVE, or the scan's start over (R68, R70). -/
def frdRepeat (b : BayNo) (r : BayRequest) (s : State) : Reaction :=
  let sc := (s.frdAt b).scan
  if sc.restartPending then frdBegin b sc.kinds s else done (frdSubmit b r s)

/-- The end of a record: the next one is read or the scan commits (R63, step 4). -/
def frdNextRecord (b : BayNo) (sc : Scan) (i : Nat) (s : State) : Reaction :=
  if i + 1 < sc.limit then
    done (frdSubmit b (.fread (i + 1)) (s.modFrd b (fun f => { f with scan := { sc with next := i + 1 } })))
  else frdCommit b sc.shadow sc.marks sc.kinds s

/-- The FCOUNT's count taken (R62). -/
def frdCounted (b : BayNo) (n : Nat) (s : State) : Reaction :=
  let sc := (s.frdAt b).scan
  let cap := (s.dkuAt b).profile.capacity
  let m := { sc.marks with overCapacity := sc.marks.overCapacity || decide (cap < n) }
  if min n cap = 0 then frdCommit b [] m sc.kinds s
  else
    done (frdSubmit b (.fread 0) (s.modFrd b (fun f =>
      { f with scan := { sc with state := .reading, limit := min n cap, next := 0, marks := m } })))

/-- A FAILED result for the scan's outstanding read (R68). -/
def frdReadFailed (b : BayNo) (r : BayRequest) (s : State) : Reaction :=
  if (s.clcAt b).link = .active then frdRepeat b r s else frdFail b s

/-- The result of a read (R62, R63, R68, R70). Results of no outstanding read are not taken. -/
def frdResult (b : BayNo) (r : BayRequest) (result : TxResult) (s : State) : Reaction :=
  let sc := (s.frdAt b).scan
  match sc.state, r, result with
  | .counting, .fcount, .done (.fcount n) =>
    if sc.restartPending then frdBegin b sc.kinds s else frdCounted b n s
  | .counting, .fcount, .failed => frdReadFailed b .fcount s
  | .reading, .fread i, .done (.fread payload) =>
    if i ≠ sc.next then done s
    else if sc.restartPending then frdBegin b sc.kinds s
    else frdNextRecord b (sc.take s.map i payload) i s
  | .reading, .fread i, .failed => if i ≠ sc.next then done s else frdReadFailed b (.fread i) s
  | _, _, _ => done s

/-- The CLC's notice that the link is lost (R69). -/
def frdLost (b : BayNo) (s : State) : Reaction :=
  let s1 := s.modFrd b (fun f => { f with linkHeldLost := true })
  match (s.frdAt b).scan.state with
  | .counting | .reading => frdFail b s1
  | .idle | .awaitingLink => done s1

/-- The CLC's notice that the link has recovered (R69). -/
def frdRecovered (b : BayNo) (s : State) : Reaction :=
  let s1 := s.modFrd b (fun f => { f with linkHeldLost := false })
  match (s.frdAt b).scan.state with
  | .awaitingLink => frdBegin b (s.frdAt b).scan.kinds s1
  | .idle | .counting | .reading => frdTakeRescan b s1

/-- A change notice: the departure scan is no longer done and the DPM is told, then a departure scan that runs is split,
then a CHANGE scan is requested (R71). -/
def frdChange (b : BayNo) (s : State) : Reaction :=
  (s.modFrd b (fun f => { f with scanDone := false }),
    (if (s.frdAt b).scanDone then [.tellScan b] else []) ++ [.frdSplit b, .frdRequest b .change])

/-- A scan in progress loses the kind DEPARTURE to the rescan mark (R71, step 2). -/
def frdSplit (b : BayNo) (s : State) : Reaction :=
  done (s.modFrd b (fun f =>
    if f.scan.state != .idle && f.scan.kinds.departure then
      { f with
        scan := { f.scan with kinds := { f.scan.kinds with departure := false } }
        rescan := f.rescan.add .departure }
    else f))

/-- The bay's active departure has changed: DEPARTURE_SCAN_DONE is cleared (R72). -/
def frdActiveChanged (b : BayNo) (s : State) : Reaction :=
  (s.modFrd b (fun f => { f with scanDone := false }), if (s.frdAt b).scanDone then [.tellScan b] else [])

/-- The heat-stop test (R74). -/
def frdHeatStop (b : BayNo) (s : State) : Reaction :=
  (s, if (s.frdAt b).table.heatStop then [.hplEnd b .coachStop] else [])

/-- A committed table at a map change (R59). -/
def frdReclassify (b : BayNo) (s : State) : Reaction :=
  let f := s.frdAt b
  if f.retained || (f.table.entries.isEmpty && !f.table.marks.truncated) then done s
  else
    let entries := reclassifyAll s.map f.table.entries
    let changed := entries.any (fun e => !f.table.entries.any (fun o =>
      o.hasKey e.source e.code && o.disposition == e.disposition && o.heatStop == e.heatStop))
    let m := if f.table.marks.truncated then { f.table.marks with truncated := false, incomplete := true }
      else f.table.marks
    (s.modFrd b (fun f => { f with table := { f.table with entries := entries, marks := m } }),
      (if f.table.marks.truncated then [.frdRequest b .change] else []) ++
      (if changed then [.raise b .faults (.faults .reclassified) false] else []) ++
      [.tellScan b, .frdHeatStop b])

/-- A scan in progress at a map change (R70). -/
def frdReshadow (b : BayNo) (s : State) : Reaction :=
  done (s.modFrd b (fun f =>
    match f.scan.state with
    | .idle => f
    | .awaitingLink =>
      if f.scan.marks.truncated then f else { f with scan := { f.scan with shadow := reclassifyAll s.map f.scan.shadow } }
    | .counting | .reading =>
      if f.scan.marks.truncated then { f with scan := { f.scan with restartPending := true } }
      else { f with scan := { f.scan with shadow := reclassifyAll s.map f.scan.shadow } }))

/-- What a map change does, bay by bay (R58, R59, R70; log 28). -/
def mapChangeNotices : List Notice := allBays.flatMap (fun b => [.frdReclassify b, .frdReshadow b])

/-- The empty session state (R56, R77). -/
def frdClear (b : BayNo) (s : State) : Reaction := done (s.modFrd b (fun _ => .reset))

/-- The plug-out in CLEARING: the scan, its shadow and the rescan mark go, the rest is RETAINED (R77). DESIGN CHOICE
(log 39): the link-held-lost mark, which R77 names neither among what goes nor among what stays, is kept as it stands. -/
def frdRetain (b : BayNo) (s : State) : Reaction :=
  done (s.modFrd b (fun f => { f with scan := .idle, rescan := .none, retained := true }))

end Sys2Proof.Machine
end

