-- ==== Sys2Proof/Machine/Lamps.lean ====
section
/-! DEFINITION. The Lamp Check Sequencer: runs, precision channels, the phases of a step, measurement and outcome, pauses,
the end of a run (R122 to R141). -/

namespace Sys2Proof.Machine

/-! ## Measurement -/

/-- The four samples in order. -/
def samplesOf (x : FourSamples) : List Int := [x.s1, x.s2, x.s3, x.s4]

/-- Aux current samples held within 0 to 40.00 A, in 10 mA (R130). -/
def currentSamples (x : FourSamples) : List Nat := (samplesOf x).map (fun i => (clampInt 0 4000 i).toNat)

/-- Aux voltage samples held within 18.00 to 32.00 V, in 10 mV (R131). -/
def voltageSamples (x : FourSamples) : List Nat := (samplesOf x).map (fun i => (clampInt 1800 3200 i).toNat)

/-- The mean of four samples, rounded half up (R132). -/
def meanOfFour (xs : List Nat) : Nat := halfUpDiv xs.sum 4

/-- P in 0.1 W from Ib, Il and V: a negative rise is taken as 0 (R132). -/
def lampPower (ib il v : Nat) : Nat := halfUpDiv ((il - ib) * v) 1000

/-- The outcome from V, P, N and T (R133). -/
def lampOutcome (v p n t : Nat) : LampOutcome :=
  if v < 2000 then .lowSupply
  else if p * 10 < n then .open
  else if p * 100 < n * (100 - t) then .low
  else if n * (100 + t) < p * 100 then .high
  else .pass

/-- The place of an outcome in the order of severity; NOT_CHECKED gives way to any (R135). -/
def LampOutcome.severity : LampOutcome → Nat
  | .notChecked => 0
  | .pass => 1 | .disturbed => 2 | .lowSupply => 3 | .noResponse => 4 | .coachRefused => 5 | .high => 6 | .low => 7
  | .open => 8

/-- Whether an outcome is tried again while the try is 1 or 2 (R135). -/
def LampOutcome.retried : LampOutcome → Bool
  | .disturbed | .noResponse | .lowSupply => true
  | .pass | .coachRefused | .high | .low | .open | .notChecked => false

/-- A standing outcome folded into its entry: taken when at least as severe, with the measured power (R135). -/
def LampResult.fold (r : LampResult) (o : LampOutcome) (power : Option Nat) : LampResult :=
  if r.outcome.severity ≤ o.severity then { r with outcome := o, power := power } else r

/-- One entry of a results table changed. -/
def modResult (circuit : Nat) (f : LampResult → LampResult) (rs : List LampResult) : List LampResult :=
  rs.map (fun r => if r.circuit = circuit then f r else r)

/-! ## Sequence and position -/

/-- The checkable entries of the profile's lamp list, in chain order (R123). -/
def Profile.checkable (p : Profile) : List LampEntry := p.lamps.filter LampEntry.checkable

/-- The results entry a run starts with (R123). -/
def LampEntry.fresh (e : LampEntry) : LampResult :=
  ⟨e.circuit, e.group, e.nominal, e.tolerance, .notChecked, none, 0, none⟩

/-- The circuit the position names (R126). -/
def Lcs.circuit (l : Lcs) : Option Nat := l.sequence[l.index]?

/-- Whether the run would end at its next step (R126). -/
def Lcs.atEnd (l : Lcs) : Bool := decide (l.sequence.length ≤ l.index) && decide (l.passes ≤ l.pass)

/-- Whether no pause reason stands. -/
def PauseReasons.isNone (r : PauseReasons) : Bool := !r.step && !r.ignition && !r.link

/-- The step in progress forgotten: no phase, samples, outcome or settle time. -/
def Lcs.noStep (l : Lcs) : Lcs := { l with phase := .none, baseline := [], outcome := none, settle := none }

/-- A step's outcome judged at its end: measurements taken rises, and it is tried again or it stands and is folded in
(R126, R135). -/
def Lcs.judge (l : Lcs) : Lcs :=
  match l.outcome, l.circuit with
  | some (o, p), some c =>
    let rs := modResult c (fun r => { r with measurements := r.measurements + 1 }) l.results
    if o.retried && decide (l.tries < 3) then { l with results := rs, tries := l.tries + 1 }
    else { l with results := modResult c (fun r => r.fold o p) rs, index := l.index + 1, tries := 1 }
  | _, _ => l

/-! ## Precision channels -/

/-- A bay takes a channel: the quiet mark is set, and the baseline begins unless a stage-up is in flight on the bay
(R128, R129). -/
def takeChannel (b : BayNo) (c : Fin 4) (s : State) : State :=
  ((s.setChannel c (some b)).modRow b (fun r => { r with quiet := true })).modLcs b (fun l =>
    { l with channel := some c, phase := if (s.rowAt b).inFlight then .quietWait else .baseline })

/-- The lowest-numbered free channel (R128). -/
def State.freeChannel (s : State) : Option (Fin 4) :=
  [(0 : Fin 4), 1, 2, 3].find? (fun c => s.channels[c].isNone)

/-- A step asks for a channel: it takes a free one while the queue is empty, else the bay joins the queue's tail, once
(R128). -/
def askChannel (b : BayNo) (s : State) : State :=
  match s.freeChannel, s.channelQueue with
  | some c, [] => takeChannel b c s
  | _, _ =>
    ({ s with channelQueue := if s.channelQueue.contains b then s.channelQueue else s.channelQueue ++ [b] } :
      State).modLcs b (fun l => { l with phase := .queued })

/-- A channel released: the bay at the head of the queue takes it (R128). -/
def freeChannelOf (b : BayNo) (s : State) : State :=
  match (s.lcsAt b).channel with
  | none => s
  | some c =>
    let s1 := (s.setChannel c none).modLcs b (fun l => { l with channel := none })
    match s1.channelQueue with
    | [] => s1
    | h :: rest => takeChannel h c { s1 with channelQueue := rest }

/-- The queue place and the channel given up, then the quiet mark cleared, which makes a selection (R119, R128, R136). -/
def releaseStep (b : BayNo) (s : State) : Reaction :=
  let s1 := freeChannelOf b { s with channelQueue := s.channelQueue.filter (fun x => x != b) }
  (s1.modRow b (fun r => { r with quiet := false }), if (s.rowAt b).quiet then [.falSelect] else [])

/-! ## LAMP submissions -/

/-- A LAMP request submitted; one refused at submission is taken as FAILED (R130). -/
def submitLampOf (b : BayNo) (circuit : Nat) (on : Bool) (s : State) : Reaction :=
  if (s.clcAt b).takesLamp then done (s.modClc b (fun c => c.submitLamp circuit on))
  else (s, [.lcsResult b circuit on .failed])

/-- Whether the link can carry a lamp request: ACTIVE and not held lost (R136). -/
def State.lampLink (s : State) (b : BayNo) : Bool := (s.clcAt b).link == .active && !(s.lcsAt b).linkHeldLost

/-- An owed LAMP OFF submitted where no LAMP request is pending and the link is usable; else it stays owed (R131, R136,
R137). -/
def submitOwed (b : BayNo) (circuit : Nat) (s : State) : State :=
  if s.lampLink b && (s.clcAt b).takesLamp then s.modClc b (fun c => c.submitLamp circuit false) else s

/-- The step goes to its OFF phase (R130, R131, R134). -/
def goOff (b : BayNo) (s : State) : Reaction :=
  match (s.lcsAt b).circuit with
  | some c => submitLampOf b c false (s.modLcs b (fun l => { l with phase := .off, settle := none }))
  | none => done s

/-! ## Abandoning a step -/

/-- A step abandoned: queue place, channel and quiet mark released; a switch-off owed where the circuit may be lit, and
submitted, after the selection of that release, where no LAMP transaction is outstanding and the link is usable; a step
in its OFF phase is judged (R136). -/
def abandonStep (b : BayNo) (s : State) : Reaction :=
  let l := s.lcsAt b
  let r := releaseStep b s
  match l.phase, l.circuit with
  | .light, some c => (r.1.modLcs b (fun l => { l.noStep with owed := some c }), r.2)
  | .off, some c => (r.1.modLcs b (fun l => { l.judge.noStep with owed := some c }), r.2)
  | .settle, some c | .lit, some c =>
    (r.1.modLcs b (fun l => { l.noStep with owed := some c }), r.2 ++ [.lcsSwitchOff b])
  | _, _ => (r.1.modLcs b Lcs.noStep, r.2)

/-- The switch-off of an abandoned step submitted (R136, step 2). -/
def lcsSwitchOff (b : BayNo) (s : State) : Reaction :=
  match (s.lcsAt b).owed with
  | some c => done (submitOwed b c s)
  | none => done s

/-- A run paused: its step abandoned, the status PAUSED, LAMP raised (R136, R137). An abandonment adds its own reason and
not STEP, also in mode STEP and also of a step in its OFF phase (DESIGN CHOICE, log 14). -/
def pauseRun (b : BayNo) (add : PauseReasons → PauseReasons) (s : State) : Reaction :=
  let r := abandonStep b s
  (r.1.modLcs b (fun l => { l with status := .paused, reasons := add l.reasons }),
    r.2 ++ [.tellLamp b, .raise b .lamp (.lamp .paused) false])

/-- A pause reason added: a RUNNING run pauses; a PAUSED one takes the further reason (R136, R137; log 14). -/
def addReason (b : BayNo) (add : PauseReasons → PauseReasons) (s : State) : Reaction :=
  match (s.lcsAt b).status with
  | .running => pauseRun b add s
  | .paused => done (s.modLcs b (fun l => { l with reasons := add l.reasons }))
  | .notRun | .passed | .failed | .expired | .aborted => done s

/-- A pause reason removed from a PAUSED run: with none left it goes on (R127, R136, R137). -/
def dropReason (b : BayNo) (drop : PauseReasons → PauseReasons) (s : State) : Reaction :=
  let l := s.lcsAt b
  if l.status = .paused then
    let rs := drop l.reasons
    if rs.isNone then
      (s.modLcs b (fun l => { l with status := .running, reasons := rs }), [.tellLamp b, .lcsNext b])
    else done (s.modLcs b (fun l => { l with reasons := rs }))
  else done s

/-! ## The course of a run -/

/-- A run starts (R123). -/
def lcsStart (b : BayNo) (mode : LampMode) (passes : Nat) (s : State) : Reaction :=
  let es := (s.dkuAt b).profile.checkable
  let l := s.lcsAt b
  let rs : PauseReasons := ⟨false, l.ignition == some true, l.linkHeldLost⟩
  let paused := !es.isEmpty && !rs.isNone
  (s.modLcs b (fun l => { l.noStep with
      status := if paused then .paused else .running
      reasons := if paused then rs else .none
      mode := mode, passes := passes, sequence := es.map LampEntry.circuit, pass := 1, index := 0, tries := 1
      validity := none, results := es.map LampEntry.fresh }),
    [.tellLamp b] ++
    (if es.isEmpty then [.lcsRunEnd b]
      else if paused then [.raise b .lamp (.lamp .paused) false] else [.lcsNext b]))

/-- An automatic run, mode RUN and one pass; while a run stands none starts (R125, R140). -/
def lcsAutomatic (b : BayNo) (s : State) : Reaction :=
  match (s.lcsAt b).status with
  | .running | .paused => done s
  | .notRun | .passed | .failed | .expired | .aborted => lcsStart b .run 1 s

/-- The position after the end of a pass (R126). -/
def Lcs.nextPass (l : Lcs) : Lcs :=
  if l.sequence.length ≤ l.index ∧ l.pass < l.passes then { l with pass := l.pass + 1, index := 0, tries := 1 } else l

/-- The run takes its next step (R126). -/
def lcsNext (b : BayNo) (s : State) : Reaction :=
  let l := (s.lcsAt b).nextPass
  if l.status = .running ∧ l.phase = .none then
    match l.circuit with
    | none => (s, [.lcsRunEnd b])
    | some _ =>
      let s1 := s.modLcs b (fun _ => l)
      if l.owed.isSome then done s1 else done (askChannel b s1)
  else done s

/-- A step ends: channel and quiet mark released, the outcome judged, the run goes on, pauses in mode STEP, or ends
(R126, R131). -/
def lcsStepEnd (b : BayNo) (s : State) : Reaction :=
  let r := releaseStep b s
  let s1 := r.1.modLcs b (fun l => l.judge.noStep)
  let l := s1.lcsAt b
  if l.status = .running ∧ l.mode = .step ∧ l.atEnd = false then
    (s1.modLcs b (fun l => { l with status := .paused, reasons := { l.reasons with step := true } }),
      r.2 ++ [.tellLamp b, .raise b .lamp (.lamp .paused) false])
  else (s1, r.2 ++ [.lcsNext b])

/-- The outcomes of the results table handed to the FRD, and whether its unconfirmed list gained a pair (R75). -/
def handOutcomes (b : BayNo) (s : State) : State × Bool :=
  let f := (s.frdAt b).takeOutcomes (s.lcsAt b).results
  (s.modFrd b (fun _ => f), gains (s.frdAt b).unconfirmed f.unconfirmed)

/-- A RUNNING run whose last step has ended ends (R138). -/
def lcsRunEnd (b : BayNo) (s : State) : Reaction :=
  let l := s.lcsAt b
  if l.status = .running ∧ l.phase = .none then
    let pass := l.results.all (fun r => r.outcome == .pass)
    let s1 := s.modLcs b (fun l => { l.noStep with
      status := if pass then .passed else .failed, reasons := .none, validity := secTimer (60 * s.setting 11) })
    let h := handOutcomes b s1
    (h.1, [.tellLamp b, .raise b .lamp (.lamp (if pass then .passed else .failed)) h.2])
  else done s

/-- A run aborted (R139). -/
def lcsAbort (b : BayNo) (s : State) : Reaction :=
  let r := abandonStep b s
  let s1 := r.1.modLcs b (fun l => { l.noStep with status := .aborted, reasons := .none })
  let h := handOutcomes b s1
  (h.1, r.2 ++ [.tellLamp b, .raise b .lamp (.lamp .aborted) h.2])

/-! ## LAMP results -/

/-- The result of a step's LAMP ON (R130); a step disturbed in LIGHT keeps that outcome (R134). -/
def lampOnResult (b : BayNo) (result : TxResult) (s : State) : Reaction :=
  let disturbed := (s.lcsAt b).outcome.isSome
  match result with
  | .done _ =>
    if disturbed then goOff b s
    else done (s.modLcs b (fun l => { l with phase := .settle, settle := msTimer (s.setting 10) }))
  | .refused =>
    (s.modLcs b (fun l => { l with outcome := if disturbed then l.outcome else some (.coachRefused, none) }),
      [.lcsStepEnd b])
  | .failed =>
    if (s.clcAt b).link = .active then
      goOff b (s.modLcs b (fun l => { l with outcome := if disturbed then l.outcome else some (.noResponse, none) }))
    else addReason b (fun r => { r with link := true }) s

/-- The result of a step's LAMP OFF (R131). -/
def lampOffResult (b : BayNo) (circuit : Nat) (result : TxResult) (s : State) : Reaction :=
  match result with
  | .done _ | .refused => (s, [.lcsStepEnd b])
  | .failed =>
    let s1 := s.modLcs b (fun l => { l with owed := some circuit })
    (submitOwed b circuit s1, [.lcsStepEnd b])

/-- The result of a LAMP transaction outside a step, while a switch-off is owed: the OFF that ends it, an OFF that failed,
or the ON of an abandoned step (R131, R136). -/
def lampOwedResult (b : BayNo) (circuit : Nat) (on : Bool) (result : TxResult) (s : State) : Reaction :=
  match result, on with
  | .refused, _ | .done _, false => (s.modLcs b (fun l => { l with owed := none }), [.lcsNext b])
  | .done _, true | .failed, _ => done (submitOwed b circuit s)

/-- A LAMP result taken where its step or its owed switch-off stands (R130, R131, R136). -/
def lcsResult (b : BayNo) (circuit : Nat) (on : Bool) (result : TxResult) (s : State) : Reaction :=
  let l := s.lcsAt b
  if l.phase = .light ∧ on = true ∧ l.circuit = some circuit then lampOnResult b result s
  else if l.phase = .off ∧ on = false ∧ l.circuit = some circuit then lampOffResult b circuit result s
  else if l.owed = some circuit then lampOwedResult b circuit on result s
  else done s

/-! ## Notices taken by the LCS -/

/-- Whether a bay's coach session stands: the bay enabled, plugged and DOCKED. -/
def State.inSession (s : State) (b : BayNo) : Bool :=
  (s.bfeAt b).enabled && (s.bfeAt b).plug && (s.dkuAt b).state == .docked

/-- The FAL reports a stage removed from the bay while quiet (R134). The cut that the end of a session makes disturbs no
step: that session's step is abandoned (DEDUCED from R141, log 14). -/
def lcsRemoved (b : BayNo) (s : State) : Reaction :=
  let disturb := s.modLcs b (fun l => { l with outcome := some (.disturbed, none), baseline := [] })
  if s.inSession b then
    match (s.lcsAt b).phase with
    | .baseline => (disturb, [.lcsStepEnd b])
    | .light => done disturb
    | .settle | .lit => goOff b disturb
    | .none | .queued | .quietWait | .off => done s
  else done s

/-- The ignition state of a STATUS (R136). -/
def lcsIgnition (b : BayNo) (on : Bool) (s : State) : Reaction :=
  let s1 := s.modLcs b (fun l => { l with ignition := some on })
  if on then
    if (s.lcsAt b).reasons.ignition then done s1 else addReason b (fun r => { r with ignition := true }) s1
  else if (s.lcsAt b).reasons.ignition then dropReason b (fun r => { r with ignition := false }) s1
  else done s1

/-- The CLC's notice that the link is lost (R137). -/
def lcsLost (b : BayNo) (s : State) : Reaction :=
  let s1 := s.modLcs b (fun l => { l with linkHeldLost := true })
  if (s.lcsAt b).reasons.link then done s1 else addReason b (fun r => { r with link := true }) s1

/-- The CLC's notice that the link has recovered: an owed switch-off is submitted, then LINK leaves the reasons (R137). -/
def lcsRecovered (b : BayNo) (s : State) : Reaction :=
  let s1 := s.modLcs b (fun l => { l with linkHeldLost := false })
  let s2 := match (s.lcsAt b).owed with | some c => submitOwed b c s1 | none => s1
  if (s.lcsAt b).reasons.link then dropReason b (fun r => { r with link := false }) s2 else done s2

/-- Entering DOCKED: the mark is cleared, and an automatic run starts where the departure and the setting ask for one
(R48 step 6, R125, R137). -/
def lcsDocked (b : BayNo) (s : State) : Reaction :=
  let s1 := s.modLcs b (fun l => { l with linkHeldLost := false })
  match s.activeOf b with
  | some d => if d.lampCheck ∧ s.setting 12 = 1 then lcsAutomatic b s1 else done s1
  | none => done s1

/-- A run abandoned at disable: steps 1 and 2 of R141 (R6, step 2). -/
def lcsAbandonRun (b : BayNo) (s : State) : Reaction :=
  let r := releaseStep b s
  (r.1.modLcs b (fun l => { l.noStep with owed := none }), r.2)

/-- Undocking, or the end of a retained record (R141). -/
def lcsUndock (b : BayNo) (s : State) : Reaction :=
  let r := releaseStep b s
  (r.1.modLcs b (fun _ => .reset), r.2 ++ [.tellLamp b])

/-- The plug-out in CLEARING: the record is RETAINED (R141). DESIGN CHOICE (log 42): the link-held-lost mark and the last
ignition value, which R141 names in neither list, are kept as they stand. -/
def lcsRetain (b : BayNo) (s : State) : Reaction :=
  let r := releaseStep b s
  (r.1.modLcs b (fun l => { l.noStep with owed := none, validity := none, retained := true }), r.2)

/-- A docking start: the ignition value is none (R136). -/
def lcsSessionStart (b : BayNo) (s : State) : Reaction := done (s.modLcs b (fun l => { l with ignition := none }))

/-! ## Events of the measurement -/

/-- The fourth baseline sample: LAMP ON is submitted (R130). -/
def lcsBaseline (b : BayNo) (amps : FourSamples) (s : State) : Reaction :=
  let l := s.lcsAt b
  match l.circuit with
  | some c =>
    if l.phase = .baseline then
      submitLampOf b c true (s.modLcs b (fun l => { l with phase := .light, baseline := currentSamples amps }))
    else done s
  | none => done s

/-- The settle time runs out (R131). -/
def lcsSettled (b : BayNo) (s : State) : Reaction :=
  let l := s.lcsAt b
  if l.phase = .settle ∧ l.settle.isSome then done (s.modLcs b (fun l => { l with phase := .lit, settle := none }))
  else done s

/-- The fourth lit pair: the power and the outcome, the time of the measurement, LAMP OFF (R131 to R133). -/
def lcsLit (b : BayNo) (amps volts : FourSamples) (s : State) : Reaction :=
  let l := s.lcsAt b
  match l.circuit with
  | some c =>
    match l.results.find? (fun r => r.circuit == c) with
    | some r =>
      if l.phase = .lit then
        let v := meanOfFour (voltageSamples volts)
        let p := lampPower (meanOfFour l.baseline) (meanOfFour (currentSamples amps)) v
        goOff b (s.modLcs b (fun l => { l with
          outcome := some (lampOutcome v p r.nominal r.tolerance, some p)
          baseline := []
          results := modResult c (fun r => { r with time := some s.clock.time }) l.results }))
      else done s
    | none => done s
  | none => done s

/-- The validity timer runs out (R140). -/
def lcsExpired (b : BayNo) (s : State) : Reaction :=
  let l := s.lcsAt b
  if l.validity.isSome then
    (s.modLcs b (fun l => { l with
        validity := none
        status := if l.status = .passed ∨ l.status = .failed then .expired else l.status }),
      [.tellLamp b, .raise b .lamp (.lamp .expired) false] ++
      (if s.setting 13 = 1 ∧ (s.dkuAt b).state = .docked then [.lcsAutomatic b] else []))
  else done s

end Sys2Proof.Machine
end

