-- ==== Sys2Proof/Machine/Cascade.lean ====
section
/-! DEFINITION. The order within an event: each notice is taken with all it leads to before the next one. -/

namespace Sys2Proof.Machine

/-- The late check of every record, or of one record (R146, R147, R151). -/
def lateCheckFor (id : Option Nat) (s : State) : Reaction :=
  match id with
  | none => lateCheck (fun _ => true) s
  | some n => lateCheck (fun d => d.id == n) s

/-- What a notice does. -/
def handle (n : Notice) (s : State) : Reaction :=
  match n with
  | .raise b k r q => done (raiseFlag s b k r q)
  | .raiseHall k r => done (raiseHallFlag s k r)
  | .contactor b => bfeContactor b s
  | .clcUp b => clcUp b s
  | .clcDown b => clcDown b s
  | .clcDiscard b => clcDiscard b s
  | .clcStopPoll b => clcStopPoll b s
  | .clcNext b => clcNext b s
  | .dkuStart b => dkuStart b s
  | .dkuBegin b => dkuBegin b s
  | .dkuSubmit b request => dkuSubmit b request s
  | .dkuResult b request result => dkuResult b request result s
  | .dkuRecovered b => dkuRecovered b s
  | .dkuScanCommitted b => dkuScanCommitted b s
  | .dkuUndock b why => dkuUndock b why s
  | .dkuRetain b => dkuRetain b s
  | .dkuDiscard b => dkuDiscard b s
  | .dkuMatch b => dkuMatch b s
  | .dkuWrongBay b => dkuWrongBay b s
  | .clearTrip b => clearTrip b s
  | .frdRequest b kind => frdRequest b kind s
  | .frdTakeRescan b => frdTakeRescan b s
  | .frdResult b request result => frdResult b request result s
  | .frdLost b => frdLost b s
  | .frdRecovered b => frdRecovered b s
  | .frdChange b => frdChange b s
  | .frdSplit b => frdSplit b s
  | .frdHeatStop b => frdHeatStop b s
  | .frdReclassify b => frdReclassify b s
  | .frdReshadow b => frdReshadow b s
  | .frdClear b => frdClear b s
  | .frdRetain b => frdRetain b s
  | .frdActiveChanged b => frdActiveChanged b s
  | .hplForm b atDocked => hplForm b atDocked s
  | .hplNone b => hplNone b s
  | .hplAmended b => hplAmended b s
  | .hplRecompute b => hplRecompute b s
  | .hplStart b => hplStart b s
  | .hplPoint b => hplPoint b s
  | .hplSample b temperature => hplSample b temperature s
  | .hplCoachStop b => hplCoachStop b s
  | .hplEnd b code => hplEnd b code s
  | .hplAddLink b => hplAddLink b s
  | .hplDropLink b => hplDropLink b s
  | .hplAddClearing b => hplAddClearing b s
  | .hplDropClearing b => hplDropClearing b s
  | .hplDocked b => hplDocked b s
  | .hplSessionStart b => hplSessionStart b s
  | .hplUndock b => hplUndock b s
  | .hplPlugOut b => hplPlugOut b s
  | .hplForget b => hplForget b s
  | .falTake b => falTake b s
  | .falContactor b => falContactor b s
  | .falLost b => falLost b s
  | .falRecovered b => falRecovered b s
  | .falDocked b => falDocked b s
  | .falEmpty b => falEmpty b s
  | .falUndock b => falUndock b s
  | .falRecompute => falRecompute s
  | .falResult b count result => falResult b count result s
  | .falSelect => falSelect s
  | .lcsAutomatic b => lcsAutomatic b s
  | .lcsNext b => lcsNext b s
  | .lcsStepEnd b => lcsStepEnd b s
  | .lcsRunEnd b => lcsRunEnd b s
  | .lcsResult b circuit on result => lcsResult b circuit on result s
  | .lcsRemoved b => lcsRemoved b s
  | .lcsSwitchOff b => lcsSwitchOff b s
  | .lcsIgnition b on => lcsIgnition b on s
  | .lcsLost b => lcsLost b s
  | .lcsRecovered b => lcsRecovered b s
  | .lcsDocked b => lcsDocked b s
  | .lcsAbandonRun b => lcsAbandonRun b s
  | .lcsUndock b => lcsUndock b s
  | .lcsRetain b => lcsRetain b s
  | .lcsSessionStart b => lcsSessionStart b s
  | .tellService b => tellService b s
  | .tellDock b => tellDock b s
  | .tellLink b => tellLink b s
  | .tellScan b => tellScan b s
  | .tellHeat b => tellHeat b s
  | .tellLamp b => tellLamp b s
  | .tellReliance b => tellReliance b s
  | .tellFreeze b on => tellFreeze b on s
  | .ownConditions b => ownConditions b s
  | .rederive b => rederive b s
  | .workOut b => workOut b s
  | .amended b fleet heat lane => amended b fleet heat lane s
  | .departed b cleared => departed b cleared s
  | .lateCheck id => lateCheckFor id s
  | .clrHolds b => clrHolds b s
  | .clrSettle b => clrSettle b s
  | .clrDocked b => clrDocked b s
  | .clrScanCommitted b => clrScanCommitted b s
  | .clrFromSensors b => clrFromSensors b s
  | .clrPresence b occupied => clrPresence b occupied s
  | .clrPlugIn b => clrPlugIn b s
  | .clrPlugOut b => clrPlugOut b s
  | .clrUndocked b why => clrUndocked b why s
  | .clrDisable b => clrDisable b s
  | .clrWindow b => clrWindow b s
  | .clrDeparture b => clrDeparture b s
  | .clrOfferTo b => clrOfferTo b s
  | .clrSuspend b => clrSuspend b s
  | .clrStartTimers b => clrStartTimers b s
  | .clrOpenTest b => clrOpenTest b s
  | .clrRevokeEnd b timeout => clrRevokeEnd b timeout s
  | .laneOffer l => laneOffer l s

/-- An event's notices taken in order, each with all it leads to before the next; what a bound of `n` notices leaves over
stands in `unfinished` for the next idle step (log 5). -/
def run : Nat → List Notice → State → State
  | _, [], s => s
  | 0, x :: xs, s => { s with unfinished := s.unfinished ++ (x :: xs) }
  | n + 1, x :: xs, s => run n ((handle x s).2 ++ xs) (handle x s).1

/-- An event carried through: the block's own change, then its notices. -/
def perform (r : Reaction) : State := run Config.cascadeBound r.2 r.1

/-- The notices an event left over, carried on (log 5). -/
def carryOn (s : State) : State := run Config.cascadeBound s.unfinished { s with unfinished := [] }

end Sys2Proof.Machine
end

