-- ==== Sys2Proof/Machine/Replies.lean ====
section
/-! DEFINITION. The replies: codes (R193), the status byte, and the records and items of R194 to R197 and R202 (the
conventions R202 leaves open are those of logs 19 to 22). -/

namespace Sys2Proof.Machine

/-! ## Codes -/

def Aspect.code : Aspect → Nat
  | .dark => 0 | .red => 1 | .amber => 2 | .green => 3
def LinkState.code : LinkState → Nat
  | .down => 0 | .active => 1 | .lost => 2
def DockState.code : DockState → Nat
  | .undocked => 0 | .probing => 1 | .readingDescriptors => 2 | .readingFaults => 3 | .docked => 4 | .dockFailed => 5
def PlanState.code : PlanState → Nat
  | .none => 0 | .waiting => 1 | .heating => 2 | .holding => 3 | .suspended => 4 | .ended => 5
def LampStatus.code : LampStatus → Nat
  | .notRun => 0 | .running => 1 | .paused => 2 | .passed => 3 | .failed => 4 | .expired => 5 | .aborted => 6
def LampOutcome.code : LampOutcome → Nat
  | .pass => 0 | .disturbed => 1 | .lowSupply => 2 | .noResponse => 3 | .coachRefused => 4 | .high => 5 | .low => 6
  | .open => 7 | .notChecked => 8
def ClearState.code : ClearState → Nat
  | .outOfService => 0 | .empty => 1 | .arrived => 2 | .docking => 3 | .preparing => 4 | .ready => 5 | .scanning => 6
  | .queued => 7 | .clearing => 8 | .cleared => 9 | .recalled => 10
def laneCode : Lane → Nat
  | .a => 0 | .b => 1
def LanePreference.code : LanePreference → Nat
  | .a => 0 | .b => 1 | .either => 2
def LaneState.code : LaneState → Nat
  | .free => 0 | .granted => 1 | .passageWait => 2 | .closed => 3
def LampMode.code : LampMode → Nat
  | .run => 0 | .step => 1
def Disposition.code : Disposition → Nat
  | .blocking => 0 | .advisory => 1 | .ignore => 2
def ScanState.code : ScanState → Nat
  | .idle => 0 | .counting => 1 | .reading => 2 | .awaitingLink => 3
def MatchState.code : MatchState → Nat
  | .unmatched => 0 | .matched => 1 | .mismatched => 2
def Readiness.code : Readiness → Nat
  | .ready => 0 | .notReady => 1 | .fault => 2
def StepPhase.code : StepPhase → Nat
  | .none => 0 | .queued => 1 | .quietWait => 2 | .baseline => 3 | .light => 4 | .settle => 5 | .lit => 6 | .off => 7
def ignitionCode : Option Bool → Nat
  | none => 0 | some false => 1 | some true => 2
def LampGroup.code : LampGroup → Nat
  | .front => 0 | .rear => 1 | .side => 2 | .interior => 3 | .signal => 4 | .marker => 5
def classCode : Option TxClass → Nat
  | some .heat => 0 | some .lamp => 1 | some .read => 2 | some .poll => 3 | none => 4
def RowClass.code : RowClass → Nat
  | .none => 0 | .heating => 1 | .holding => 2
def StagePhase.code : StagePhase → Nat
  | .awaitingReply => 0 | .confirming _ => 1
def CommandResult.code : CommandResult → Nat
  | .none => 0 | .acknowledged => 1 | .refused => 2 | .failed => 3
def UndockReason.code : UndockReason → Nat
  | .plugOut => 0 | .disabled => 1 | .redock => 2 | .identity => 3
def LinkReason.code : LinkReason → Nat
  | .lost => 0 | .recovered => 1 | .down => 2
def FaultsReason.code : FaultsReason → Nat
  | .changed => 0 | .unchanged => 1 | .failed => 2 | .reclassified => 3
def LampReason.code : LampReason → Nat
  | .passed => 0 | .failed => 1 | .aborted => 2 | .expired => 3 | .paused => 4 | .unconfirmed => 5
def HostLinkReason.code : HostLinkReason → Nat
  | .character => 0 | .gap => 1 | .length => 2 | .check => 3 | .overrun => 4
def endCode : Option EndCode → Nat
  | some c => c.rank
  | none => 0

/-- The reason field of a flag entry (R194). -/
def Reason.code : Reason → Nat
  | .plain => 0
  | .dock failed => if failed then 1 else 0
  | .undock w => w.code
  | .link w => w.code
  | .faults w => w.code
  | .heat st c => st.code + 256 * endCode c
  | .heatStale => 0x00FF
  | .lamp w => w.code
  | .holds held => if held then 0 else 1
  | .clearance st => st.code
  | .revoked => 11
  | .plugTimeout => 12
  | .departure id => id
  | .bay b => b.val
  | .reset restart => if restart then 1 else 0
  | .shed line => if line then 1 else 0
  | .lane l st => laneCode l + 256 * st.code
  | .laneTimeout l => laneCode l + 256 * 4
  | .gate l => laneCode l
  | .hostLink w => w.code

/-! ## Replies and their statuses -/

/-- A reply to a request of kind code `kind`: its sending begins at once, its bytes framed with their CRC-16 (R179, R180,
R190). -/
def reply (kind : Nat) (payload : List Byte) (s : State) : State :=
  let f : HostFrame := ⟨replyKind (byte kind), payload⟩
  s.modHli (fun h => { h with sending := some f, lineOut := frameBytes f })

/-- OK with its data (R180, R191, R193). -/
def okReply (kind : Nat) (data : List Byte) (s : State) : State := reply kind (byte 0 :: data) s

/-- OK, or OK_CLAMPED where a value was clamped, with the values taken (R180). -/
def takenReply (kind : Nat) (clamped : Bool) (data : List Byte) (s : State) : State :=
  reply kind (byte (if clamped then 1 else 0) :: data) s

/-- BUSY, without data (R180, R191). -/
def busyReply (kind : Nat) (s : State) : State := reply kind [byte 2] s

/-- REFUSED with its reason (R180, R191). -/
def refuse (kind : Nat) (why : RefusalReason) (s : State) : State := reply kind [byte 3, byte (reasonCode why)] s

/-! ## Items -/

/-- An optional item: presence, then the item or zeroed bytes (R202). -/
def optional {α : Type} (f : α → List Byte) (zeros : Nat) : Option α → List Byte
  | some x => byte 1 :: f x
  | none => byte 0 :: List.replicate zeros (byte 0)

/-- A list: a count, then the entries (R202). -/
def listOf {α : Type} (f : α → List Byte) (xs : List α) : List Byte := byte xs.length :: xs.flatMap f

/-- The time left on a timer in ms; 0xFFFFFFFF when stopped (R202). -/
def msLeft : Timer → List Byte
  | some n => field32 n
  | none => field32 0xFFFFFFFF

/-- The seconds left on a timer; one that stands between two whole seconds shows either, a free choice (log 22). -/
def secondsOf (n : Nat) : Nat :=
  if n % 1000 = 0 then n / 1000 else if Config.partSecond n then n / 1000 + 1 else n / 1000

/-- The time left on a timer in seconds; 0xFFFFFFFF when stopped (R202). -/
def secLeft : Timer → List Byte
  | some n => field32 (secondsOf n)
  | none => field32 0xFFFFFFFF

/-- The overdraw timer in 0.1 s, 0 when clear; between two whole tenths it shows either, a free choice (R13, R195;
log 22). -/
def tenthsOf : Option Nat → Nat
  | some n => if n % 100 = 0 then n / 100 else if Config.partTenth n then n / 100 + 1 else n / 100
  | none => 0

/-- A set of scan kinds (R193). -/
def KindSet.bits (k : KindSet) : Byte := marks [k.docking, k.change, k.departure, k.host]

/-- A waiver set (R193). -/
def Waivers.bits (w : Waivers) : Byte := marks [w.heatNotReady, w.heatFault, w.heatStale, w.lampNotPassed]

/-- The automatic reasons in the order of R153's table. -/
def AutoSet.list (a : AutoSet) : List Bool :=
  [a.outOfService, a.noDeparture, a.notDocked, a.linkLost, a.wrongCoach, a.faultData, a.faultBlocking, a.heatNotReady,
    a.heatFault, a.heatStale, a.lampNotPassed]

/-- The table marks in the order of R56. -/
def TableMarks.bits (m : TableMarks) : Byte := marks [m.truncated, m.overCapacity, m.badRecord, m.incomplete]

/-! ## The host link, flags, settings -/

/-- The mask's three bytes (R192). -/
def maskBytes (m : BitVec 20) : List Byte := field24 m.toNat

/-- A flag entry (R194). -/
def flagEntry (code : Nat) (f : Flag) : List Byte :=
  [byte (code + if f.qualifier then 128 else 0), byte f.count] ++ field16 f.reason.code

/-- The entries of the hall flags that are set, in flag-code order (R194; the order is a DESIGN CHOICE, log 19). -/
def hallEntries (s : State) : List (List Byte) :=
  (hallFlagKinds.filter (fun k => (s.hallFlag k).set)).map (fun k => flagEntry (13 + k.code.val) (s.hallFlag k))

/-- The entries of a bay's flags that are set, in flag-code order (R194; the order is a DESIGN CHOICE, log 19). -/
def bayEntries (s : State) (b : BayNo) : List (List Byte) :=
  (bayFlagKinds.filter (fun k => (s.flag b k).set)).map (fun k => flagEntry k.code.val (s.flag b k))

/-- The group of a bay (R194). -/
def bayGroup (s : State) (b : BayNo) : List Byte := byte b.val :: listOf (fun e => e) (bayEntries s b)

/-- The EVENTS_FETCH reply after its status (R183, R194). -/
def eventsData (s : State) : List Byte :=
  maskBytes s.hli.mask ++ listOf (fun e => e) (hallEntries s) ++
    listOf (bayGroup s) (allBays.filter (fun b => !(bayEntries s b).isEmpty))

/-- The SETTINGS_READ reply after its status: value, range, default (R185); the range as its lowest, then its highest value
(DESIGN CHOICE, log 19). -/
def settingData (s : State) (n : Fin 17) : List Byte :=
  let r := Config.settingRows[n]
  field32 (s.setting n) ++ field32 r.lo ++ field32 r.hi ++ field32 r.default

/-- The TIME_READ reply after its status (R14). -/
def timeData (s : State) : List Byte := field32 s.clock.time ++ [Config.clockSetCode s.clock.isSet]

/-! ## Bays and links -/

/-- The BAY_STATUS record (R195). -/
def bayStatusData (s : State) (b : BayNo) : List Byte :=
  let f := s.bfeAt b
  [byte b.val,
    marks [f.enabled, f.presence, f.plug, f.reported, f.conflict, f.contactor, f.latch, f.tripped],
    byte (tenthsOf f.overdraw), byte f.aspect.code] ++
  field16 f.shorePower ++ field16 (averageOf f.auxVolts) ++ field16 (averageOf f.auxAmps) ++
  [byte (s.clcAt b).link.code] ++ field16 (s.clcAt b).attemptErrors ++
  [byte (s.dkuAt b).state.code, byte (s.lcsAt b).status.code, byte (s.hplAt b).plan.state.code,
    byte (s.clrAt b).state.code]

/-- The last coach status (R37). -/
def coachStatusData (x : CoachStatus) : List Byte :=
  field32 x.time ++ optional signed16 2 x.cabin ++
    [byte (ignitionCode (some x.ignition)), marks [x.heaterStop, x.faultsChanged], byte x.stages]

/-- The LINK_READ reply after its status (R37). DESIGN CHOICE (log 19): the attempt-error count, which R202's table gives no
row, takes 2 bytes. -/
def linkData (s : State) (b : BayNo) : List Byte :=
  let c := s.clcAt b
  let kind := fun (r : BayRequest) => [byte r.code]
  [byte c.link.code, byte c.failures] ++ field16 c.attemptErrors ++
  optional (fun (f : InFlight) => [byte f.request.code, byte (classCode f.cls), byte f.attempt]) 3 c.inflight ++
  optional kind 1 (c.heatSlot.map .stage) ++ optional kind 1 (c.lampSlot.map (fun x => .lamp x.1 x.2)) ++
  optional kind 1 c.readSlot ++ optional kind 1 (if c.pollSlot then some .status else none) ++
  msLeft c.reprobe ++ msLeft c.poll ++ optional coachStatusData 10 c.lastStatus

/-- A lamp list entry (R46). -/
def lampEntryData (e : LampEntry) : List Byte :=
  [byte e.circuit, byte e.group.code] ++ field16 e.nominal ++ [byte e.tolerance, flagByte e.checkable]

/-- Whether a bay's descriptor chain is complete (R46). -/
def Dku.complete (d : Dku) : Bool := d.retained || d.state == .readingFaults || d.state == .docked

/-- The fault memory of a profile: present or absent, and its capacity when present (R46). Before the chain is complete
the capacity is known only from a FAULT_MEMORY descriptor taken; 0 stands for one not known (R55; log 19). -/
def Dku.memoryData (d : Dku) : List Byte :=
  match d.profile.identity with
  | some i =>
    if i.faultMemory then [byte 1, byte (if d.complete then d.profile.capacity else d.profile.faultCapacity.getD 0)]
    else [byte 0, byte 0]
  | none => [byte 0, byte 0]

/-- The PROFILE_READ reply after its status (R55). -/
def profileData (s : State) (b : BayNo) : List Byte :=
  let d := s.dkuAt b
  let p := d.profile
  [byte d.state.code] ++
  (match d.failure with | some (i, n) => [byte 1, byte i, byte n] | none => [byte 0, byte 0, byte 0]) ++
  optional (fun (i : Identity) => field16 i.fleet) 2 p.identity ++
  optional (fun (i : Identity) => [byte i.coachType]) 1 p.identity ++
  optional (fun (h : Nat × Nat) => [byte h.1] ++ field16 h.2) 3 p.heater ++
  optional (fun (c : Nat × Nat) => field16 c.1 ++ field16 c.2) 4 p.cabin ++
  listOf lampEntryData p.lamps ++ d.memoryData ++
  [marks [p.clamped, p.duplicate, p.lampsTruncated, p.unknownDescriptor, d.retained],
    byte d.matching.code, flagByte d.wrongBay, byte d.indices.length]

/-! ## Faults -/

/-- A map entry (R192). -/
def mapEntryData (e : MapEntry) : List Byte :=
  field16 e.low ++ field16 e.high ++ [byte (e.source.getD 0xFF), byte e.disposition.code, flagByte e.heatStop]

/-- A fault table entry: the record with both optional parts in place, then the fields the FRD adds (R200, R202). -/
def faultEntryData (e : FaultEntry) : List Byte :=
  field16 e.code ++ [byte e.source, flagByte e.active, byte e.occurrences] ++ field24 e.firstSeen ++ field24 e.lastSeen ++
  [marks [e.circuit.isSome, e.freeze.isSome], byte (e.circuit.getD 0)] ++
  (match e.freeze with | some (t, v) => signed16 t ++ field16 v | none => [byte 0, byte 0, byte 0, byte 0]) ++
  [byte e.readIndex, byte e.disposition.code, flagByte e.heatStop, marks [e.confirmed, e.isNew]]

/-- A pair of the unconfirmed list (R56). -/
def pairData (p : Nat × Nat) : List Byte := [byte p.1] ++ field16 p.2

/-- What FAULTS_READ carries of a scan in progress (R76). DESIGN CHOICE (log 19): its five bytes are one optional item,
so with no scan in progress one presence byte of 0 and five zero bytes stand for all of them. -/
def scanData (sc : Scan) : List Byte :=
  [sc.kinds.bits, byte sc.limit, byte sc.next, byte sc.shadow.length, marks [sc.marks.truncated, sc.restartPending]]

/-- The FAULTS_READ reply after its status (R76); the items of a scan in progress as log 19 groups them (DESIGN CHOICE). -/
def faultsData (s : State) (b : BayNo) : List Byte :=
  let f := s.frdAt b
  [flagByte f.retained] ++ listOf faultEntryData f.table.entries ++ [f.table.marks.bits] ++ field32 f.table.time ++
  [f.table.kinds.bits, byte f.scan.state.code] ++
  optional scanData 5 (if f.scan.state = .idle then none else some f.scan) ++
  [f.rescan.bits, marks [f.readSinceDocking, f.unreadSinceFailure, f.scanDone, f.linkHeldLost]] ++
  listOf pairData f.unconfirmed

/-! ## Heat -/

/-- The heat plan record (R197). -/
def planData (p : Plan) : List Byte :=
  field16 (p.departure.getD 0) ++ [marks [p.target.isSome, p.scheduled.isSome]] ++ signed16 (p.target.getD 0) ++
  field32 (p.scheduled.getD 0) ++ signed16 p.cabinUsed ++ signed16 p.ambientUsed ++ field32 p.energy ++ field32 p.loss ++
  signed32 p.netPower ++ field32 p.time ++ field16 p.lead ++ field32 p.start ++ [byte p.holdingStages] ++
  field32 p.holdingPoint ++ [marks [p.unreachable, p.short, p.late, p.noHeater, p.defaultCabin], byte p.state.code,
    (match p.prior with | some st => byte st.code | none => byte 0xFF), byte (endCode p.endCode)]

/-- The HEAT_READ reply after its status (R99, R197). -/
def heatData (s : State) (b : BayNo) : List Byte :=
  let h := s.hplAt b
  planData h.plan ++
  [marks [h.causeLink, h.causeClearing], byte (s.readiness b).code, flagByte h.staleCondition] ++
  optional (fun (x : Int × Nat) => signed16 x.1 ++ field32 x.2) 6 h.sample ++
  [marks [h.sample.isNone, h.stale]] ++ secLeft h.staleTimer ++ [flagByte h.coachStop] ++ signed16 s.ambient

/-- A grant table row in the order of R100's fields (R121). -/
def rowData (r : GrantRow) : List Byte :=
  [byte r.cls.code] ++ optional field32 4 r.rankKey ++ [byte r.planRequest, byte r.requested, byte r.granted] ++
  field16 r.power ++ [flagByte r.inFlight, byte r.failures, marks [r.quiet, r.linkHeldLost], byte r.commanded,
    byte r.lastResult.code]

/-- The confirm timer of a stage-up (R121). -/
def StagePhase.timer : StagePhase → Timer
  | .awaitingReply => none
  | .confirming n => some n

/-- The BUDGET_READ reply after its status (R121). -/
def budgetData (s : State) : List Byte :=
  let f := s.feeder
  field16 f.budget ++ field16 f.base ++ field16 s.grantedLoad ++
  [byte f.plugged, byte f.shedHost, byte f.shedLine, byte f.depth, flagByte (!f.gateOpen)] ++ msLeft f.ramp ++
  optional (fun (u : StageUp) =>
    [byte u.bay.val, byte u.count] ++ field16 u.reference ++ [byte u.phase.code] ++ msLeft u.phase.timer) 9 f.stageUp ++
  allBays.flatMap (fun b => rowData (s.rowAt b))

/-! ## Lamps -/

/-- A results table entry (R142). -/
def lampResultData (r : LampResult) : List Byte :=
  [byte r.circuit, byte r.group.code] ++ field16 r.nominal ++ [byte r.tolerance, byte r.outcome.code] ++
  optional field16 2 r.power ++ [byte r.measurements] ++ optional field32 4 r.time

/-- The place of a bay in the channel wait queue, the head being 0 (R128; log 19). -/
def placeIn (b : BayNo) : List BayNo → Option Nat
  | [] => none
  | x :: xs => if x = b then some 0 else (placeIn b xs).map (fun n => n + 1)

/-- The LAMP_READ reply after its status (R142): the channel and the place in the queue are two optional items, in this
order (DESIGN CHOICE, log 19). -/
def lampData (s : State) (b : BayNo) : List Byte :=
  let l := s.lcsAt b
  let one := fun (n : Nat) => [byte n]
  [byte l.status.code, marks [l.reasons.step, l.reasons.ignition, l.reasons.link], byte l.mode.code, byte l.passes,
    byte l.pass, byte l.index, byte l.tries, byte l.phase.code] ++
  optional (fun (c : Fin 4) => [byte c.val]) 1 l.channel ++ optional one 1 (placeIn b s.channelQueue) ++
  optional one 1 l.owed ++ [byte (ignitionCode l.ignition), flagByte l.linkHeldLost] ++ secLeft l.validity ++
  [flagByte l.retained] ++ listOf lampResultData l.results ++
  [flagByte (!(s.frdAt b).unconfirmed.isEmpty)] ++ listOf pairData (s.frdAt b).unconfirmed ++
  s.channels.toList.flatMap (optional (fun (x : BayNo) => [byte x.val]) 1) ++
  listOf (fun (x : BayNo) => [byte x.val]) s.channelQueue

/-! ## Departures, holds, lanes -/

/-- The departure record (R196). -/
def departureData (s : State) (d : Departure) : List Byte :=
  field16 d.id ++
  [byte d.bay.val,
    marks [d.target.isSome, d.fleet.isSome, d.lampCheck, d.lateReported, (s.dpmAt d.bay).active == some d.id]] ++
  field32 d.time ++ signed16 (d.target.getD 0) ++ field16 (d.fleet.getD 0) ++
  [byte d.lane.code, byte d.lead, d.waivers.bits]

/-- The DEPARTURE_LIST reply after its status (R149, R196). -/
def departureListData (s : State) (start : Nat) : List Byte :=
  let rest := (s.departures.drop start).take Config.listReplySize
  [byte s.departures.length, byte rest.length] ++ rest.flatMap (departureData s)

/-- The automatic reasons as two bytes, bit 0 the first of R153's table (log 20). -/
def autoBytes (a : AutoSet) : List Byte := field16 (markBits a.list)

/-- The reasons of a set that another lacks. -/
def AutoSet.minus (a w : AutoSet) : List Bool := (a.list.zip w.list).map (fun p => p.1 && !p.2)

/-- An effective set as three bytes: the automatic reasons in bits 0 to 10, the operator reasons in bits 11 to 18
(log 20). -/
def holdBytes (h : HoldSet) : List Byte := field24 (markBits h.auto.list + 2048 * h.operator.toNat)

/-- A hold set with its stack: the set, the depth, the saved sets from top to bottom (R160). -/
def HoldStack.data (h : HoldStack) : List Byte := h.set :: listOf (fun x => [x]) h.saved

/-- The HOLDS_READ reply after its status (R160): the waived reasons are a second two-byte set right after the derived one
(DESIGN CHOICE, logs 19 and 20). DESIGN CHOICE (log 19): the frozen mark and the frozen set are one optional item, whose
presence byte is the mark. -/
def holdsData (s : State) (b : BayNo) : List Byte :=
  let d := s.dpmAt b
  let a := autoSet d.conditions d.reliance
  holdBytes (s.effective b) ++ autoBytes a ++ field16 (markBits (a.minus (a.waive d.conditions.waivers))) ++
  optional autoBytes 2 (if d.frozen then some d.frozenSet else none) ++ [flagByte d.reliance] ++
  optional field16 2 d.active ++ d.operator.data ++ s.hallHold.data

/-- A lane record (R177). -/
def laneData (r : LaneRecord) : List Byte :=
  [byte r.state.code] ++ optional (fun (b : BayNo) => [byte b.val]) 1 r.holder ++ [flagByte r.closePending] ++
  secLeft r.timer

/-- An entry of the wait order (R177). -/
def waitData (s : State) (b : BayNo) : List Byte :=
  match s.activeOf b with
  | some d => [byte b.val] ++ field32 d.time ++ [byte d.lane.code]
  | none => [byte b.val] ++ field32 0 ++ [byte 0]

/-- A bay's clearance timing (R177). DESIGN CHOICE (log 19): the window point, which a bay without an active departure
does not have (log 7), is an optional item. DESIGN CHOICE (log 19): whether the open request stands, an item of its own in
R177's list, is the last byte of each bay's group, not a list after all sixteen groups. -/
def clearanceData (c : Clr) : List Byte :=
  [byte c.state.code] ++ optional field32 4 c.windowPoint ++ [flagByte c.windowOpen] ++ secLeft c.plugTimer ++
  secLeft c.openWait ++ [flagByte c.openRequest]

/-- The LANES_READ reply after its status (R177). -/
def lanesData (s : State) : List Byte :=
  laneData s.laneA ++ laneData s.laneB ++ listOf (waitData s) s.waitOrder ++
    allBays.flatMap (fun b => clearanceData (s.clrAt b))

end Sys2Proof.Machine
end

