-- ==== Sys2Proof/Machine/Resets.lean ====
section
/-! DEFINITION. The two resets: RESTART (R33, R77, R110, R120, R141, R143, R176, R189) and power-on (R188). -/

namespace Sys2Proof.Machine

/-- Something done to every bay in bay order. -/
def forBays (f : BayNo → State → State) (s : State) : State := allBays.foldl (fun t b => f b t) s

/-! ## RESTART, step by step -/

/-- Step 1: a session discard and STAGE 0 on a link that is not DOWN (R33, R120). -/
def restartLink (b : BayNo) (s : State) : State :=
  if (s.clcAt b).link = .down then s
  else (submitStage b 0 (s.modClc b Clc.discard)).modRow b (fun r => { r with lastResult := .none })

/-- Step 2 for one bay: its lamp, fault and heat sessions and its grant row emptied (R77, R78, R120, R141). -/
def restartSession (b : BayNo) (s : State) : State :=
  (((s.modLcs b (fun _ => .reset)).modFrd b (fun _ => .reset)).modHpl b (fun _ => .reset)).modRow b
    (fun r => { r.emptied with quiet := false, inFlight := false })

/-- Step 2 for the hall: channels free, queue empty, the stage-up discarded, the gate OPEN unless the ramp timer runs, the
budget recomputed from what is kept (R110, R120). -/
def restartHall (s : State) : State :=
  let base := s.baseBudget s.feeder.plugged
  ({ s with channels := Vector.replicate 4 none, channelQueue := [] } : State).modFeeder (fun f => { f with
    stageUp := none, gateOpen := f.ramp.isNone, base := base, budget := s.heatBudget base })

/-- Step 3: the profile discarded, the bay UNDOCKED, trip and overdraw timer cleared, contactor and latch open (R38,
R189). -/
def restartField (b : BayNo) (s : State) : State :=
  (s.modDku b (fun _ => .reset)).modBfe b (fun f =>
    { f with tripped := false, overdraw := none, contactor := false, latch := false })

/-- Step 4: the wait order keeps its RECALLED bays (R176; log 17). -/
def restartOrder (s : State) : State :=
  { s with waitOrder := s.waitOrder.filter (fun b => (s.clrAt b).state == .recalled) }

/-- Step 4 for a CLEARING bay: timers stopped, open request withdrawn, lane released (R176). -/
def restartClearing (b : BayNo) (s : State) : State :=
  if (s.clrAt b).state = .clearing then
    perform (laneReleaseOf b (s.modClr b (fun c => { c with plugTimer := none, openWait := none, openRequest := false })))
  else s

/-- Whether a bay is CLEARED or RECALLED. -/
def ClearState.isOut : ClearState → Bool
  | .cleared | .recalled => true
  | .outOfService | .empty | .arrived | .docking | .preparing | .ready | .scanning | .queued | .clearing => false

/-- Step 4 for a bay's clearance state and window mark: CLEARED and RECALLED bays keep their state, every other one is set
from its enable state and its sensors (R176). -/
def restartClearance (b : BayNo) (s : State) : State :=
  let p := (s.activeOf b).map Departure.windowPoint
  let s1 := s.modClr b (fun c => { c with windowPoint := p, windowOpen := windowOpenAt p s.clock.time, revoking := false })
  if (s.clrAt b).state.isOut then s1
  else s1.setClear b (if (s.bfeAt b).enabled then (s.bfeAt b).clearState else .outOfService)

/-- Step 5: docking starts on an enabled, plugged bay (R39). -/
def restartDocking (b : BayNo) (s : State) : State :=
  if (s.bfeAt b).enabled && (s.bfeAt b).plug then
    (dkuSubmit b .ident ((s.modDku b (fun _ => { Dku.reset with state := .probing })).modClc b
      (fun c => { c with attemptErrors := 0 }))).1
  else s

/-- Step 6, a bay's condition flags raised again (R34, R2). -/
def restartFlags (b : BayNo) (s : State) : State :=
  let s1 := if (s.bfeAt b).conflict then raiseFlag s b .sensor .plain false else s
  if (s.clcAt b).link = .lost then raiseFlag s1 b .link (.link .lost) false else s1

/-- Step 6: every flag cleared, then RESET with kind RESTART, CLOCK_UNSET, SENSOR and LINK raised where they hold. -/
def restartAllFlags (s : State) : State :=
  let s1 := { s with
    flags := Vector.replicate 16 (Vector.replicate 13 .clear), hallFlags := Vector.replicate 7 .clear }
  let s2 := raiseHallFlag s1 .reset (.reset true)
  forBays restartFlags (if s2.clock.isSet then s2 else raiseHallFlag s2 .clockUnset .plain)

/-- The owner conditions of a bay as every block reports them anew (R143, R153). -/
def State.conditionsNow (s : State) (b : BayNo) : Conditions :=
  let f := s.frdAt b
  let d := s.activeOf b
  { enabled := (s.bfeAt b).enabled
    docked := (s.dkuAt b).state == .docked
    linkLost := (s.clcAt b).link == .lost
    mismatch := (s.dkuAt b).matching == .mismatched
    readSinceDocking := f.readSinceDocking
    unreadSinceFailure := f.unreadSinceFailure
    scanDone := f.scanDone
    blocking := f.table.blocking
    readiness := s.readiness b
    stale := (s.hplAt b).staleCondition
    lampPassed := (s.lcsAt b).status == .passed
    noDeparture := d.isNone
    lampRequired := match d with | some d => d.lampCheck | none => false
    waivers := match d with | some d => d.waivers | none => .none }

/-- Step 7 for a bay: its conditions reported anew, the freeze kept only in CLEARED and RECALLED, the effective set
derived anew (R143, R156). -/
def restartHolds (b : BayNo) (s : State) : State :=
  let c := s.conditionsNow b
  let out := (s.clrAt b).state.isOut
  perform (rederive b (s.modDpm b (fun d => { d with
    conditions := c, reliance := false, frozen := d.frozen && out, frozenSet := if out then d.frozenSet else .none })))

/-- The restart up to step 4. -/
def restartBlocks (s : State) : State :=
  let s1 := forBays restartField (restartHall (forBays restartSession (forBays restartLink s)))
  forBays restartClearance (forBays restartClearing (restartOrder s1))

/-- The eight steps of RESTART (R189). -/
def restarted (s : State) : State :=
  (forBays restartHolds (restartAllFlags (forBays restartDocking (restartBlocks s)))).reattend

/-- RESTART (R189). -/
def reqRestart (s : State) : State := okReply 0x02 [] (restarted s)

def execRestart (s : State) : Host.Outcome State Fault Refusal := .next (reqRestart s)

/-! ## Power-on -/

/-- A bay's field unit at power-on with the raw levels it stands at: a debounce timer runs where the level is not the
resting one (R1; log 8). -/
def Bfe.poweredOn (f : Bfe) : Bfe :=
  { Bfe.reset with
    rawPresence := f.rawPresence
    rawPlug := f.rawPlug
    presenceTimer := if f.rawPresence then msTimer Config.presenceDebounce else none
    plugTimer := if f.rawPlug then msTimer Config.plugDebounce else none }

/-- The hall-wide inputs at power-on (R4; log 8). -/
def HallInputs.poweredOn (i : HallInputs) : HallInputs :=
  { rawShed := i.rawShed
    shed := false
    shedTimer := if i.rawShed then msTimer Config.shedDebounce else none
    gateA := i.gateA.map (fun _ => 0)
    gateB := i.gateB.map (fun _ => 0) }

/-- Supply is applied: every block takes its power-on state, the field stands as it stands (R188). The commands waiting
still wait. -/
def poweredOn (s : State) : State :=
  forBays (fun b t => t.modBfe b (fun _ => (s.bfeAt b).poweredOn))
    { State.reset with hallInputs := s.hallInputs.poweredOn, pending := s.pending }

def execPowerOn (s : State) : Host.Outcome State Fault Refusal := .next (poweredOn s)

end Sys2Proof.Machine
end

