-- ==== Sys2Proof/Machine/Events.lean ====
section
/-! DEFINITION. The rows that are events of the field, the coach links and the timers: each is its block's own action,
carried through with all it leads to. A timer row stands for the timer's running out (log 3); an event the state rules out
changes nothing (log 4). -/

namespace Sys2Proof.Machine

/-! ## Field events (R1 to R12) -/

def evRawInputChange (input : FieldInput) (level : Bool) (s : State) : State := perform (rawChange input level s)
def execRawInputChange (input : FieldInput) (level : Bool) (s : State) : Host.Outcome State Fault Refusal :=
  .next (evRawInputChange input level s)

def evPresenceChange (b : BayNo) (s : State) : State := perform (presenceChange b s)
def execPresenceChange (b : BayNo) (s : State) : Host.Outcome State Fault Refusal := .next (evPresenceChange b s)

def evPlugChange (b : BayNo) (s : State) : State := perform (plugChange b s)
def execPlugChange (b : BayNo) (s : State) : Host.Outcome State Fault Refusal := .next (evPlugChange b s)

def evShedLineChange (s : State) : State := perform (shedLineChange s)
def execShedLineChange (s : State) : Host.Outcome State Fault Refusal := .next (evShedLineChange s)

def evGatePassage (l : Lane) (s : State) : State := perform (gatePassage l s)
def execGatePassage (l : Lane) (s : State) : Host.Outcome State Fault Refusal := .next (evGatePassage l s)

def evMeterSample (b : BayNo) (shore volts amps : Int) (s : State) : State := perform (meterSample b shore volts amps s)
def execMeterSample (b : BayNo) (shore volts amps : Int) (s : State) : Host.Outcome State Fault Refusal :=
  .next (evMeterSample b shore volts amps s)

def evOverdrawTrip (b : BayNo) (s : State) : State := perform (overdrawTrip b s)
def execOverdrawTrip (b : BayNo) (s : State) : Host.Outcome State Fault Refusal := .next (evOverdrawTrip b s)

/-! ## Clearance timers (R168, R170, R174) -/

def evOpenWaitTimer (b : BayNo) (s : State) : State := perform (clrOpenWaitExpired b s)
def execOpenWaitTimer (b : BayNo) (s : State) : Host.Outcome State Fault Refusal := .next (evOpenWaitTimer b s)

def evPlugTimer (b : BayNo) (s : State) : State := perform (clrPlugExpired b s)
def execPlugTimer (b : BayNo) (s : State) : Host.Outcome State Fault Refusal := .next (evPlugTimer b s)

def evLaneTimer (l : Lane) (s : State) : State := perform (laneExpired l s)
def execLaneTimer (l : Lane) (s : State) : Host.Outcome State Fault Refusal := .next (evLaneTimer l s)

/-! ## Coach links (R17 to R35) -/

def evLineQuietSend (b : BayNo) (s : State) : State := perform (clcSend b s)
def execLineQuietSend (b : BayNo) (s : State) : Host.Outcome State Fault Refusal := .next (evLineQuietSend b s)

def evRequestSent (b : BayNo) (s : State) : State := perform (clcSent b s)
def execRequestSent (b : BayNo) (s : State) : Host.Outcome State Fault Refusal := .next (evRequestSent b s)

def evReplyStart (b : ReplyStart) (s : State) : State := perform (clcReplyStart b.bay b.start s)
def execReplyStart (b : ReplyStart) (s : State) : Host.Outcome State Fault Refusal := .next (evReplyStart b s)

def evReplyFrame (b : ReplyStart) (kind : Byte) (payload : List Byte) (check : Byte) (s : State) : State :=
  perform (clcReply b.bay b.start kind payload check s)
def execReplyFrame (b : ReplyStart) (kind : Byte) (payload : List Byte) (check : Byte) (s : State) :
    Host.Outcome State Fault Refusal :=
  .next (evReplyFrame b kind payload check s)

def evReplyCharacterError (b : BayNo) (s : State) : State := perform (clcFailure b AttemptPhase.open (clcHeard b s))
def execReplyCharacterError (b : BayNo) (s : State) : Host.Outcome State Fault Refusal :=
  .next (evReplyCharacterError b s)

def evNoReply (b : BayNo) (s : State) : State := perform (clcFailure b AttemptPhase.isWaiting s)
def execNoReply (b : BayNo) (s : State) : Host.Outcome State Fault Refusal := .next (evNoReply b s)

def evReplyGap (b : BayNo) (s : State) : State := perform (clcFailure b AttemptPhase.isReceiving s)
def execReplyGap (b : BayNo) (s : State) : Host.Outcome State Fault Refusal := .next (evReplyGap b s)

def evReprobeTimer (b : BayNo) (s : State) : State := perform (clcReprobe b s)
def execReprobeTimer (b : BayNo) (s : State) : Host.Outcome State Fault Refusal := .next (evReprobeTimer b s)

def evPollTimer (b : BayNo) (s : State) : State := perform (clcPoll b s)
def execPollTimer (b : BayNo) (s : State) : Host.Outcome State Fault Refusal := .next (evPollTimer b s)

/-! ## Heat, feeder, lamps (R94, R110, R116, R130, R131, R140) -/

def evStaleTimer (b : BayNo) (s : State) : State := perform (hplStale b s)
def execStaleTimer (b : BayNo) (s : State) : Host.Outcome State Fault Refusal := .next (evStaleTimer b s)

def evRampTimer (s : State) : State := perform (falRampExpired s)
def execRampTimer (s : State) : Host.Outcome State Fault Refusal := .next (evRampTimer s)

def evConfirmTimer (s : State) : State := perform (falConfirmExpired s)
def execConfirmTimer (s : State) : Host.Outcome State Fault Refusal := .next (evConfirmTimer s)

def evBaselineComplete (b : BayNo) (amps : FourSamples) (s : State) : State := perform (lcsBaseline b amps s)
def execBaselineComplete (b : BayNo) (amps : FourSamples) (s : State) : Host.Outcome State Fault Refusal :=
  .next (evBaselineComplete b amps s)

def evSettleTimer (b : BayNo) (s : State) : State := perform (lcsSettled b s)
def execSettleTimer (b : BayNo) (s : State) : Host.Outcome State Fault Refusal := .next (evSettleTimer b s)

def evLitComplete (b : BayNo) (amps volts : FourSamples) (s : State) : State := perform (lcsLit b amps volts s)
def execLitComplete (b : BayNo) (amps volts : FourSamples) (s : State) : Host.Outcome State Fault Refusal :=
  .next (evLitComplete b amps volts s)

def evValidityTimer (b : BayNo) (s : State) : State := perform (lcsExpired b s)
def execValidityTimer (b : BayNo) (s : State) : Host.Outcome State Fault Refusal := .next (evValidityTimer b s)

end Sys2Proof.Machine
end

