-- ==== Sys2Proof/Machine/BayRequests.lean ====
section
/-! DEFINITION. The requests on a bay's service, link and docking (R5, R6, R13, R37, R54, R55). -/

namespace Sys2Proof.Machine

/-! ## BAY_ENABLE -/

/-- What enabling a bay hands on: the DPM and the CLR, the plug-in where the bay is plugged, the budget (R5). -/
def enableNotices (b : BayNo) (plugged : Bool) : List Notice :=
  [.contactor b, .tellService b, .clrFromSensors b] ++ (if plugged then [.clcUp b, .dkuStart b] else []) ++ [.falRecompute]

/-- BAY_ENABLE (R5). -/
def reqBayEnable (bay : Byte) (s : State) : State :=
  match bayOf bay with
  | none => refuse 0x10 .range s
  | some b =>
    if (s.bfeAt b).enabled then okReply 0x10 [] s
    else
      okReply 0x10 [] (perform (s.modBfe b (fun f => { f with enabled := true }), enableNotices b (s.bfeAt b).plug))

def execBayEnable (bay : Byte) (s : State) : Host.Outcome State Fault Refusal := .next (reqBayEnable bay s)

/-! ## BAY_DISABLE -/

/-- What disabling a bay hands on, in the order of R6 (log 31). A retained session is discarded in place of an undocking
(R53). -/
def disableNotices (b : BayNo) (retained : Bool) : List Notice :=
  [.contactor b, .tellService b, .lcsAbandonRun b, .clcDown b, if retained then .dkuDiscard b else .dkuUndock b .disabled,
    .hplEnd b .hostCancel, .hplForget b, .falEmpty b, .falRecompute, .clrDisable b]

/-- BAY_DISABLE (R6). -/
def reqBayDisable (bay : Byte) (s : State) : State :=
  match bayOf bay with
  | none => refuse 0x11 .range s
  | some b =>
    if (s.bfeAt b).enabled = false then okReply 0x11 [] s
    else if s.holdsLane b then refuse 0x11 .state s
    else
      okReply 0x11 [] (perform (s.modBfe b (fun f => { f with enabled := false, tripped := false, overdraw := none }),
        disableNotices b (s.dkuAt b).retained))

def execBayDisable (bay : Byte) (s : State) : Host.Outcome State Fault Refusal := .next (reqBayDisable bay s)

/-! ## Reads -/

/-- BAY_STATUS (R13, R195). -/
def reqBayStatus (bay : Byte) (s : State) : State :=
  match bayOf bay with
  | none => refuse 0x12 .range s
  | some b => okReply 0x12 (bayStatusData s b) s

def execBayStatus (bay : Byte) (s : State) : Host.Outcome State Fault Refusal := .next (reqBayStatus bay s)

/-- LINK_READ (R37). -/
def reqLinkRead (bay : Byte) (s : State) : State :=
  match bayOf bay with
  | none => refuse 0x13 .range s
  | some b => okReply 0x13 (linkData s b) s

def execLinkRead (bay : Byte) (s : State) : Host.Outcome State Fault Refusal := .next (reqLinkRead bay s)

/-- PROFILE_READ (R55). -/
def reqProfileRead (bay : Byte) (s : State) : State :=
  match bayOf bay with
  | none => refuse 0x15 .range s
  | some b => okReply 0x15 (profileData s b) s

def execProfileRead (bay : Byte) (s : State) : Host.Outcome State Fault Refusal := .next (reqProfileRead bay s)

/-! ## REDOCK -/

/-- What a REDOCK does, in the order of R54. -/
def redockNotices (b : BayNo) : List Notice := [.clcDiscard b, .dkuUndock b .redock, .clearTrip b, .dkuStart b]

/-- REDOCK (R54). -/
def reqRedock (bay : Byte) (s : State) : State :=
  match bayOf bay with
  | none => refuse 0x14 .range s
  | some b =>
    if (s.bfeAt b).enabled = false then refuse 0x14 .notEnabled s
    else if (s.bfeAt b).plug = false then refuse 0x14 .state s
    else if (s.clrAt b).state = .clearing then refuse 0x14 .state s
    else okReply 0x14 [] (perform (s, redockNotices b))

def execRedock (bay : Byte) (s : State) : Host.Outcome State Fault Refusal := .next (reqRedock bay s)

end Sys2Proof.Machine
end

