-- ==== Sys2Proof/Machine/DepartureRequests.lean ====
section
/-! DEFINITION. The requests on the departure list (R144 to R149). -/

namespace Sys2Proof.Machine

/-! ## DEPARTURE_ADD -/

/-- A record from an id, a bay, the fields taken and a waiver set; its late-reported mark is clear (R144). -/
def DepartureFields.record (f : DepartureFields) (id : Nat) (b : BayNo) (w : Waivers) : Departure :=
  ⟨id, b, f.time, f.target, f.fleet, f.lampCheck, f.lane, f.lead, w, false⟩

/-- The record as taken, which an OK_CLAMPED reply carries (R144; log 27). -/
def clampedRecord (clamped : Bool) (id : Nat) (s : State) : List Byte :=
  if clamped then (match s.departureOf id with | some d => departureData s d | none => []) else []

/-- A DEPARTURE_ADD whose fields are in range: the checks from the clock on, then the insertion (R146). -/
def addDeparture (id : Nat) (b : BayNo) (f : DepartureFields) (w : Waivers) (s : State) : State :=
  if s.clock.isSet = false then refuse 0x50 .state s
  else if (s.departureOf id).isSome then refuse 0x50 .duplicate s
  else if Config.listSize ≤ s.departures.length then refuse 0x50 .full s
  else if s.aheadOfPinned b f.time then refuse 0x50 .state s
  else
    let t := perform ({ s with departures := insertDeparture (f.record id b w) s.departures },
      [.workOut b, .lateCheck (some id)] ++ wrongBayPass)
    takenReply 0x50 f.clamped (clampedRecord f.clamped id t) t

/-- DEPARTURE_ADD (R144, R146). -/
def reqDepartureAdd (id : Word16) (bay : Byte) (fields : DepartureWords) (waivers : Byte) (s : State) : State :=
  match bayOf bay, departureFieldsOf fields, waiversOf waivers with
  | some b, some f, some w => if id.toNat = 0 then refuse 0x50 .range s else addDeparture id.toNat b f w s
  | _, _, _ => refuse 0x50 .range s

def execDepartureAdd (id : Word16) (bay : Byte) (fields : DepartureWords) (waivers : Byte) (s : State) :
    Host.Outcome State Fault Refusal :=
  .next (reqDepartureAdd id bay fields waivers s)

/-! ## DEPARTURE_AMEND -/

/-- A record with amended fields (R147). -/
def Departure.amend (d : Departure) (f : DepartureFields) : Departure :=
  { d with time := f.time, target := f.target, fleet := f.fleet, lampCheck := f.lampCheck, lane := f.lane, lead := f.lead }

/-- The record takes the new values; a changed time moves it to its new place and clears its late-reported mark (R147,
steps 1 and 2). -/
def State.replaceDeparture (s : State) (d : Departure) (f : DepartureFields) : State :=
  { s with departures :=
      if d.time = f.time then modDeparture d.id (fun x => x.amend f) s.departures
      else insertDeparture { d.amend f with lateReported := false } (removeDeparture d.id s.departures) }

/-- What an amendment hands on after the record has its values: the late check of a new time, then a change of the active
departure or the amendment of the one that stays active (R147, R150). -/
def amendNotices (d : Departure) (f : DepartureFields) (t : State) : List Notice :=
  (if d.time = f.time then [] else [.lateCheck (some d.id)]) ++
  (if t.earliest d.bay ≠ (t.dpmAt d.bay).active then [.workOut d.bay]
    else if t.earliest d.bay = some d.id then
      [.amended d.bay (d.fleet != f.fleet) (d.target != f.target || d.time != f.time)
        (d.time != f.time || d.lead != f.lead || d.lane != f.lane)]
    else []) ++
  wrongBayPass

/-- A DEPARTURE_AMEND of a record that may take the new values (R147). -/
def amendDeparture (d : Departure) (f : DepartureFields) (s : State) : State :=
  let t := s.replaceDeparture d f
  let u := if d.amend f = d then s else perform (t, amendNotices d f t)
  takenReply 0x51 f.clamped (clampedRecord f.clamped d.id u) u

/-- Whether a record is the pinned active departure of its bay (R145). -/
def State.isPinned (s : State) (d : Departure) : Bool :=
  (s.clrAt d.bay).state.pins && (s.dpmAt d.bay).active == some d.id

/-- DEPARTURE_AMEND (R147). -/
def reqDepartureAmend (id : Word16) (fields : DepartureWords) (s : State) : State :=
  match departureFieldsOf fields with
  | none => refuse 0x51 .range s
  | some f =>
    if id.toNat = 0 then refuse 0x51 .range s
    else
      match s.departureOf id.toNat with
      | none => refuse 0x51 .notFound s
      | some d =>
        if s.isPinned d || s.aheadOfPinned d.bay f.time then refuse 0x51 .state s else amendDeparture d f s

def execDepartureAmend (id : Word16) (fields : DepartureWords) (s : State) : Host.Outcome State Fault Refusal :=
  .next (reqDepartureAmend id fields s)

/-! ## DEPARTURE_CANCEL -/

/-- What a cancellation hands on (R148). -/
def cancelNotices (b : BayNo) (active : Bool) : List Notice :=
  (if active then [.hplEnd b .hostCancel, .workOut b] else []) ++ wrongBayPass

/-- DEPARTURE_CANCEL (R148). -/
def reqDepartureCancel (id : Word16) (s : State) : State :=
  if id.toNat = 0 then refuse 0x52 .range s
  else
    match s.departureOf id.toNat with
    | none => refuse 0x52 .notFound s
    | some d =>
      if s.isPinned d then refuse 0x52 .state s
      else
        okReply 0x52 [] (perform ({ s with departures := removeDeparture d.id s.departures },
          cancelNotices d.bay ((s.dpmAt d.bay).active == some d.id)))

def execDepartureCancel (id : Word16) (s : State) : Host.Outcome State Fault Refusal := .next (reqDepartureCancel id s)

/-! ## DEPARTURE_WAIVE -/

/-- DEPARTURE_WAIVE (R149). -/
def reqDepartureWaive (id : Word16) (waivers : Byte) (s : State) : State :=
  match waiversOf waivers with
  | none => refuse 0x53 .range s
  | some w =>
    if id.toNat = 0 then refuse 0x53 .range s
    else
      match s.departureOf id.toNat with
      | none => refuse 0x53 .notFound s
      | some d =>
        okReply 0x53 [] (perform
          ({ s with departures := modDeparture d.id (fun x => { x with waivers := w }) s.departures },
            if (s.dpmAt d.bay).active = some d.id then [.ownConditions d.bay] else []))

def execDepartureWaive (id : Word16) (waivers : Byte) (s : State) : Host.Outcome State Fault Refusal :=
  .next (reqDepartureWaive id waivers s)

/-! ## Reads -/

/-- DEPARTURE_READ (R149, R196). -/
def reqDepartureRead (id : Word16) (s : State) : State :=
  match s.departureOf id.toNat with
  | none => refuse 0x54 .notFound s
  | some d => okReply 0x54 (departureData s d) s

def execDepartureRead (id : Word16) (s : State) : Host.Outcome State Fault Refusal := .next (reqDepartureRead id s)

/-- DEPARTURE_LIST (R149, R196). -/
def reqDepartureList (start : Byte) (s : State) : State :=
  if s.departures.length < start.toNat then refuse 0x55 .range s
  else okReply 0x55 (departureListData s start.toNat) s

def execDepartureList (start : Byte) (s : State) : Host.Outcome State Fault Refusal := .next (reqDepartureList start s)

end Sys2Proof.Machine
end

