-- ==== Sys2Proof/Machine/FaultRequests.lean ====
section
/-! DEFINITION. The requests on the Fault Class Map and on a bay's fault memory (R58, R61, R76). -/

namespace Sys2Proof.Machine

/-! ## The map -/

/-- A map change: the map takes its new form, then tables and scans are reclassified (R58, R59, R70). -/
def changeMap (m : List MapEntry) (s : State) : State := perform ({ s with map := m }, mapChangeNotices)

/-- MAP_CLEAR (R58). -/
def reqMapClear (s : State) : State := if s.map = [] then okReply 0x20 [] s else okReply 0x20 [] (changeMap [] s)

def execMapClear (s : State) : Host.Outcome State Fault Refusal := .next (reqMapClear s)

/-- MAP_APPEND (R58). -/
def reqMapAppend (entry : MapWords) (s : State) : State :=
  match mapEntryOf entry with
  | none => refuse 0x21 .range s
  | some e =>
    if Config.mapSize ≤ s.map.length then refuse 0x21 .full s else okReply 0x21 [] (changeMap (s.map ++ [e]) s)

def execMapAppend (entry : MapWords) (s : State) : Host.Outcome State Fault Refusal := .next (reqMapAppend entry s)

/-- MAP_INSERT (R58). -/
def reqMapInsert (position : Byte) (entry : MapWords) (s : State) : State :=
  match mapEntryOf entry with
  | none => refuse 0x22 .range s
  | some e =>
    if Config.mapSize ≤ s.map.length then refuse 0x22 .full s
    else if s.map.length < position.toNat then refuse 0x22 .range s
    else okReply 0x22 [] (changeMap (s.map.take position.toNat ++ e :: s.map.drop position.toNat) s)

def execMapInsert (position : Byte) (entry : MapWords) (s : State) : Host.Outcome State Fault Refusal :=
  .next (reqMapInsert position entry s)

/-- MAP_READ (R58). -/
def reqMapRead (s : State) : State := okReply 0x23 (listOf mapEntryData s.map) s

def execMapRead (s : State) : Host.Outcome State Fault Refusal := .next (reqMapRead s)

/-! ## A bay's faults -/

/-- FAULT_SCAN (R61). -/
def reqFaultScan (bay : Byte) (s : State) : State :=
  match bayOf bay with
  | none => refuse 0x24 .range s
  | some b =>
    if (s.bfeAt b).enabled = false then refuse 0x24 .notEnabled s
    else if (s.dkuAt b).state ≠ .docked then refuse 0x24 .state s
    else okReply 0x24 [] (perform (s, [.frdRequest b .host]))

def execFaultScan (bay : Byte) (s : State) : Host.Outcome State Fault Refusal := .next (reqFaultScan bay s)

/-- FAULTS_READ (R76). -/
def reqFaultsRead (bay : Byte) (s : State) : State :=
  match bayOf bay with
  | none => refuse 0x25 .range s
  | some b => okReply 0x25 (faultsData s b) s

def execFaultsRead (bay : Byte) (s : State) : Host.Outcome State Fault Refusal := .next (reqFaultsRead bay s)

end Sys2Proof.Machine
end

