-- ==== Sys2Proof/Machine/HeatRequests.lean ====
section
/-! DEFINITION. The requests on the ambient, the heat plans, the shed depth and the budget (R79, R99, R103, R121). -/

namespace Sys2Proof.Machine

/-- The ambient a value is taken as (R79). -/
def ambientTaken (temperature : Word16) : Int := clampInt (-400) 400 temperature.toInt

/-- AMBIENT_SET (R79). -/
def reqAmbientSet (temperature : Word16) (s : State) : State :=
  let t := ambientTaken temperature
  takenReply 0x30 (t != temperature.toInt) (signed16 t) (perform ({ s with ambient := t }, allBays.map .hplRecompute))

def execAmbientSet (temperature : Word16) (s : State) : Host.Outcome State Fault Refusal :=
  .next (reqAmbientSet temperature s)

/-- HEAT_READ (R99, R197). -/
def reqHeatRead (bay : Byte) (s : State) : State :=
  match bayOf bay with
  | none => refuse 0x31 .range s
  | some b => okReply 0x31 (heatData s b) s

def execHeatRead (bay : Byte) (s : State) : Host.Outcome State Fault Refusal := .next (reqHeatRead bay s)

/-- The reply data of the two shed requests: host part, line part, total (R103). -/
def shedData (s : State) : List Byte := [byte s.feeder.shedHost, byte s.feeder.shedLine, byte s.feeder.depth]

/-- A change of the host part: SHED is raised, the budget is recomputed (R103, R104). -/
def changeShedHost (n : Nat) (s : State) : State :=
  perform (s.modFeeder (fun f => { f with shedHost := n }), [.raiseHall .shed (.shed false), .falRecompute])

/-- SHED_ENTER (R103). -/
def reqShedEnter (s : State) : State :=
  if Config.maxShedHost ≤ s.feeder.shedHost then refuse 0x32 .full s
  else
    let t := changeShedHost (s.feeder.shedHost + 1) s
    okReply 0x32 (shedData t) t

def execShedEnter (s : State) : Host.Outcome State Fault Refusal := .next (reqShedEnter s)

/-- SHED_LEAVE (R103). -/
def reqShedLeave (s : State) : State :=
  if s.feeder.shedHost = 0 then refuse 0x33 .empty s
  else
    let t := changeShedHost (s.feeder.shedHost - 1) s
    okReply 0x33 (shedData t) t

def execShedLeave (s : State) : Host.Outcome State Fault Refusal := .next (reqShedLeave s)

/-- BUDGET_READ (R121). -/
def reqBudgetRead (s : State) : State := okReply 0x34 (budgetData s) s

def execBudgetRead (s : State) : Host.Outcome State Fault Refusal := .next (reqBudgetRead s)

end Sys2Proof.Machine
end

