-- ==== Sys2Proof/Machine/HoldRequests.lean ====
section
/-! DEFINITION. The requests on holds and lanes (R157, R158, R160, R175, R177). -/

namespace Sys2Proof.Machine

/-! ## Bay holds -/

/-- A hold set and the stack depth, which the replies of the four hold requests carry (R157). -/
def depthData (h : HoldStack) : List Byte := [h.set, byte h.saved.length]

/-- A bay's operator set and stack replaced, the effective set re-derived (R157, R159). -/
def changeHold (b : BayNo) (h : HoldStack) (s : State) : State :=
  perform (s.modDpm b (fun d => { d with operator := h }), [.rederive b])

/-- HOLD_PUSH (R157). Every set byte names only the eight reasons. -/
def reqHoldPush (bay reasons : Byte) (s : State) : State :=
  match bayOf bay with
  | none => refuse 0x60 .range s
  | some b =>
    if Config.stackSize ≤ (s.dpmAt b).operator.saved.length then refuse 0x60 .full s
    else
      let t := changeHold b ((s.dpmAt b).operator.push reasons) s
      okReply 0x60 (depthData (t.dpmAt b).operator) t

def execHoldPush (bay reasons : Byte) (s : State) : Host.Outcome State Fault Refusal := .next (reqHoldPush bay reasons s)

/-- HOLD_POP (R157). -/
def reqHoldPop (bay : Byte) (s : State) : State :=
  match bayOf bay with
  | none => refuse 0x61 .range s
  | some b =>
    if (s.dpmAt b).operator.saved = [] then refuse 0x61 .empty s
    else
      let t := changeHold b (s.dpmAt b).operator.pop s
      okReply 0x61 (depthData (t.dpmAt b).operator) t

def execHoldPop (bay : Byte) (s : State) : Host.Outcome State Fault Refusal := .next (reqHoldPop bay s)

/-! ## Hall holds -/

/-- The hall set and stack replaced, every bay's effective set re-derived in bay order (R158). -/
def changeHallHold (h : HoldStack) (s : State) : State := perform ({ s with hallHold := h }, allBays.map .rederive)

/-- HALL_HOLD_PUSH (R158). -/
def reqHallHoldPush (reasons : Byte) (s : State) : State :=
  if Config.stackSize ≤ s.hallHold.saved.length then refuse 0x62 .full s
  else
    let t := changeHallHold (s.hallHold.push reasons) s
    okReply 0x62 (depthData t.hallHold) t

def execHallHoldPush (reasons : Byte) (s : State) : Host.Outcome State Fault Refusal := .next (reqHallHoldPush reasons s)

/-- HALL_HOLD_POP (R158). -/
def reqHallHoldPop (s : State) : State :=
  if s.hallHold.saved = [] then refuse 0x63 .empty s
  else
    let t := changeHallHold s.hallHold.pop s
    okReply 0x63 (depthData t.hallHold) t

def execHallHoldPop (s : State) : Host.Outcome State Fault Refusal := .next (reqHallHoldPop s)

/-- HOLDS_READ (R160). -/
def reqHoldsRead (bay : Byte) (s : State) : State :=
  match bayOf bay with
  | none => refuse 0x64 .range s
  | some b => okReply 0x64 (holdsData s b) s

def execHoldsRead (bay : Byte) (s : State) : Host.Outcome State Fault Refusal := .next (reqHoldsRead bay s)

/-! ## Lanes -/

/-- What a lane request's reply carries: the lane's state and its close-pending mark (R175). -/
def laneReplyData (s : State) (l : Lane) : List Byte :=
  [byte (s.laneAt l).state.code, flagByte (s.laneAt l).closePending]

/-- A LANE_CLOSE acts on a lane by its state (R175). -/
def closeLane (l : Lane) (s : State) : Reaction :=
  match (s.laneAt l).state with
  | .free => (s.modLane l (fun r => { r with state := .closed }), [laneNotice l .closed])
  | .granted | .passageWait => done (s.modLane l (fun r => { r with closePending := true }))
  | .closed => done s

/-- A LANE_OPEN acts on a lane by its state (R175). -/
def openLane (l : Lane) (s : State) : Reaction :=
  match (s.laneAt l).state with
  | .closed => (s.modLane l (fun r => { r with state := .free }), [laneNotice l .free, .laneOffer l])
  | .granted | .passageWait => done (s.modLane l (fun r => { r with closePending := false }))
  | .free => done s

/-- LANE_CLOSE (R175). -/
def reqLaneClose (lane : Byte) (s : State) : State :=
  match laneOf lane with
  | none => refuse 0x70 .range s
  | some l =>
    let t := perform (closeLane l s)
    okReply 0x70 (laneReplyData t l) t

def execLaneClose (lane : Byte) (s : State) : Host.Outcome State Fault Refusal := .next (reqLaneClose lane s)

/-- LANE_OPEN (R175). -/
def reqLaneOpen (lane : Byte) (s : State) : State :=
  match laneOf lane with
  | none => refuse 0x71 .range s
  | some l =>
    let t := perform (openLane l s)
    okReply 0x71 (laneReplyData t l) t

def execLaneOpen (lane : Byte) (s : State) : Host.Outcome State Fault Refusal := .next (reqLaneOpen lane s)

/-- LANES_READ (R177). -/
def reqLanesRead (s : State) : State := okReply 0x72 (lanesData s) s

def execLanesRead (s : State) : Host.Outcome State Fault Refusal := .next (reqLanesRead s)

end Sys2Proof.Machine
end

