-- ==== Sys2Proof/Machine/HostRequests.lean ====
section
/-! DEFINITION. The host link's own requests: identity, the fetch, the event mask, settings, the clock (R14 to R16, R180,
R183 to R187). Each row stands for the taking of its request (R179, log 1): the effects first, then the reply from the
state they leave. -/

namespace Sys2Proof.Machine

/-! ## UNKNOWN_KIND -/

/-- A taken request whose KIND names no request kind (R180). A KIND that names one is no such request (log 4). -/
def reqUnknownKind (kind : Byte) (s : State) : State :=
  if requestKinds.contains kind.toNat then s else refuse kind.toNat .unknownKind s

def execUnknownKind (kind : Byte) (s : State) : Host.Outcome State Fault Refusal := .next (reqUnknownKind kind s)

/-! ## IDENT -/

/-- The identity of the part (R187). -/
def identData : List Byte := field16 Config.vendorCode ++ field16 Config.partCode ++ [byte Config.revision]

/-- IDENT (R187). -/
def reqIdent (s : State) : State := okReply 0x01 identData s

def execIdent (s : State) : Host.Outcome State Fault Refusal := .next (reqIdent s)

/-! ## EVENTS_FETCH -/

/-- EVENTS_FETCH: the reply carries the flags as they stood, then the reported flags are treated (R183). -/
def reqEventsFetch (s : State) : State := okReply 0x03 (eventsData s) s.fetched

def execEventsFetch (s : State) : Host.Outcome State Fault Refusal := .next (reqEventsFetch s)

/-! ## EVENT_MASK -/

/-- The mask replaced by bits 0 to 19 of the value carried, ATTN re-evaluated (R184, R192, R201). -/
def State.withMask (s : State) (m : BitVec 24) : State := (s.modHli (fun h => { h with mask := m.setWidth 20 })).reattend

/-- EVENT_MASK (R184). -/
def reqEventMask (mask : Option (BitVec 24)) (s : State) : State :=
  match mask with
  | none => okReply 0x04 (maskBytes s.hli.mask) s
  | some m => okReply 0x04 (maskBytes (s.withMask m).hli.mask) (s.withMask m)

def execEventMask (mask : Option (BitVec 24)) (s : State) : Host.Outcome State Fault Refusal := .next (reqEventMask mask s)

/-! ## Settings -/

/-- The setting a byte names: none above 16 (R185). -/
def settingOf (x : Byte) : Option (Fin 17) := if h : x.toNat < 17 then some ⟨x.toNat, h⟩ else none

/-- The value a setting takes when `v` is written to it (R185). -/
def settingTaken (n : Fin 17) (v : Nat) : Nat := clampNat Config.settingRows[n].lo Config.settingRows[n].hi v

/-- A setting's value changed. -/
def State.putSetting (s : State) (n : Fin 17) (v : Nat) : State := { s with settings := s.settings.set n.val v n.isLt }

/-- What a changed setting hands to its user at once (R186). -/
def settingNotices (n : Fin 17) : List Notice :=
  match n.val with
  | 0 | 1 | 2 => [.falRecompute]
  | 5 | 6 | 7 | 8 | 9 => allBays.map .hplRecompute
  | 16 => [.lateCheck none]
  | _ => []

/-- SETTINGS_WRITE (R185, R186). -/
def reqSettingsWrite (number : Byte) (value : Word32) (s : State) : State :=
  match settingOf number with
  | none => refuse 0x05 .range s
  | some n =>
    let v := settingTaken n value.toNat
    let t := perform (s.putSetting n v, if s.setting n = v then [] else settingNotices n)
    takenReply 0x05 (v != value.toNat) (number :: field32 v) t

def execSettingsWrite (number : Byte) (value : Word32) (s : State) : Host.Outcome State Fault Refusal :=
  .next (reqSettingsWrite number value s)

/-- SETTINGS_READ (R185). -/
def reqSettingsRead (number : Byte) (s : State) : State :=
  match settingOf number with
  | none => refuse 0x06 .range s
  | some n => okReply 0x06 (settingData s n) s

def execSettingsRead (number : Byte) (s : State) : Host.Outcome State Fault Refusal := .next (reqSettingsRead number s)

/-! ## The depot clock -/

/-- The waits a SET_TIME re-evaluates: every plan's start and HOLDING point, every window, the late points (R16;
log 9). -/
def setTimeNotices : List Notice := allBays.map .hplRecompute ++ allBays.map .clrWindow ++ [.lateCheck none]

/-- SET_TIME (R15, R16). -/
def reqSetTime (time : Word32) (s : State) : State :=
  okReply 0x07 [] (perform (s.modClock (fun _ => ⟨time.toNat, true, 0⟩), setTimeNotices))

def execSetTime (time : Word32) (s : State) : Host.Outcome State Fault Refusal := .next (reqSetTime time s)

/-- TIME_READ (R14). -/
def reqTimeRead (s : State) : State := okReply 0x08 (timeData s) s

def execTimeRead (s : State) : Host.Outcome State Fault Refusal := .next (reqTimeRead s)

/-- The points an advance of the depot time may reach, in the order of R16's table (R87, R88, R151, R164; log 9). -/
def clockTickNotices : List Notice :=
  allBays.map .hplStart ++ allBays.map .hplPoint ++ allBays.map .clrWindow ++ [.lateCheck none]

/-- The depot time after one second; it wraps to 0 (R14). -/
def nextTime (t : Nat) : Nat := if t < Config.maxTime then t + 1 else 0

/-- CLOCK_TICK (R14). -/
def evClockTick (s : State) : State :=
  perform (s.modClock (fun c => { c with time := nextTime c.time, phase := 0 }), clockTickNotices)

def execClockTick (s : State) : Host.Outcome State Fault Refusal := .next (evClockTick s)

end Sys2Proof.Machine
end

