-- ==== Sys2Proof/Machine/LampRequests.lean ====
section
/-! DEFINITION. The requests on a bay's lamp run (R124, R127, R139, R142). -/

namespace Sys2Proof.Machine

/-- Whether a lamp run stands: RUNNING or PAUSED (R124). -/
def LampStatus.active : LampStatus → Bool
  | .running | .paused => true
  | .notRun | .passed | .failed | .expired | .aborted => false

/-- LAMP_START (R124). -/
def reqLampStart (bay mode passes : Byte) (s : State) : State :=
  match bayOf bay, lampModeOf mode with
  | some b, some m =>
    if (s.bfeAt b).enabled = false then refuse 0x40 .notEnabled s
    else if (s.dkuAt b).state ≠ .docked then refuse 0x40 .state s
    else if (s.lcsAt b).status.active then busyReply 0x40 s
    else
      let n := clampNat 1 4 passes.toNat
      takenReply 0x40 (n != passes.toNat) [byte n] (perform (lcsStart b m n s))
  | _, _ => refuse 0x40 .range s

def execLampStart (bay mode passes : Byte) (s : State) : Host.Outcome State Fault Refusal :=
  .next (reqLampStart bay mode passes s)

/-- LAMP_ADVANCE (R127). -/
def reqLampAdvance (bay : Byte) (s : State) : State :=
  match bayOf bay with
  | none => refuse 0x41 .range s
  | some b =>
    if (s.bfeAt b).enabled = false then refuse 0x41 .notEnabled s
    else if (s.dkuAt b).state ≠ .docked then refuse 0x41 .state s
    else if (s.lcsAt b).status = .paused ∧ (s.lcsAt b).reasons.step = true then
      okReply 0x41 [] (perform (dropReason b (fun r => { r with step := false }) s))
    else refuse 0x41 .state s

def execLampAdvance (bay : Byte) (s : State) : Host.Outcome State Fault Refusal := .next (reqLampAdvance bay s)

/-- LAMP_ABORT (R139). -/
def reqLampAbort (bay : Byte) (s : State) : State :=
  match bayOf bay with
  | none => refuse 0x42 .range s
  | some b =>
    if (s.bfeAt b).enabled = false then refuse 0x42 .notEnabled s
    else if (s.dkuAt b).state ≠ .docked then refuse 0x42 .state s
    else if (s.lcsAt b).status.active then okReply 0x42 [] (perform (lcsAbort b s))
    else refuse 0x42 .state s

def execLampAbort (bay : Byte) (s : State) : Host.Outcome State Fault Refusal := .next (reqLampAbort bay s)

/-- LAMP_READ (R142). -/
def reqLampRead (bay : Byte) (s : State) : State :=
  match bayOf bay with
  | none => refuse 0x43 .range s
  | some b => okReply 0x43 (lampData s b) s

def execLampRead (bay : Byte) (s : State) : Host.Outcome State Fault Refusal := .next (reqLampRead bay s)

end Sys2Proof.Machine
end

