-- ==== Sys2Proof/Machine/HostLink.lean ====
section
/-! DEFINITION. The host link's receiver, its two buffer slots and the taking of requests (R178, R179, R180). -/

namespace Sys2Proof.Machine

/-! ## Taking a request -/

/-- A request handed to its owner (R179); a row that is no request changes nothing here. -/
def performRequest (i : Instr) (s : State) : State :=
  match i with
  | .ident => reqIdent s
  | .restart => reqRestart s
  | .eventsFetch => reqEventsFetch s
  | .eventMask mask => reqEventMask mask s
  | .settingsWrite number value => reqSettingsWrite number value s
  | .settingsRead number => reqSettingsRead number s
  | .setTime time => reqSetTime time s
  | .timeRead => reqTimeRead s
  | .bayEnable bay => reqBayEnable bay s
  | .bayDisable bay => reqBayDisable bay s
  | .bayStatus bay => reqBayStatus bay s
  | .linkRead bay => reqLinkRead bay s
  | .redock bay => reqRedock bay s
  | .profileRead bay => reqProfileRead bay s
  | .mapClear => reqMapClear s
  | .mapAppend entry => reqMapAppend entry s
  | .mapInsert position entry => reqMapInsert position entry s
  | .mapRead => reqMapRead s
  | .faultScan bay => reqFaultScan bay s
  | .faultsRead bay => reqFaultsRead bay s
  | .ambientSet temperature => reqAmbientSet temperature s
  | .heatRead bay => reqHeatRead bay s
  | .shedEnter => reqShedEnter s
  | .shedLeave => reqShedLeave s
  | .budgetRead => reqBudgetRead s
  | .lampStart bay mode passes => reqLampStart bay mode passes s
  | .lampAdvance bay => reqLampAdvance bay s
  | .lampAbort bay => reqLampAbort bay s
  | .lampRead bay => reqLampRead bay s
  | .departureAdd id bay fields waivers => reqDepartureAdd id bay fields waivers s
  | .departureAmend id fields => reqDepartureAmend id fields s
  | .departureCancel id => reqDepartureCancel id s
  | .departureWaive id waivers => reqDepartureWaive id waivers s
  | .departureRead id => reqDepartureRead id s
  | .departureList start => reqDepartureList start s
  | .holdPush bay reasons => reqHoldPush bay reasons s
  | .holdPop bay => reqHoldPop bay s
  | .hallHoldPush reasons => reqHallHoldPush reasons s
  | .hallHoldPop => reqHallHoldPop s
  | .holdsRead bay => reqHoldsRead bay s
  | .laneClose lane => reqLaneClose lane s
  | .laneOpen lane => reqLaneOpen lane s
  | .lanesRead => reqLanesRead s
  | .unknownKind kind => reqUnknownKind kind s
  | .powerOn | .hostFrameReceived _ _ | .hostFrameFault _ | .hostFrameGap | .replySent | .rawInputChange _ _
  | .presenceChange _ | .plugChange _ | .shedLineChange | .gatePassage _ | .meterSample _ _ _ _ | .overdrawTrip _
  | .openWaitTimer _ | .plugTimer _ | .clockTick | .lineQuietSend _ | .requestSent _ | .replyFrame _ _ _ _
  | .replyCharacterError _ | .noReply _ | .replyGap _ | .reprobeTimer _ | .pollTimer _ | .staleTimer _ | .rampTimer
  | .confirmTimer | .baselineComplete _ _ | .settleTimer _ | .litComplete _ _ _ | .validityTimer _ | .laneTimer _
  | .sofCharacter | .replyStart _ => s

/-- A frame's request taken: the HLI's two checks, then its owner (R179, R180). -/
def takeFrame (f : HostFrame) (s : State) : State :=
  match decodeRequest f with
  | .ok i => performRequest i s
  | .error why => refuse f.kind.toNat why s

/-! ## The receiver and the buffer -/

/-- A frame with a good CRC: OVERRUN with both slots occupied, held while a reply is being sent, else taken at once, an
older held frame before it (R178, R179). -/
def hostFrame (f : HostFrame) (s : State) : State :=
  match s.hli.sending, s.hli.held with
  | none, none => takeFrame f s
  | none, some older => takeFrame older (s.modHli (fun h => { h with held := some f }))
  | some _, none => s.modHli (fun h => { h with held := some f })
  | some _, some _ => raiseHallFlag s .hostLinkError (.hostLink .overrun)

/-- The receiver hunts (R178). -/
def State.hunting (s : State) : State := s.modHli (fun h => { h with inFrame := false })

/-- The reason of HOST_LINK_ERROR for a frame fault (R178). -/
def FrameFault.reason : FrameFault → HostLinkReason
  | .character => .character
  | .length => .length
  | .check => .check

/-- The frame being gathered is discarded: the receiver hunts, HOST_LINK_ERROR is raised (R178). A hunting receiver raises
nothing. -/
def discardFrame (why : HostLinkReason) (s : State) : State :=
  if s.hli.inFrame then raiseHallFlag s.hunting .hostLinkError (.hostLink why) else s

/-- HOST_FRAME_RECEIVED: a frame completes; its CRC is computed and compared, a mismatch discards it as HOST_FRAME_FAULT
does, a good one takes it (R178, R179, R190). A hunting receiver gathers no frame, and no frame has a LEN above 1024
(log 4). -/
def evHostFrameReceived (kind : Byte) (body : CheckedPayload) (s : State) : State :=
  let f : HostFrame := ⟨kind, body.payload⟩
  if s.hli.inFrame && decide (body.payload.length ≤ Config.maxHostPayload) then
    if crc16 (frameBody f) = body.crc then hostFrame f s.hunting else discardFrame .check s
  else s

def execHostFrameReceived (kind : Byte) (body : CheckedPayload) (s : State) : Host.Outcome State Fault Refusal :=
  .next (evHostFrameReceived kind body s)

/-- HOST_FRAME_FAULT (R178). -/
def evHostFrameFault (cause : FrameFault) (s : State) : State := discardFrame (FrameFault.reason cause) s
def execHostFrameFault (cause : FrameFault) (s : State) : Host.Outcome State Fault Refusal :=
  .next (evHostFrameFault cause s)

/-- HOST_FRAME_GAP (R178). -/
def evHostFrameGap (s : State) : State := discardFrame .gap s
def execHostFrameGap (s : State) : Host.Outcome State Fault Refusal := .next (evHostFrameGap s)

/-- SOF_CHARACTER: the hunting receiver is in a frame; inside a frame the byte is data (R178, R190). -/
def evSofCharacter (s : State) : State := s.modHli (fun h => { h with inFrame := true })
def execSofCharacter (s : State) : Host.Outcome State Fault Refusal := .next (evSofCharacter s)

/-- REPLY_SENT: the slot of the reply's request is freed, the frame still held is taken (R179). -/
def evReplySent (s : State) : State :=
  match s.hli.sending, s.hli.held with
  | none, _ => s
  | some _, none => s.modHli (fun h => { h with sending := none, lineOut := [] })
  | some _, some f => takeFrame f (s.modHli (fun h => { h with sending := none, lineOut := [], held := none }))

def execReplySent (s : State) : Host.Outcome State Fault Refusal := .next (evReplySent s)

end Sys2Proof.Machine
end

