-- ==== Sys2Proof/Machine/Time.lean ====
section
/-! DEFINITION. The passing of time: while no command waits, one idle step is one millisecond (log 2). Every running timer
moves on by it, and a timer that has run out puts its row into the queue. -/

namespace Sys2Proof.Machine

/-- A timer one millisecond on; it stands at 0 until its row is taken. -/
def countDown (t : Timer) : Timer := t.map (fun n => n - 1)

/-- Whether a timer has run out. -/
def ranOut (t : Timer) : Bool := t == some 0

/-- The two sensors' debounce timers and the overdraw timer, which counts up to 10 s (R1, R10). -/
def Bfe.tick (f : Bfe) : Bfe :=
  { f with
    presenceTimer := countDown f.presenceTimer
    plugTimer := countDown f.plugTimer
    overdraw := f.overdraw.map (fun n => min (n + 1) Config.overdrawLimit) }

/-- The wait for a quiet line and the wait for a reply (R17, R19). -/
def AttemptPhase.tick : AttemptPhase → AttemptPhase
  | .ready n => .ready (n - 1)
  | .waiting n => .waiting (n - 1)
  | .sending => .sending
  | .receiving => .receiving
  | .reporting => .reporting

def InFlight.tick (f : InFlight) : InFlight := { f with phase := f.phase.tick }

/-- The attempt's wait, the re-probe timer, the poll timer, the line's quiet time (R17, R19, R29, R35). -/
def Clc.tick (c : Clc) : Clc :=
  { c with
    inflight := c.inflight.map InFlight.tick
    reprobe := countDown c.reprobe
    poll := countDown c.poll
    quiet := min (c.quiet + 1) Config.lineQuiet }

/-- The stale timer (R94). -/
def Hpl.tick (h : Hpl) : Hpl := { h with staleTimer := countDown h.staleTimer }

/-- The settle timer and the validity timer (R131, R140). -/
def Lcs.tick (l : Lcs) : Lcs := { l with settle := countDown l.settle, validity := countDown l.validity }

/-- The plug timer and the open-wait timer (R167). -/
def Clr.tick (c : Clr) : Clr := { c with plugTimer := countDown c.plugTimer, openWait := countDown c.openWait }

/-- The lane timer (R174). -/
def LaneRecord.tick (r : LaneRecord) : LaneRecord := { r with timer := countDown r.timer }

/-- The confirm timer (R115). -/
def StageUp.tick (u : StageUp) : StageUp :=
  match u.phase with
  | .awaitingReply => u
  | .confirming n => { u with phase := .confirming (n - 1) }

/-- The ramp timer and the confirm timer (R110, R115). -/
def Feeder.tick (f : Feeder) : Feeder := { f with ramp := countDown f.ramp, stageUp := f.stageUp.map StageUp.tick }

/-- The SHED debounce timer and the time a gate input has been active (R4). -/
def HallInputs.tick (i : HallInputs) : HallInputs :=
  { i with
    shedTimer := countDown i.shedTimer, gateA := i.gateA.map (fun n => n + 1), gateB := i.gateB.map (fun n => n + 1) }

/-- One bay one millisecond on. -/
def tickBay (b : BayNo) (s : State) : State :=
  ((((s.modBfe b Bfe.tick).modClc b Clc.tick).modHpl b Hpl.tick).modLcs b Lcs.tick).modClr b Clr.tick

/-- Every running timer one millisecond on. -/
def tickTimers (s : State) : State :=
  ((((forBays tickBay s).modFeeder Feeder.tick).modInputs HallInputs.tick).modClock (fun c =>
    { c with phase := c.phase + 1 })).modLane .a LaneRecord.tick |>.modLane .b LaneRecord.tick

/-- The row of an attempt that may be sent, or whose wait for a reply has run out (R17, R19). -/
def attemptRow (b : BayNo) (c : Clc) : List Instr :=
  match c.inflight with
  | some f =>
    match f.phase with
    | .ready n => if c.maySend n then [.lineQuietSend b] else []
    | .waiting 0 => [.noReply b]
    | .waiting _ | .sending | .receiving | .reporting => []
  | none => []

/-- A row where a condition holds. -/
def rowIf (due : Bool) (i : Instr) : List Instr := if due then [i] else []

/-- The rows of a bay's timers that have run out (log 6). -/
def bayRows (s : State) (b : BayNo) : List Instr :=
  rowIf (ranOut (s.bfeAt b).presenceTimer) (.presenceChange b) ++
  rowIf (ranOut (s.bfeAt b).plugTimer) (.plugChange b) ++
  rowIf ((s.bfeAt b).overdraw == some Config.overdrawLimit) (.overdrawTrip b) ++
  rowIf (ranOut (s.clrAt b).openWait) (.openWaitTimer b) ++
  rowIf (ranOut (s.clrAt b).plugTimer) (.plugTimer b) ++
  attemptRow b (s.clcAt b) ++
  rowIf (ranOut (s.clcAt b).reprobe) (.reprobeTimer b) ++
  rowIf (ranOut (s.clcAt b).poll) (.pollTimer b) ++
  rowIf (ranOut (s.hplAt b).staleTimer) (.staleTimer b) ++
  rowIf (ranOut (s.lcsAt b).settle) (.settleTimer b) ++
  rowIf (ranOut (s.lcsAt b).validity) (.validityTimer b)

/-- Whether a stage-up's confirm timer has run out. -/
def Feeder.confirmOut (f : Feeder) : Bool :=
  match f.stageUp with
  | some u => u.phase == .confirming 0
  | none => false

/-- The rows of the hall's timers that have run out, the second last (log 6). -/
def hallRows (s : State) : List Instr :=
  rowIf (ranOut s.hallInputs.shedTimer) .shedLineChange ++
  rowIf (ranOut s.feeder.ramp) .rampTimer ++
  rowIf s.feeder.confirmOut .confirmTimer ++
  rowIf (ranOut s.laneA.timer) (.laneTimer .a) ++
  rowIf (ranOut s.laneB.timer) (.laneTimer .b) ++
  rowIf (decide (1000 ≤ s.clock.phase)) .clockTick

/-- One idle millisecond: the timers move on, the rows of those that have run out join the queue. -/
def tick (s : State) : State :=
  let t := tickTimers s
  { t with pending := t.pending ++ (allBays.flatMap (bayRows t) ++ hallRows t) }

/-- What the part does while no command waits: it carries on what an event left over, or lets a millisecond pass (logs 2
and 5). -/
def idle (s : State) : State := if s.unfinished = [] then tick s else carryOn s

end Sys2Proof.Machine
end

