-- ==== Sys2Proof/Machine/Dispatch.lean ====
section
/-! DEFINITION. What each command does: one arm per row of the opcode table, each a direct call of its meaning. -/

namespace Sys2Proof.Machine

def exec (i : Instr) (s : State) : Host.Outcome State Fault Refusal :=
  match i with
  | .powerOn => Sys2Proof.Machine.execPowerOn s
  | .hostFrameReceived kind body => Sys2Proof.Machine.execHostFrameReceived kind body s
  | .hostFrameFault cause => Sys2Proof.Machine.execHostFrameFault cause s
  | .hostFrameGap => Sys2Proof.Machine.execHostFrameGap s
  | .replySent => Sys2Proof.Machine.execReplySent s
  | .unknownKind kind => Sys2Proof.Machine.execUnknownKind kind s
  | .ident => Sys2Proof.Machine.execIdent s
  | .restart => Sys2Proof.Machine.execRestart s
  | .eventsFetch => Sys2Proof.Machine.execEventsFetch s
  | .eventMask mask => Sys2Proof.Machine.execEventMask mask s
  | .settingsWrite number value => Sys2Proof.Machine.execSettingsWrite number value s
  | .settingsRead number => Sys2Proof.Machine.execSettingsRead number s
  | .setTime time => Sys2Proof.Machine.execSetTime time s
  | .timeRead => Sys2Proof.Machine.execTimeRead s
  | .bayEnable bay => Sys2Proof.Machine.execBayEnable bay s
  | .bayDisable bay => Sys2Proof.Machine.execBayDisable bay s
  | .bayStatus bay => Sys2Proof.Machine.execBayStatus bay s
  | .linkRead bay => Sys2Proof.Machine.execLinkRead bay s
  | .redock bay => Sys2Proof.Machine.execRedock bay s
  | .profileRead bay => Sys2Proof.Machine.execProfileRead bay s
  | .mapClear => Sys2Proof.Machine.execMapClear s
  | .mapAppend entry => Sys2Proof.Machine.execMapAppend entry s
  | .mapInsert position entry => Sys2Proof.Machine.execMapInsert position entry s
  | .mapRead => Sys2Proof.Machine.execMapRead s
  | .faultScan bay => Sys2Proof.Machine.execFaultScan bay s
  | .faultsRead bay => Sys2Proof.Machine.execFaultsRead bay s
  | .ambientSet temperature => Sys2Proof.Machine.execAmbientSet temperature s
  | .heatRead bay => Sys2Proof.Machine.execHeatRead bay s
  | .shedEnter => Sys2Proof.Machine.execShedEnter s
  | .shedLeave => Sys2Proof.Machine.execShedLeave s
  | .budgetRead => Sys2Proof.Machine.execBudgetRead s
  | .lampStart bay mode passes => Sys2Proof.Machine.execLampStart bay mode passes s
  | .lampAdvance bay => Sys2Proof.Machine.execLampAdvance bay s
  | .lampAbort bay => Sys2Proof.Machine.execLampAbort bay s
  | .lampRead bay => Sys2Proof.Machine.execLampRead bay s
  | .departureAdd id bay fields waivers => Sys2Proof.Machine.execDepartureAdd id bay fields waivers s
  | .departureAmend id fields => Sys2Proof.Machine.execDepartureAmend id fields s
  | .departureCancel id => Sys2Proof.Machine.execDepartureCancel id s
  | .departureWaive id waivers => Sys2Proof.Machine.execDepartureWaive id waivers s
  | .departureRead id => Sys2Proof.Machine.execDepartureRead id s
  | .departureList start => Sys2Proof.Machine.execDepartureList start s
  | .holdPush bay reasons => Sys2Proof.Machine.execHoldPush bay reasons s
  | .holdPop bay => Sys2Proof.Machine.execHoldPop bay s
  | .hallHoldPush reasons => Sys2Proof.Machine.execHallHoldPush reasons s
  | .hallHoldPop => Sys2Proof.Machine.execHallHoldPop s
  | .holdsRead bay => Sys2Proof.Machine.execHoldsRead bay s
  | .laneClose lane => Sys2Proof.Machine.execLaneClose lane s
  | .laneOpen lane => Sys2Proof.Machine.execLaneOpen lane s
  | .lanesRead => Sys2Proof.Machine.execLanesRead s
  | .rawInputChange input level => Sys2Proof.Machine.execRawInputChange input level s
  | .presenceChange b => Sys2Proof.Machine.execPresenceChange b s
  | .plugChange b => Sys2Proof.Machine.execPlugChange b s
  | .shedLineChange => Sys2Proof.Machine.execShedLineChange s
  | .gatePassage l => Sys2Proof.Machine.execGatePassage l s
  | .meterSample b shore auxVolts auxAmps => Sys2Proof.Machine.execMeterSample b shore auxVolts auxAmps s
  | .overdrawTrip b => Sys2Proof.Machine.execOverdrawTrip b s
  | .openWaitTimer b => Sys2Proof.Machine.execOpenWaitTimer b s
  | .plugTimer b => Sys2Proof.Machine.execPlugTimer b s
  | .clockTick => Sys2Proof.Machine.execClockTick s
  | .lineQuietSend b => Sys2Proof.Machine.execLineQuietSend b s
  | .requestSent b => Sys2Proof.Machine.execRequestSent b s
  | .replyFrame b kind payload check => Sys2Proof.Machine.execReplyFrame b kind payload check s
  | .replyCharacterError b => Sys2Proof.Machine.execReplyCharacterError b s
  | .noReply b => Sys2Proof.Machine.execNoReply b s
  | .replyGap b => Sys2Proof.Machine.execReplyGap b s
  | .reprobeTimer b => Sys2Proof.Machine.execReprobeTimer b s
  | .pollTimer b => Sys2Proof.Machine.execPollTimer b s
  | .staleTimer b => Sys2Proof.Machine.execStaleTimer b s
  | .rampTimer => Sys2Proof.Machine.execRampTimer s
  | .confirmTimer => Sys2Proof.Machine.execConfirmTimer s
  | .baselineComplete b amps => Sys2Proof.Machine.execBaselineComplete b amps s
  | .settleTimer b => Sys2Proof.Machine.execSettleTimer b s
  | .litComplete b amps volts => Sys2Proof.Machine.execLitComplete b amps volts s
  | .validityTimer b => Sys2Proof.Machine.execValidityTimer b s
  | .laneTimer l => Sys2Proof.Machine.execLaneTimer l s
  | .sofCharacter => Sys2Proof.Machine.execSofCharacter s
  | .replyStart b => Sys2Proof.Machine.execReplyStart b s

end Sys2Proof.Machine
end

