-- ==== Sys2Proof/Machine/Step.lean ====
section
/-! DEFINITION. One step: the command at the front of the queue, or an idle millisecond (logs 2 and 5). -/

namespace Sys2Proof.Machine

/-- The state without the command at the front of its queue. -/
def State.dequeue (s : State) (rest : List Instr) : State := { s with pending := rest }

/-- The command at the front of the queue acts, with the rest of the queue waiting; on an empty queue the part idles. -/
def step (s : State) : Host.Outcome State Fault Refusal :=
  match s.pending with
  | [] => .next (idle s)
  | i :: rest => exec i (s.dequeue rest)

/-- The command that a word spells by the table's bits put at the front of the queue; no row of the table gives bits, so
no word spells one. -/
def State.withFetchWord (s : State) (nbits w : Nat) : State :=
  match decodeTableWord nbits w with
  | some i => { s with pending := i :: s.pending }
  | none => s

end Sys2Proof.Machine
end

