-- ==== Sys2Proof/Safety.lean ====
section
/-! DEFINITION. What a sound state of the part is, in the terms the statements use: the settings within their ranges
(R185), latch, contactor and signal with what they follow (R7, R8, R11), ATTN with the flags (R184), the host line with the
reply being sent (R178, R190), the departure list in order (R145), the stacks, the map and the shed depth within their sizes (R58, R103, R143), the grants within the
budget (R108), the precision channels with the lamp steps (R128), the lanes and the wait order with the clearance states
(R166, R173); what an event's notices leave alone; and what it is to answer a request and to raise a flag and do nothing
else. -/

namespace Sys2Proof.Machine

/-- Every setting stands within its range (R185). -/
def State.SettingsInRange (s : State) : Prop :=
  ∀ n : Fin 17, Config.settingRows[n].lo ≤ s.setting n ∧ s.setting n ≤ Config.settingRows[n].hi

/-- Every latch is locked exactly while its contactor is closed, and a contactor is closed only on an enabled, plugged bay
that is not tripped (R7, R8). -/
def State.LatchFollows (s : State) : Prop :=
  ∀ b : BayNo, (s.bfeAt b).latch = (s.bfeAt b).contactor ∧
    ((s.bfeAt b).contactor = true →
      (s.bfeAt b).enabled = true ∧ (s.bfeAt b).plug = true ∧ (s.bfeAt b).tripped = false)

/-- Every contactor is closed exactly while its bay is enabled, plugged, DOCKED and not tripped with no open request
standing (R7), but where an event left the BFE's look at that bay over (log 5). -/
def State.ContactorFollows (s : State) : Prop :=
  ∀ b : BayNo, ((s.bfeAt b).contactor = true ↔
    (s.bfeAt b).enabled = true ∧ (s.bfeAt b).plug = true ∧ (s.dkuAt b).state = .docked ∧ (s.bfeAt b).tripped = false ∧
      (s.clrAt b).openRequest = false) ∨ .contactor b ∈ s.unfinished

/-- Every exit signal shows the aspect of its bay's clearance state (R11). -/
def State.SignalFollows (s : State) : Prop := ∀ b : BayNo, (s.bfeAt b).aspect = (s.clrAt b).state.aspect

/-- ATTN is asserted exactly while a flag is set whose kind is ENABLED (R184). -/
def State.AttnFollows (s : State) : Prop := s.hli.attn = s.anyEnabledFlag

/-- The host line carries the bytes of the reply being sent, framed with their CRC-16, and none where no reply is being
sent (R178, R190). -/
def State.HostLineFollows (s : State) : Prop :=
  s.hli.lineOut = match s.hli.sending with | some f => frameBytes f | none => []

/-- A departure record's fields are within their ranges (R144). -/
def Departure.InRange (d : Departure) : Prop :=
  1 ≤ d.id ∧ d.id ≤ 65535 ∧ d.time ≤ Config.maxTime ∧ (∀ t, d.target = some t → 50 ≤ t ∧ t ≤ 300) ∧
    (∀ f, d.fleet = some f → 1 ≤ f ∧ f ≤ 65535) ∧ d.lead ≤ 30

/-- The departure list holds at most 64 records with distinct ids in nondecreasing scheduled time (R145). -/
def State.ListOrdered (s : State) : Prop :=
  s.departures.length ≤ Config.listSize ∧ (s.departures.map Departure.id).Nodup ∧
    s.departures.Pairwise (fun x y => x.time ≤ y.time) ∧ ∀ d ∈ s.departures, d.InRange

/-- The hold stacks, the map and the host part of the shed depth are within their sizes (R58, R103, R143). -/
def State.WithinSizes (s : State) : Prop :=
  s.hallHold.saved.length ≤ Config.stackSize ∧ (∀ b : BayNo, (s.dpmAt b).operator.saved.length ≤ Config.stackSize) ∧
    s.map.length ≤ Config.mapSize ∧ s.feeder.shedHost ≤ Config.maxShedHost

/-- The grants are sound: the granted load is within the heat budget (R108), grants within requests (R106), the budget is
the one the field, the settings and the shed depth give (R101, R102) but where an event left its recomputation over
(log 5), and at most one stage-up is in flight, on the bay whose row is marked (R100, R110). -/
structure State.FeederSound (s : State) : Prop where
  load : s.grantedLoad ≤ s.feeder.budget
  budget : (s.feeder.plugged = s.countPlugged ∧ s.feeder.base = s.baseBudget s.feeder.plugged ∧
    s.feeder.budget = s.heatBudget s.feeder.base) ∨ .falRecompute ∈ s.unfinished
  grants : ∀ b, (s.rowAt b).granted ≤ (s.rowAt b).requested ∧ (s.rowAt b).requested ≤ (s.rowAt b).planRequest ∧
    (s.rowAt b).planRequest ≤ 8
  capable : ∀ b, (∀ h, (s.dkuAt b).profile.heater = some h → h.1 ≤ 8) ∧ (s.hplAt b).plan.holdingStages ≤ 8
  opened : s.feeder.gateOpen = true → s.feeder.ramp = none ∧ s.feeder.stageUp = none
  closed : s.feeder.gateOpen = false → (s.feeder.ramp = none ↔ s.feeder.stageUp ≠ none)
  inFlight : ∀ b, (s.rowAt b).inFlight = true ↔ ∃ u, s.feeder.stageUp = some u ∧ u.bay = b

/-- The precision channels, their queue, the quiet marks and the lamp steps agree: a bay holds at most one channel, and
exactly while a step of its RUNNING run is under way past the queue; it waits in the queue, once, exactly while its step
is QUEUED; a waiting bay means that no channel is free (R119, R126, R128); the validity timer runs only on a PASSED or
FAILED result (R140). -/
structure State.ChannelsSound (s : State) : Prop where
  holder : ∀ (c : Fin 4) (b : BayNo), s.channels[c] = some b ↔ (s.lcsAt b).channel = some c
  step : ∀ b, (s.lcsAt b).channel ≠ none ↔ (s.lcsAt b).phase ≠ .none ∧ (s.lcsAt b).phase ≠ .queued
  queued : s.channelQueue.Nodup ∧ ∀ b, b ∈ s.channelQueue ↔ (s.lcsAt b).phase = .queued
  full : s.channelQueue ≠ [] → ∀ c : Fin 4, s.channels[c] ≠ none
  quiet : ∀ b, (s.rowAt b).quiet = true ↔ (s.lcsAt b).channel ≠ none
  running : ∀ b, (s.lcsAt b).phase ≠ .none → (s.lcsAt b).status = .running
  valid : ∀ b, (s.lcsAt b).validity ≠ none → (s.lcsAt b).status = .passed ∨ (s.lcsAt b).status = .failed

/-- Lanes, wait order, clearance states and hold sets agree: a bay holds at most one lane, and a GRANTED one exactly while
it is CLEARING or CLEARED (R173); the wait order holds, once each, the QUEUED bays and the RECALLED bays that are not held
(R166, R171); no bay from READY to CLEARED is held and a PREPARING one is, but in a revocation (R163, R170); the CLR holds
the effective set as derived (R159), but where an event left the derivation or the report over (log 5). -/
structure State.LanesSound (s : State) : Prop where
  record : ∀ l, ((s.laneAt l).holder ≠ none ↔ (s.laneAt l).state = .granted ∨ (s.laneAt l).state = .passageWait) ∧
    ((s.laneAt l).timer ≠ none ↔ (s.laneAt l).state = .passageWait) ∧
    ((s.laneAt l).closePending = true → (s.laneAt l).holder ≠ none)
  oneLane : ∀ b, ¬ (s.laneA.holder = some b ∧ s.laneB.holder = some b)
  granted : ∀ b, ((s.clrAt b).state = .clearing ∨ (s.clrAt b).state = .cleared) ↔
    ∃ l, (s.laneAt l).state = .granted ∧ (s.laneAt l).holder = some b
  waiting : s.waitOrder.Nodup ∧ ∀ b, b ∈ s.waitOrder ↔
    (s.clrAt b).state = .queued ∨ ((s.clrAt b).state = .recalled ∧ (s.clrAt b).holds.held = false)
  clear : ∀ b, (s.clrAt b).state ∈ [ClearState.ready, .scanning, .queued, .clearing, .cleared] →
    (s.clrAt b).holds.held = false
  preparing : ∀ b, (s.clrAt b).state = .preparing → (s.clrAt b).revoking = false → (s.clrAt b).holds.held = true
  revoking : ∀ b, (s.clrAt b).revoking = true → (s.clrAt b).state = .preparing
  derived : ∀ b, (s.dpmAt b).reported = s.effective b ∨ .rederive b ∈ s.unfinished
  told : ∀ b, (s.clrAt b).holds = (s.dpmAt b).reported ∨ .clrHolds b ∈ s.unfinished

/-- A bay's field unit without its outputs: what only the field, BAY_ENABLE, BAY_DISABLE and power-on change. -/
def Bfe.given (f : Bfe) : Bfe :=
  { f with contactor := false, latch := false, tripped := false, overdraw := none, aspect := .dark }

/-- What no notice of any event changes: field inputs and enable states, the clock, settings, map, ambient, shed depth,
operator and hall holds, the frames and the mask of the host link, the commands waiting. -/
structure Given where
  bfe : BayNo → Bfe
  operator : BayNo → HoldStack
  clock : Clock
  hallInputs : HallInputs
  settings : Vector Nat 17
  map : List MapEntry
  ambient : Int
  shedHost : Nat
  shedLine : Nat
  hallHold : HoldStack
  inFrame : Bool
  sending : Option HostFrame
  held : Option HostFrame
  mask : BitVec 20
  pending : List Instr

/-- What no notice of any event changes, read from a state. -/
def State.given (s : State) : Given :=
  { bfe := fun b => (s.bfeAt b).given
    operator := fun b => (s.dpmAt b).operator
    clock := s.clock, hallInputs := s.hallInputs, settings := s.settings, map := s.map, ambient := s.ambient
    shedHost := s.feeder.shedHost, shedLine := s.feeder.shedLine, hallHold := s.hallHold
    inFrame := s.hli.inFrame, sending := s.hli.sending, held := s.hli.held, mask := s.hli.mask, pending := s.pending }

/-! ## Answers and raisings -/

/-- The state in which a reply is being sent, its framed bytes on the line, nothing else changed (R179, R190). -/
def State.sends (s : State) (kind : Byte) (payload : List Byte) : State :=
  { s with hli := { s.hli with sending := some ⟨kind, payload⟩, lineOut := frameBytes ⟨kind, payload⟩ } }

/-- A request row that names one bay and only reads: OK with the data, RANGE above bay 15, nothing else changed. -/
def ReadsBay (row : Byte → Instr) (kind : Byte) (data : State → BayNo → List Byte) : Prop :=
  ∀ s : State,
    (∀ b : BayNo, exec (row (byte b.val)) s = .next (s.sends kind (0 :: data s b))) ∧
    ∀ x : Byte, 16 ≤ x.toNat → exec (row x) s = .next (s.sends kind [3, 2])

/-- A raising of a hall flag and of no other flag, with what it does to ATTN (R181, R184). -/
def RaisesHallOnly (s t : State) (k : HallFlag) (r : Reason) : Prop :=
  t.hallFlag k = ⟨true, r, false, min ((s.hallFlag k).count + 1) 255⟩ ∧
  (∀ j, j ≠ k → t.hallFlag j = s.hallFlag j) ∧ t.flags = s.flags ∧
  t.hli.attn = (s.hli.attn || s.hli.mask.getLsbD (13 + k.code.val))

/-- Whether a command may clear a flag: power-on, a fetch, a restart, and the two rows that may take one of them from a
frame (R183, R188, R189). -/
def mayClearFlags : Instr → Bool
  | .powerOn | .eventsFetch | .restart | .hostFrameReceived _ _ | .replySent => true
  | _ => false

/-- Whether a row fails the attempt in flight `f` of bay `b` (R19): no reply in a window that waits, a gap in a reply that
arrives, a bad character in an open window, a reply start that is not SYNC, or a whole frame that does not begin with
SYNC, is too long, has a bad CHECK or is a WRONG_REPLY. -/
def FailsAttempt (b : BayNo) (f : InFlight) : Instr → Prop
  | .noReply c => c = b ∧ ∃ n, f.phase = .waiting n
  | .replyGap c => c = b ∧ f.phase = .receiving
  | .replyCharacterError c => c = b ∧ ((∃ n, f.phase = .waiting n) ∨ f.phase = .receiving)
  | .replyStart ⟨c, start⟩ => c = b ∧ (∃ n, f.phase = .waiting n) ∧ start ≠ 0xA5
  | .replyFrame ⟨c, start⟩ kind payload check =>
    c = b ∧ ((∃ n, f.phase = .waiting n) ∨ f.phase = .receiving) ∧
      (start ≠ 0xA5 ∨ 32 < payload.length ∨ crc8 (checkedBytes kind payload) ≠ check ∨ readReply f.request kind payload = none)
  | _ => False

/-- Whether a row carries a character from the coach, which ends the line's quiet time (R17; log 36). -/
def hearsCharacter : Instr → Bool
  | .replyStart _ | .replyFrame _ _ _ _ | .replyCharacterError _ => true
  | _ => false

/-- A sound state. A run of the part is safe while every state of it is sound. -/
def State.Sound (s : State) : Prop :=
  s.SettingsInRange ∧ s.LatchFollows ∧ s.ContactorFollows ∧ s.SignalFollows ∧ s.AttnFollows ∧ s.HostLineFollows ∧
    s.ListOrdered ∧ s.WithinSizes ∧ s.FeederSound ∧ s.ChannelsSound ∧ s.LanesSound

end Sys2Proof.Machine
end

