-- ==== Sys2Proof/Certificates/Slice0/Obligations.lean ====
section
/-! DEFINITION. The statements for the provers. Each docstring says what the statement formalises and, where a clause rests
on a choice of the model, names the log entry. -/

open Sys2Proof Sys2Proof.Machine

/-- For every command c and state s with c at the front of its queue, step of s is exec of c on s with the queue's
rest. The queue is the model's own (log 1). -/
def Obligations.StepTakesTheFrontCommand : Prop :=
  ∀ (c : Instr) (rest : List Instr) (s : State), s.pending = c :: rest → step s = exec c { s with pending := rest }

/-- With nothing waiting and nothing left over, a step answers a next state in which the debounce, overdraw, attempt,
re-probe, poll, stale, settle, validity, plug, open-wait, lane, ramp and confirm timers, the line's quiet time, the
gates' active time and the clock's phase have moved by one millisecond and everything else is as before but the queue,
into which exactly the rows of the timers that have run out, of the attempts that may be sent and of a full second
have gone. That an idle step is a millisecond, and that it queues these rows, is the model's choice (logs 2, 6, 36).
-/
def Obligations.IdleStepIsOneMillisecond : Prop :=
  ∀ s : State, s.pending = [] → s.unfinished = [] →
    let down := fun (x : Timer) => x.map (fun n => n - 1)
    ∃ t, step s = .next t ∧
      { t with
        bfe := s.bfe, clc := s.clc, hpl := s.hpl, lcs := s.lcs, clr := s.clr, feeder := s.feeder,
        hallInputs := s.hallInputs, laneA := s.laneA, laneB := s.laneB, clock := s.clock, pending := [] } = s ∧
      t.clock = { s.clock with phase := s.clock.phase + 1 } ∧
      (∀ b, t.bfeAt b = { s.bfeAt b with
        presenceTimer := down (s.bfeAt b).presenceTimer, plugTimer := down (s.bfeAt b).plugTimer,
        overdraw := (s.bfeAt b).overdraw.map (fun n => min (n + 1) 10000) }) ∧
      (∀ b, t.clcAt b = { s.clcAt b with
        inflight := (s.clcAt b).inflight.map (fun f => { f with phase := match f.phase with
          | .ready n => .ready (n - 1) | .waiting n => .waiting (n - 1)
          | .sending => .sending | .receiving => .receiving | .reporting => .reporting }),
        reprobe := down (s.clcAt b).reprobe, poll := down (s.clcAt b).poll, quiet := min ((s.clcAt b).quiet + 1) 2 }) ∧
      (∀ b, t.hplAt b = { s.hplAt b with staleTimer := down (s.hplAt b).staleTimer }) ∧
      (∀ b, t.lcsAt b = { s.lcsAt b with
        settle := down (s.lcsAt b).settle, validity := down (s.lcsAt b).validity }) ∧
      (∀ b, t.clrAt b = { s.clrAt b with
        plugTimer := down (s.clrAt b).plugTimer, openWait := down (s.clrAt b).openWait }) ∧
      (∀ l, t.laneAt l = { s.laneAt l with timer := down (s.laneAt l).timer }) ∧
      t.feeder = { s.feeder with
        ramp := down s.feeder.ramp,
        stageUp := s.feeder.stageUp.map (fun u => { u with phase := match u.phase with
          | .awaitingReply => .awaitingReply | .confirming n => .confirming (n - 1) }) } ∧
      t.hallInputs = { s.hallInputs with
        shedTimer := down s.hallInputs.shedTimer, gateA := s.hallInputs.gateA.map (fun n => n + 1),
        gateB := s.hallInputs.gateB.map (fun n => n + 1) } ∧
      ∀ i, i ∈ t.pending ↔
        (∃ b,
          (i = .presenceChange b ∧ (t.bfeAt b).presenceTimer = some 0) ∨
          (i = .plugChange b ∧ (t.bfeAt b).plugTimer = some 0) ∨
          (i = .overdrawTrip b ∧ (t.bfeAt b).overdraw = some 10000) ∨
          (i = .openWaitTimer b ∧ (t.clrAt b).openWait = some 0) ∨
          (i = .plugTimer b ∧ (t.clrAt b).plugTimer = some 0) ∨
          (i = .lineQuietSend b ∧ (t.clcAt b).lineOut = [] ∧ ∃ f n, (t.clcAt b).inflight = some f ∧ f.phase = .ready n ∧
            (2 ≤ (t.clcAt b).quiet ∨ n = 0)) ∨
          (i = .noReply b ∧ ∃ f, (t.clcAt b).inflight = some f ∧ f.phase = .waiting 0) ∨
          (i = .reprobeTimer b ∧ (t.clcAt b).reprobe = some 0) ∨
          (i = .pollTimer b ∧ (t.clcAt b).poll = some 0) ∨
          (i = .staleTimer b ∧ (t.hplAt b).staleTimer = some 0) ∨
          (i = .settleTimer b ∧ (t.lcsAt b).settle = some 0) ∨
          (i = .validityTimer b ∧ (t.lcsAt b).validity = some 0)) ∨
        (i = .shedLineChange ∧ t.hallInputs.shedTimer = some 0) ∨
        (i = .rampTimer ∧ t.feeder.ramp = some 0) ∨
        (i = .confirmTimer ∧ ∃ u, t.feeder.stageUp = some u ∧ u.phase = .confirming 0) ∨
        (∃ l, i = .laneTimer l ∧ (t.laneAt l).timer = some 0) ∨
        (i = .clockTick ∧ 1000 ≤ t.clock.phase)

/-- From every state POWER_ON answers the reset state but for the raw input levels, the debounce timers they start and
the commands still waiting (log 8); the reset state has the clock UNSET at 0, every setting at its default, every mask
entry enabled, no reply being sent and nothing on the host line, ATTN asserted, RESET and CLOCK_UNSET raised, every
bay disabled, OUT_OF_SERVICE, its link DOWN, its docking state UNDOCKED, its signal RED, both lanes FREE and a budget
of 1,000 units. What the manual gives no power-on value for, the clock's phase of 0 and the plain reason of a flag
never raised among it, is the model's choice (log 7), and so is that the raw levels and the queue stand (log 8). -/
def Obligations.PowerOnTakesThePowerOnState : Prop :=
  (∀ s : State, ∃ t, exec .powerOn s = .next t ∧
    t.pending = s.pending ∧
    (∀ b, t.bfeAt b = { Bfe.reset with
      rawPresence := (s.bfeAt b).rawPresence, rawPlug := (s.bfeAt b).rawPlug,
      presenceTimer := if (s.bfeAt b).rawPresence then some 2000 else none,
      plugTimer := if (s.bfeAt b).rawPlug then some 500 else none }) ∧
    t.hallInputs = ⟨s.hallInputs.rawShed, false, if s.hallInputs.rawShed then some 500 else none,
      s.hallInputs.gateA.map (fun _ => 0), s.hallInputs.gateB.map (fun _ => 0)⟩ ∧
    { t with bfe := State.reset.bfe, hallInputs := State.reset.hallInputs, pending := [] } = State.reset) ∧
  State.reset.clock = ⟨0, false, 0⟩ ∧ State.reset.hli = ⟨false, none, [], none, 0xFFFFF, true⟩ ∧
  (∀ n : Fin 17, State.reset.setting n = Config.settingRows[n].default) ∧
  State.reset.hallFlag .reset = ⟨true, .reset false, false, 1⟩ ∧
  State.reset.hallFlag .clockUnset = ⟨true, .plain, false, 1⟩ ∧
  (∀ b, (State.reset.bfeAt b).enabled = false ∧ (State.reset.bfeAt b).contactor = false ∧
    (State.reset.bfeAt b).latch = false ∧ (State.reset.bfeAt b).tripped = false ∧
    (State.reset.bfeAt b).aspect = .red ∧ (State.reset.clrAt b).state = .outOfService ∧
    (State.reset.clcAt b).link = .down ∧ (State.reset.dkuAt b).state = .undocked ∧
    (State.reset.lcsAt b).status = .notRun ∧ (State.reset.hplAt b).plan.state = .none ∧
    (State.reset.rowAt b).granted = 0 ∧ ∀ k, State.reset.flag b k = ⟨false, .plain, false, 0⟩) ∧
  State.reset.laneA.state = .free ∧ State.reset.laneB.state = .free ∧ State.reset.waitOrder = [] ∧
  State.reset.departures = [] ∧ State.reset.map = [] ∧ State.reset.ambient = 0 ∧
  State.reset.feeder.budget = 1000 ∧ State.reset.feeder.gateOpen = true

/-- State.reset is sound: its settings are in range, its latches and contactors stand with what they follow, its
signals with its clearance states, ATTN with its flags, its host line with the reply being sent, its departure list is
in order, its stacks, map and shed depth are within their sizes, its grants, precision channels and lanes are sound.
-/
def Obligations.ResetIsSound : Prop :=
  State.reset.Sound

/-- For every state whose seventeen settings stand within their ranges, the next state's do. -/
def Obligations.StepKeepsSettingsInRange : Prop :=
  ∀ s t : State, s.SettingsInRange → step s = .next t → t.SettingsInRange

/-- For every state in which every bay's latch is locked exactly while its contactor is closed and a closed
contactor's bay is enabled, plugged and not tripped, the same holds in the next state. For every state in which each
contactor is closed exactly while its bay is enabled, plugged, DOCKED and not tripped with no open request standing,
the same holds in the next state; a bay whose contactor an event left over (log 5) is excepted, and in a state that
leaves nothing over no bay is. -/
def Obligations.StepKeepsLatchWithContactor : Prop :=
  (∀ s t : State, s.LatchFollows → step s = .next t → t.LatchFollows) ∧
  (∀ s t : State, s.ContactorFollows → step s = .next t → t.ContactorFollows)

/-- For every state in which every exit signal shows the aspect of its bay's clearance state, the same holds in the
next state. For every state in which each bay holds at most one lane, a GRANTED one exactly while it is CLEARING or
CLEARED, the wait order holds once each exactly the QUEUED bays and the RECALLED bays that are not held, no bay from
READY to CLEARED is held, and the CLR holds each bay's effective hold set as derived, the same holds in the next state
(a derivation or report that an event left over is excepted, log 5; a revocation under way counts as PREPARING, log
18). -/
def Obligations.StepKeepsSignalWithClearance : Prop :=
  (∀ s t : State, s.SignalFollows → step s = .next t → t.SignalFollows) ∧
  (∀ s t : State, s.LanesSound → step s = .next t → t.LanesSound)

/-- For every state in which ATTN is asserted exactly while at least one flag is set whose kind is ENABLED, the same
holds in the next state. For every state in which the host line carries the reply being sent as SOF, LEN, KIND,
payload and CRC-16, and nothing where no reply is being sent, the same holds in the next state. -/
def Obligations.StepKeepsAttnWithFlags : Prop :=
  (∀ s t : State, s.AttnFollows → step s = .next t → t.AttnFollows) ∧
  (∀ s t : State, s.HostLineFollows → step s = .next t → t.HostLineFollows)

/-- For every state whose departure list holds at most 64 records with distinct ids in nondecreasing scheduled time
and with every field within its range, the next state's list does too. -/
def Obligations.StepKeepsDepartureListOrdered : Prop :=
  ∀ s t : State, s.ListOrdered → step s = .next t → t.ListOrdered

/-- For every state whose hold stacks hold at most 4 saved sets, whose map holds at most 64 entries and whose shed
host part is at most 14, the same holds in the next state. For every state in which each bay holds at most one
precision channel, exactly while its RUNNING run's step is past the queue, its row is quiet exactly then, the queue
holds once each exactly the bays whose step is QUEUED, no channel is free while a bay waits, and a validity timer runs
only on a PASSED or FAILED result, the same holds in the next state. -/
def Obligations.StepKeepsStacksAndMapWithinSizes : Prop :=
  (∀ s t : State, s.WithinSizes → step s = .next t → t.WithinSizes) ∧
  (∀ s t : State, s.ChannelsSound → step s = .next t → t.ChannelsSound)

/-- For every host-link frame f and request i, reading f's KIND and payload gives i exactly when f is the frame
written for i: no bit of a payload is dropped, and no two frames stand for one request. -/
def Obligations.RequestFrameCodecIsExact : Prop :=
  ∀ (f : HostFrame) (i : Instr), decodeRequest f = .ok i ↔ encodeRequest i = some f

/-- In a frame, with both buffer slots free, a received frame whose CRC is that of its LEN, KIND and payload does,
where it encodes request i, what i's row does on the state with the receiver hunting, and is answered REFUSED with
UNKNOWN_KIND or FORMAT, nothing else changed, where it decodes to no request. The CRC-16 takes the bytes in order from
0xFFFF, each most significant bit first with the polynomial 0x1021, and over "123456789" gives 0x29B1. -/
def Obligations.ReceivedRequestActsAsItsRow : Prop :=
  (∀ (i : Instr) (f : HostFrame) (s : State), encodeRequest i = some f → s.hli.inFrame = true →
    s.hli.sending = none → s.hli.held = none →
    exec (.hostFrameReceived f.kind ⟨f.payload, crc16 (frameBody f)⟩) s =
      exec i { s with hli := { s.hli with inFrame := false } }) ∧
  (∀ (why : RefusalReason) (f : HostFrame) (s : State), decodeRequest f = .error why → f.payload.length ≤ 1024 →
    s.hli.inFrame = true → s.hli.sending = none → s.hli.held = none →
    (why = .unknownKind ∨ why = .format) ∧
    exec (.hostFrameReceived f.kind ⟨f.payload, crc16 (frameBody f)⟩) s =
      .next (State.sends { s with hli := { s.hli with inFrame := false } }
        (if f.kind.toNat < 0x80 then f.kind + 0x80 else 0xFF) [3, if why = .unknownKind then 0 else 1])) ∧
  (∀ f : HostFrame, f.payload.length ≤ 1024 → frameBody f =
    [BitVec.ofNat 8 f.payload.length, BitVec.ofNat 8 (f.payload.length / 256), f.kind] ++ f.payload) ∧
  crc16 [] = 0xFFFF ∧ crc16 [0x31, 0x32, 0x33, 0x34, 0x35, 0x36, 0x37, 0x38, 0x39] = 0x29B1 ∧
  (∀ (xs : List Byte) (x : Byte), crc16 (xs ++ [x]) = (List.range 8).foldl
    (fun (c : Word16) _ => if c.getLsbD 15 then (c <<< 1) ^^^ 0x1021 else c <<< 1) (crc16 xs ^^^ (x ++ (0 : Byte))))

/-- In a frame, while a reply is being sent, and with a good CRC: with the other slot free the frame is held and
nothing else changes; with it occupied the buffer keeps what it held, HOST_LINK_ERROR is raised with reason OVERRUN
and no other flag is. While hunting, a completed frame changes nothing, whatever its CRC (log 4). -/
def Obligations.ReceivedFrameIsBufferedOrOverruns : Prop :=
  ∀ (kind : Byte) (payload : List Byte) (crc : Word16) (s : State), payload.length ≤ 1024 →
    (s.hli.inFrame = true → crc16 (frameBody ⟨kind, payload⟩) = crc → ∀ g, s.hli.sending = some g → s.hli.held = none →
      exec (.hostFrameReceived kind ⟨payload, crc⟩) s =
        .next { s with hli := { s.hli with inFrame := false, held := some ⟨kind, payload⟩ } }) ∧
    (s.hli.inFrame = true → crc16 (frameBody ⟨kind, payload⟩) = crc →
      ∀ g h, s.hli.sending = some g → s.hli.held = some h →
      ∃ t, exec (.hostFrameReceived kind ⟨payload, crc⟩) s = .next t ∧ t.given = { s.given with inFrame := false } ∧
        RaisesHallOnly s t .hostLinkError (.hostLink .overrun)) ∧
    (s.hli.inFrame = false → exec (.hostFrameReceived kind ⟨payload, crc⟩) s = .next s)

/-- In a frame, a bad stop bit, a LEN above 1024, a CRC mismatch, told by HOST_FRAME_FAULT or found by comparing the
CRC of a completed frame, or a gap makes the receiver hunt and raises HOST_LINK_ERROR with reason CHARACTER, LENGTH,
CHECK or GAP and no other flag; nothing given changes otherwise and no reply is drawn. While hunting these rows change
nothing (log 4). A SOF character puts a hunting receiver in a frame. -/
def Obligations.FrameFaultsDiscardTheFrame : Prop :=
  (∀ s : State, s.hli.inFrame = true →
    (∃ t, exec (.hostFrameFault .character) s = .next t ∧ t.given = { s.given with inFrame := false } ∧
      RaisesHallOnly s t .hostLinkError (.hostLink .character)) ∧
    (∃ t, exec (.hostFrameFault .length) s = .next t ∧ t.given = { s.given with inFrame := false } ∧
      RaisesHallOnly s t .hostLinkError (.hostLink .length)) ∧
    (∃ t, exec (.hostFrameFault .check) s = .next t ∧ t.given = { s.given with inFrame := false } ∧
      RaisesHallOnly s t .hostLinkError (.hostLink .check)) ∧
    (∃ t, exec .hostFrameGap s = .next t ∧ t.given = { s.given with inFrame := false } ∧
      RaisesHallOnly s t .hostLinkError (.hostLink .gap)) ∧
    (∀ (kind : Byte) (payload : List Byte) (crc : Word16), payload.length ≤ 1024 →
      crc16 (frameBody ⟨kind, payload⟩) ≠ crc →
      ∃ t, exec (.hostFrameReceived kind ⟨payload, crc⟩) s = .next t ∧ t.given = { s.given with inFrame := false } ∧
        RaisesHallOnly s t .hostLinkError (.hostLink .check))) ∧
  (∀ s : State, s.hli.inFrame = false →
    (∀ cause, exec (.hostFrameFault cause) s = .next s) ∧ exec .hostFrameGap s = .next s) ∧
  (∀ s : State, exec .sofCharacter s = .next { s with hli := { s.hli with inFrame := true } })

/-- REPLY_SENT with a reply being sent frees its slot and the line; a held frame that decodes to request i is then
taken as i's row; one that does not is answered REFUSED with UNKNOWN_KIND or FORMAT. With no reply being sent it
changes nothing (log 4). -/
def Obligations.ReplySentTakesTheHeldFrame : Prop :=
  ∀ s : State,
    (s.hli.sending = none → exec .replySent s = .next s) ∧
    (∀ g, s.hli.sending = some g → s.hli.held = none →
      exec .replySent s = .next { s with hli := { s.hli with sending := none, lineOut := [] } }) ∧
    (∀ g f, s.hli.sending = some g → s.hli.held = some f →
      (∀ i, decodeRequest f = .ok i →
        exec .replySent s = exec i { s with hli := { s.hli with sending := none, lineOut := [], held := none } }) ∧
      (∀ why, decodeRequest f = .error why →
        exec .replySent s = .next (State.sends { s with hli := { s.hli with sending := none, lineOut := [], held := none } }
          (replyKind f.kind) [3, if why = .unknownKind then 0 else 1])))

/-- For every KIND that R192 does not list, UNKNOWN_KIND answers REFUSED with reason 0 under KIND + 0x80, or under
0xFF when the KIND is 0x80 or above, and changes nothing else; such a frame decodes to that refusal whatever its
payload. A listed KIND is no such request and changes nothing (log 4). -/
def Obligations.UnknownKindIsRefused : Prop :=
  (∀ (kind : Byte) (s : State), requestKinds.contains kind.toNat = false →
    exec (.unknownKind kind) s = .next (s.sends (if kind.toNat < 0x80 then kind + 0x80 else 0xFF) [3, 0])) ∧
  (∀ (kind : Byte) (payload : List Byte), requestKinds.contains kind.toNat = false →
    decodeRequest ⟨kind, payload⟩ = .error .unknownKind) ∧
  (∀ (kind : Byte) (s : State), requestKinds.contains kind.toNat = true → exec (.unknownKind kind) s = .next s)

/-- Whatever the state, a request row leaves a reply being sent under the request's KIND plus 0x80 with a status of at
most 3, its bytes on the line being SOF, LEN low byte first, KIND, payload and the CRC-16 over LEN, KIND and payload,
low byte first; a BUSY or REFUSED reply means that nothing else changed, and a REFUSED reply carries one reason byte
of at most 8. -/
def Obligations.EveryRequestDrawsOneReply : Prop :=
  ∀ (i : Instr) (f : HostFrame) (s t : State), encodeRequest i = some f → exec i s = .next t →
    ∃ st data, t.hli.sending = some ⟨f.kind + 0x80, st :: data⟩ ∧ st.toNat ≤ 3 ∧
      (let body := bytes16 (BitVec.ofNat 16 (data.length + 1)) ++ [f.kind + 0x80, st] ++ data;
       t.hli.lineOut = [0x7E] ++ body ++ bytes16 (crc16 body)) ∧
      (2 ≤ st.toNat → t = s.sends (f.kind + 0x80) (st :: data)) ∧
      (st.toNat = 3 → ∃ r : Byte, data = [r] ∧ r.toNat ≤ 8)

/-- The host link's IDENT row carries no operand and leaves a reply of KIND 0x81 with status OK, the two codes least
significant byte first and the revision, and changes nothing else. -/
def Obligations.IdentAnswersTheIdentity : Prop :=
  ∀ s : State, exec .ident s = .next (s.sends 0x81 [0, 0xA1, 0x47, 0x16, 0x0D, 3])

/-- Each of these reads answers OK with its data as it stands, or its refusal (RANGE for a setting above 16 or a start
above the list's length, NOT_FOUND for an id without a record), and changes nothing else. A map entry has R192's
layout and a departure record R196's. TIME_READ's clock-set byte is a free value (log 21), a timer that stands between
two whole seconds shows either (log 22), and the places that R202 leaves open, the range of SETTINGS_READ among them,
are the model's (log 19). BUDGET_READ and LANES_READ carry the items R121 and R177 list, in their order, coded as R193
and R202 give; that a bay waiting without an active departure shows time and preference 0 is the model's choice (log
33), and so are the grouping of marks, the units of the lane and plug timers the optional window point and the place
of the open-request byte, the last of each bay's group (log 19). -/
def Obligations.HallReadsAnswerAndChangeNothing : Prop :=
  (∀ s : State,
    exec .timeRead s = .next (s.sends 0x88
      (0 :: bytes32 (BitVec.ofNat 32 s.clock.time) ++ [Config.clockSetCode s.clock.isSet])) ∧
    exec .mapRead s = .next (s.sends 0xA3 (0 :: byte s.map.length :: s.map.flatMap mapEntryData)) ∧
    exec .budgetRead s = .next (s.sends 0xB4 (0 :: budgetData s)) ∧
    exec .lanesRead s = .next (s.sends 0xF2 (0 :: lanesData s)) ∧
    (∀ n : Fin 17, exec (.settingsRead (byte n.val)) s = .next (s.sends 0x86
      (0 :: bytes32 (BitVec.ofNat 32 (s.setting n)) ++ bytes32 (BitVec.ofNat 32 Config.settingRows[n].lo) ++
        bytes32 (BitVec.ofNat 32 Config.settingRows[n].hi) ++
        bytes32 (BitVec.ofNat 32 Config.settingRows[n].default)))) ∧
    (∀ x : Byte, 17 ≤ x.toNat → exec (.settingsRead x) s = .next (s.sends 0x86 [3, 2])) ∧
    (∀ (id : Word16) (d : Departure), s.departureOf id.toNat = some d →
      exec (.departureRead id) s = .next (s.sends 0xD4 (0 :: departureData s d))) ∧
    (∀ id : Word16, s.departureOf id.toNat = none → exec (.departureRead id) s = .next (s.sends 0xD4 [3, 7])) ∧
    (∀ start : Byte, start.toNat ≤ s.departures.length →
      exec (.departureList start) s = .next (s.sends 0xD5 (0 :: byte s.departures.length ::
        byte ((s.departures.drop start.toNat).take 32).length ::
        ((s.departures.drop start.toNat).take 32).flatMap (departureData s)))) ∧
    (∀ start : Byte, s.departures.length < start.toNat →
      exec (.departureList start) s = .next (s.sends 0xD5 [3, 2]))) ∧
  (∀ e : MapEntry, mapEntryData e = bytes16 (BitVec.ofNat 16 e.low) ++ bytes16 (BitVec.ofNat 16 e.high) ++
    [BitVec.ofNat 8 (e.source.getD 0xFF), BitVec.ofNat 8 e.disposition.code, if e.heatStop then 1 else 0]) ∧
  (∀ (s : State) (d : Departure), ∃ m : Byte, departureData s d =
    bytes16 (BitVec.ofNat 16 d.id) ++ [BitVec.ofNat 8 d.bay.val, m] ++ bytes32 (BitVec.ofNat 32 d.time) ++
      bytes16 (BitVec.ofInt 16 (d.target.getD 0)) ++ bytes16 (BitVec.ofNat 16 (d.fleet.getD 0)) ++
      [BitVec.ofNat 8 d.lane.code, BitVec.ofNat 8 d.lead, d.waivers.bits] ∧
    m.getLsbD 0 = d.target.isSome ∧ m.getLsbD 1 = d.fleet.isSome ∧ m.getLsbD 2 = d.lampCheck ∧
    m.getLsbD 3 = d.lateReported ∧ (m.getLsbD 4 = true ↔ (s.dpmAt d.bay).active = some d.id) ∧ m.toNat < 32) ∧
  [Disposition.blocking, .advisory, .ignore].map Disposition.code = [0, 1, 2] ∧
  [LanePreference.a, .b, .either].map LanePreference.code = [0, 1, 2] ∧
  (∀ s : State,
    let num := fun (n : Nat) => BitVec.ofNat 8 n
    let two := fun (n : Nat) => bytes16 (BitVec.ofNat 16 n)
    let four := fun (n : Nat) => bytes32 (BitVec.ofNat 32 n)
    let mark := fun (x : Bool) => if x = true then (1 : Byte) else 0
    let f := s.feeder
    let row := fun (r : GrantRow) => [num r.cls.code] ++
      (match r.rankKey with | none => [0, 0, 0, 0, 0] | some k => 1 :: four k) ++
      [num r.planRequest, num r.requested, num r.granted] ++ two r.power ++
      [mark r.inFlight, num r.failures, num ((mark r.quiet).toNat + 2 * (mark r.linkHeldLost).toNat), num r.commanded,
        num r.lastResult.code]
    budgetData s = two f.budget ++ two f.base ++ two s.grantedLoad ++
      [num f.plugged, num f.shedHost, num f.shedLine, num (f.shedHost + f.shedLine), if f.gateOpen = true then 0 else 1] ++
      four (f.ramp.getD 0xFFFFFFFF) ++
      (match f.stageUp with
        | none => [0, 0, 0, 0, 0, 0, 0, 0, 0, 0]
        | some u => [1, num u.bay.val, num u.count] ++ two u.reference ++
          (match u.phase with | .awaitingReply => 0 :: four 0xFFFFFFFF | .confirming n => 1 :: four n)) ++
      row (s.rowAt 0) ++ row (s.rowAt 1) ++ row (s.rowAt 2) ++ row (s.rowAt 3) ++ row (s.rowAt 4) ++ row (s.rowAt 5) ++
      row (s.rowAt 6) ++ row (s.rowAt 7) ++ row (s.rowAt 8) ++ row (s.rowAt 9) ++ row (s.rowAt 10) ++
      row (s.rowAt 11) ++ row (s.rowAt 12) ++ row (s.rowAt 13) ++ row (s.rowAt 14) ++ row (s.rowAt 15) ∧
    let lane := fun (r : LaneRecord) => [num r.state.code] ++
      (match r.holder with | none => [0, 0] | some b => [1, num b.val]) ++ [mark r.closePending] ++ secLeft r.timer
    let wait := fun (b : BayNo) => match s.activeOf b with
      | none => [num b.val, 0, 0, 0, 0, 0]
      | some d => [num b.val] ++ four d.time ++ [num d.lane.code]
    let bay := fun (c : Clr) => [num c.state.code] ++
      (match c.windowPoint with | none => [0, 0, 0, 0, 0] | some p => 1 :: four p) ++ [mark c.windowOpen] ++
      secLeft c.plugTimer ++ secLeft c.openWait ++ [mark c.openRequest]
    lanesData s = lane s.laneA ++ lane s.laneB ++ [num s.waitOrder.length] ++ s.waitOrder.flatMap wait ++
      bay (s.clrAt 0) ++ bay (s.clrAt 1) ++ bay (s.clrAt 2) ++ bay (s.clrAt 3) ++ bay (s.clrAt 4) ++ bay (s.clrAt 5) ++
      bay (s.clrAt 6) ++ bay (s.clrAt 7) ++ bay (s.clrAt 8) ++ bay (s.clrAt 9) ++ bay (s.clrAt 10) ++
      bay (s.clrAt 11) ++ bay (s.clrAt 12) ++ bay (s.clrAt 13) ++ bay (s.clrAt 14) ++ bay (s.clrAt 15)) ∧
  secLeft none = [0xFF, 0xFF, 0xFF, 0xFF] ∧
  (∀ n : Nat, ∃ k, secLeft (some n) = bytes32 (BitVec.ofNat 32 k) ∧ 1000 * k < n + 1000 ∧ n < 1000 * k + 1000) ∧
  [RowClass.none, .heating, .holding].map RowClass.code = [0, 1, 2] ∧
  [CommandResult.none, .acknowledged, .refused, .failed].map CommandResult.code = [0, 1, 2, 3] ∧
  [LaneState.free, .granted, .passageWait, .closed].map LaneState.code = [0, 1, 2, 3]

/-- Each read that names one bay answers OK with that bay's data as it stands, or RANGE for a bay above 15, and
changes nothing else. BAY_STATUS has the 17 bytes of R195, its overdraw byte within one tenth of the timer (which of
the two neighbours is free, log 22), and HEAT_READ begins with the 44 bytes of R197. The other reads carry the items
that R37, R55, R76, R99, R142 and R160 list, in their order, coded as R193 and R202 give, a timer in whole seconds as
HallReadsAnswerAndChangeNothing pins it (log 22). Model's choices: the attempt-error count's 2 bytes, the grouping of
marks and optional items, the frozen mark as the frozen set's presence byte, a fault memory capacity not known yet as
0 (log 19), the two- and three-byte sets and the waived reasons as a second set (log 20), the unconfirmed pairs in the
order they were formed in (log 41). -/
def Obligations.BayReadsAnswerAndChangeNothing : Prop :=
  (ReadsBay .bayStatus 0x92 bayStatusData ∧ ReadsBay .linkRead 0x93 linkData ∧ ReadsBay .profileRead 0x95 profileData ∧
    ReadsBay .faultsRead 0xA5 faultsData ∧ ReadsBay .heatRead 0xB1 heatData ∧ ReadsBay .lampRead 0xC3 lampData ∧
    ReadsBay .holdsRead 0xE4 holdsData) ∧
  (∀ (s : State) (b : BayNo),
    let f := s.bfeAt b
    ∃ m o : Byte, bayStatusData s b = [BitVec.ofNat 8 b.val, m, o, BitVec.ofNat 8 f.aspect.code] ++
        bytes16 (BitVec.ofNat 16 f.shorePower) ++ bytes16 (BitVec.ofNat 16 (averageOf f.auxVolts)) ++
        bytes16 (BitVec.ofNat 16 (averageOf f.auxAmps)) ++ [BitVec.ofNat 8 (s.clcAt b).link.code] ++
        bytes16 (BitVec.ofNat 16 (s.clcAt b).attemptErrors) ++
        [BitVec.ofNat 8 (s.dkuAt b).state.code, BitVec.ofNat 8 (s.lcsAt b).status.code,
          BitVec.ofNat 8 (s.hplAt b).plan.state.code, BitVec.ofNat 8 (s.clrAt b).state.code] ∧
      m.getLsbD 0 = f.enabled ∧ m.getLsbD 1 = f.presence ∧ m.getLsbD 2 = f.plug ∧
      m.getLsbD 3 = (f.presence || f.plug) ∧ m.getLsbD 4 = (f.plug && !f.presence) ∧ m.getLsbD 5 = f.contactor ∧
      m.getLsbD 6 = f.latch ∧ m.getLsbD 7 = f.tripped ∧
      (f.overdraw = none → o = 0) ∧
      (∀ n, f.overdraw = some n → n ≤ 10000 → 100 * o.toNat < n + 100 ∧ n < 100 * o.toNat + 100)) ∧
  (∀ p : Plan, ∃ m z : Byte, planData p = bytes16 (BitVec.ofNat 16 (p.departure.getD 0)) ++ [m] ++
      bytes16 (BitVec.ofInt 16 (p.target.getD 0)) ++ bytes32 (BitVec.ofNat 32 (p.scheduled.getD 0)) ++
      bytes16 (BitVec.ofInt 16 p.cabinUsed) ++ bytes16 (BitVec.ofInt 16 p.ambientUsed) ++
      bytes32 (BitVec.ofNat 32 p.energy) ++ bytes32 (BitVec.ofNat 32 p.loss) ++ bytes32 (BitVec.ofInt 32 p.netPower) ++
      bytes32 (BitVec.ofNat 32 p.time) ++ bytes16 (BitVec.ofNat 16 p.lead) ++ bytes32 (BitVec.ofNat 32 p.start) ++
      [BitVec.ofNat 8 p.holdingStages] ++ bytes32 (BitVec.ofNat 32 p.holdingPoint) ++ [z, BitVec.ofNat 8 p.state.code,
        BitVec.ofNat 8 ((p.prior.map PlanState.code).getD 0xFF), BitVec.ofNat 8 ((p.endCode.map EndCode.rank).getD 0)] ∧
    m.getLsbD 0 = p.target.isSome ∧ m.getLsbD 1 = p.scheduled.isSome ∧ m.toNat < 4 ∧
    z.getLsbD 0 = p.unreachable ∧ z.getLsbD 1 = p.short ∧ z.getLsbD 2 = p.late ∧ z.getLsbD 3 = p.noHeater ∧
    z.getLsbD 4 = p.defaultCabin ∧ z.toNat < 32 ∧ (planData p).length = 44) ∧
  (∀ f : Bfe, f.shorePower = averageOf f.shore) ∧
  (∀ xs : List Nat, averageOf xs = if xs = [] then 0 else (2 * xs.sum + xs.length) / (2 * xs.length)) ∧
  [Aspect.dark, .red, .amber, .green].map Aspect.code = [0, 1, 2, 3] ∧
  [LinkState.down, .active, .lost].map LinkState.code = [0, 1, 2] ∧
  [DockState.undocked, .probing, .readingDescriptors, .readingFaults, .docked, .dockFailed].map DockState.code =
    [0, 1, 2, 3, 4, 5] ∧
  [LampStatus.notRun, .running, .paused, .passed, .failed, .expired, .aborted].map LampStatus.code =
    [0, 1, 2, 3, 4, 5, 6] ∧
  [PlanState.none, .waiting, .heating, .holding, .suspended, .ended].map PlanState.code = [0, 1, 2, 3, 4, 5] ∧
  [ClearState.outOfService, .empty, .arrived, .docking, .preparing, .ready, .scanning, .queued, .clearing, .cleared,
    .recalled].map ClearState.code = [0, 1, 2, 3, 4, 5, 6, 7, 8, 9, 10] ∧
  (∀ (s : State) (b : BayNo),
    let num := fun (n : Nat) => BitVec.ofNat 8 n
    let two := fun (n : Nat) => bytes16 (BitVec.ofNat 16 n)
    let four := fun (n : Nat) => bytes32 (BitVec.ofNat 32 n)
    let warm := fun (i : Int) => bytes16 (BitVec.ofInt 16 i)
    let bits := fun (xs : List Bool) => xs.foldr (fun x n => (if x = true then 1 else 0) + 2 * n) 0
    let mark := fun (x : Bool) => num (bits [x])
    let one := fun (x : Option Nat) => match x with | none => [0, 0] | some n => [1, num n]
    let pairs := fun (xs : List (Nat × Nat)) => [num xs.length] ++ xs.flatMap (fun x => [num x.1] ++ two x.2)
    let c := s.clcAt b
    linkData s b = [num c.link.code, num c.failures] ++ two c.attemptErrors ++
      (match c.inflight with
        | none => [0, 0, 0, 0]
        | some f => [1, num f.request.code, num (classCode f.cls), num f.attempt]) ++
      one (c.heatSlot.map (fun _ => 0x16)) ++ one (c.lampSlot.map (fun _ => 0x15)) ++ one (c.readSlot.map BayRequest.code) ++
      (if c.pollSlot = true then [1, 0x14] else [0, 0]) ++ four (c.reprobe.getD 0xFFFFFFFF) ++ four (c.poll.getD 0xFFFFFFFF) ++
      (match c.lastStatus with
        | none => [0, 0, 0, 0, 0, 0, 0, 0, 0, 0, 0]
        | some x => [1] ++ four x.time ++ (match x.cabin with | none => [0, 0, 0] | some t => [1] ++ warm t) ++
          [if x.ignition = true then 2 else 1, num (bits [x.heaterStop, x.faultsChanged]), num x.stages]) ∧
    let d := s.dkuAt b
    let p := d.profile
    let walked := d.retained = true ∨ d.state = .readingFaults ∨ d.state = .docked
    let lamp := fun (e : LampEntry) => [num e.circuit, num e.group.code] ++ two e.nominal ++
      [num e.tolerance, mark e.checkable]
    profileData s b = [num d.state.code] ++
      (match d.failure with | none => [0, 0, 0] | some (i, n) => [1, num i, num n]) ++
      (match p.identity with | none => [0, 0, 0, 0, 0] | some i => [1] ++ two i.fleet ++ [1, num i.coachType]) ++
      (match p.heater with | none => [0, 0, 0, 0] | some (n, w) => [1, num n] ++ two w) ++
      (match p.cabin with | none => [0, 0, 0, 0, 0] | some (h, u) => [1] ++ two h ++ two u) ++
      [num p.lamps.length] ++ p.lamps.flatMap lamp ++
      (match p.identity with
        | none => [0, 0]
        | some i => if i.faultMemory = false then [0, 0]
          else [1, num (p.faultCapacity.getD (if walked then 255 else 0))]) ++
      [num (bits [p.clamped, p.duplicate, p.lampsTruncated, p.unknownDescriptor, d.retained]), num d.matching.code,
        mark d.wrongBay, num d.indices.length] ∧
    let f := s.frdAt b
    let fault := fun (e : FaultEntry) => two e.code ++ [num e.source, mark e.active, num e.occurrences] ++
      [num e.firstSeen, num (e.firstSeen / 256), num (e.firstSeen / 65536)] ++
      [num e.lastSeen, num (e.lastSeen / 256), num (e.lastSeen / 65536)] ++
      [num (bits [e.circuit.isSome, e.freeze.isSome]), num (e.circuit.getD 0)] ++
      (match e.freeze with | none => [0, 0, 0, 0] | some (t, v) => warm t ++ two v) ++
      [num e.readIndex, num e.disposition.code, mark e.heatStop, num (bits [e.confirmed, e.isNew])]
    let kinds := fun (k : KindSet) => num (bits [k.docking, k.change, k.departure, k.host])
    let sc := f.scan
    let t := f.table
    faultsData s b = [mark f.retained, num t.entries.length] ++ t.entries.flatMap fault ++
      [num (bits [t.marks.truncated, t.marks.overCapacity, t.marks.badRecord, t.marks.incomplete])] ++ four t.time ++
      [kinds t.kinds, num sc.state.code] ++
      (if sc.state = .idle then [0, 0, 0, 0, 0, 0] else [1, kinds sc.kinds, num sc.limit, num sc.next,
        num sc.shadow.length, num (bits [sc.marks.truncated, sc.restartPending])]) ++
      [kinds f.rescan, num (bits [f.readSinceDocking, f.unreadSinceFailure, f.scanDone, f.linkHeldLost])] ++
      pairs f.unconfirmed ∧
    let h := s.hplAt b
    heatData s b = planData h.plan ++ [num (bits [h.causeLink, h.causeClearing]), num (s.readiness b).code,
        mark h.staleCondition] ++
      (match h.sample with | none => [0, 0, 0, 0, 0, 0, 0] | some (t, at_) => [1] ++ warm t ++ four at_) ++
      [num (bits [h.sample.isNone, h.stale])] ++ secLeft h.staleTimer ++ [mark h.coachStop] ++ warm s.ambient ∧
    let l := s.lcsAt b
    let result := fun (r : LampResult) => [num r.circuit, num r.group.code] ++ two r.nominal ++
      [num r.tolerance, num r.outcome.code] ++ (match r.power with | none => [0, 0, 0] | some w => [1] ++ two w) ++
      [num r.measurements] ++ (match r.time with | none => [0, 0, 0, 0, 0] | some at_ => [1] ++ four at_)
    let holder := fun (c : Fin 4) => one (s.channels[c].map Fin.val)
    (∀ place : Option Nat,
      (b ∉ s.channelQueue ∧ place = none) ∨ (∃ before after, s.channelQueue = before ++ b :: after ∧ b ∉ before ∧
        place = some before.length) →
      lampData s b = [num l.status.code, num (bits [l.reasons.step, l.reasons.ignition, l.reasons.link]), num l.mode.code,
          num l.passes, num l.pass, num l.index, num l.tries, num l.phase.code] ++
        one (l.channel.map Fin.val) ++ one place ++ one l.owed ++
        [num (ignitionCode l.ignition), mark l.linkHeldLost] ++ secLeft l.validity ++ [mark l.retained] ++
        [num l.results.length] ++ l.results.flatMap result ++ [if f.unconfirmed = [] then 0 else 1] ++ pairs f.unconfirmed ++
        holder 0 ++ holder 1 ++ holder 2 ++ holder 3 ++ [num s.channelQueue.length] ++
        s.channelQueue.map (fun x => num x.val)) ∧
    let m := s.dpmAt b
    let autos := fun (a : AutoSet) => [a.outOfService, a.noDeparture, a.notDocked, a.linkLost, a.wrongCoach, a.faultData,
      a.faultBlocking, a.heatNotReady, a.heatFault, a.heatStale, a.lampNotPassed]
    let e := s.effective b
    let all := bits (autos e.auto) + 2048 * e.operator.toNat
    let derived := autoSet m.conditions m.reliance
    let w := m.conditions.waivers
    let waived := 128 * bits [derived.heatNotReady && w.heatNotReady, derived.heatFault && w.heatFault,
      derived.heatStale && w.heatStale, derived.lampNotPassed && w.lampNotPassed]
    let stack := fun (k : HoldStack) => [k.set, num k.saved.length] ++ k.saved
    holdsData s b = [num all, num (all / 256), num (all / 65536)] ++ two (bits (autos derived)) ++ two waived ++
      (if m.frozen = true then [1] ++ two (bits (autos m.frozenSet)) else [0, 0, 0]) ++ [mark m.reliance] ++
      (match m.active with | none => [0, 0, 0] | some id => [1] ++ two id) ++ stack m.operator ++ stack s.hallHold) ∧
  [some TxClass.heat, some .lamp, some .read, some .poll, none].map classCode = [0, 1, 2, 3, 4] ∧
  (∀ (n : Nat) (on : Bool), [BayRequest.ident, .desc n, .fcount, .fread n, .status, .lamp n on, .stage n].map
    BayRequest.code = [0x10, 0x11, 0x12, 0x13, 0x14, 0x15, 0x16]) ∧
  [LampGroup.front, .rear, .side, .interior, .signal, .marker].map LampGroup.code = [0, 1, 2, 3, 4, 5] ∧
  [MatchState.unmatched, .matched, .mismatched].map MatchState.code = [0, 1, 2] ∧
  [Disposition.blocking, .advisory, .ignore].map Disposition.code = [0, 1, 2] ∧
  [ScanState.idle, .counting, .reading, .awaitingLink].map ScanState.code = [0, 1, 2, 3] ∧
  [Readiness.ready, .notReady, .fault].map Readiness.code = [0, 1, 2] ∧
  [EndCode.completed, .undocked, .hostCancel, .stageFail, .coachStop, .overdraw].map EndCode.rank = [1, 2, 3, 4, 5, 6] ∧
  [LampMode.run, .step].map LampMode.code = [0, 1] ∧ [none, some false, some true].map ignitionCode = [0, 1, 2] ∧
  [StepPhase.none, .queued, .quietWait, .baseline, .light, .settle, .lit, .off].map StepPhase.code =
    [0, 1, 2, 3, 4, 5, 6, 7] ∧
  [LampOutcome.pass, .disturbed, .lowSupply, .noResponse, .coachRefused, .high, .low, .open, .notChecked].map
    LampOutcome.code = [0, 1, 2, 3, 4, 5, 6, 7, 8]

/-- From every state EVENTS_FETCH answers OK with the flags as they stood, then each set flag is cleared with count 0
unless its condition still holds (the link LOST, a sensor conflict, a trip, the clock UNSET), in which case it stays
set with its reason and count 0; flags not set stay as they are, ATTN is re-evaluated and nothing else changes. Its
data are the mask, the set hall flags' entries and the groups of the bays with a set flag in bay order, each entry
with code, qualifier, count and reason as R194 codes them; that entries stand in flag-code order is the model's choice
(log 19). -/
def Obligations.EventsFetchTreatsReportedFlags : Prop :=
  (∀ s : State, ∃ t, exec .eventsFetch s = .next t ∧
    t.hli.sending = some ⟨0x83, 0 :: eventsData s⟩ ∧ t.hli.lineOut = frameBytes ⟨0x83, 0 :: eventsData s⟩ ∧
    (∀ b k, (s.flag b k).set = false → t.flag b k = s.flag b k) ∧
    (∀ b k, (s.flag b k).set = true →
      ((k = .link ∧ (s.clcAt b).link = .lost) ∨ (k = .sensor ∧ (s.bfeAt b).plug = true ∧ (s.bfeAt b).presence = false) ∨
        (k = .overdraw ∧ (s.bfeAt b).tripped = true)) → t.flag b k = { s.flag b k with count := 0 }) ∧
    (∀ b k, (s.flag b k).set = true →
      ¬ ((k = .link ∧ (s.clcAt b).link = .lost) ∨
        (k = .sensor ∧ (s.bfeAt b).plug = true ∧ (s.bfeAt b).presence = false) ∨
        (k = .overdraw ∧ (s.bfeAt b).tripped = true)) → (t.flag b k).set = false ∧ (t.flag b k).count = 0) ∧
    (∀ k, (s.hallFlag k).set = false → t.hallFlag k = s.hallFlag k) ∧
    (∀ k, (s.hallFlag k).set = true → k = .clockUnset → s.clock.isSet = false →
      t.hallFlag k = { s.hallFlag k with count := 0 }) ∧
    (∀ k, (s.hallFlag k).set = true → ¬ (k = .clockUnset ∧ s.clock.isSet = false) →
      (t.hallFlag k).set = false ∧ (t.hallFlag k).count = 0) ∧
    t.hli.attn = t.anyEnabledFlag ∧
    { t with flags := s.flags, hallFlags := s.hallFlags, hli := s.hli } = s ∧
    t.hli = { s.hli with sending := t.hli.sending, lineOut := t.hli.lineOut, attn := t.hli.attn }) ∧
  (∀ s : State,
    let entry := fun (code : Nat) (f : Flag) =>
      [BitVec.ofNat 8 (if f.qualifier = true then code + 128 else code), BitVec.ofNat 8 f.count] ++
        bytes16 (BitVec.ofNat 16 f.reason.code)
    let hall := [HallFlag.reset, .clockUnset, .shed, .budget, .lane, .gateUnexpected, .hostLinkError].filter (fun k =>
      (s.hallFlag k).set)
    let flagsOf := fun (b : BayNo) => [BayFlag.dock, .undock, .sensor, .link, .faults, .heat, .lamp, .holds, .clearance,
      .departed, .late, .overdraw, .wrongBay].filter (fun k => (s.flag b k).set)
    let bays := allBays.filter (fun b => decide (flagsOf b ≠ []))
    eventsData s =
      [BitVec.ofNat 8 s.hli.mask.toNat, BitVec.ofNat 8 (s.hli.mask.toNat / 256),
        BitVec.ofNat 8 (s.hli.mask.toNat / 65536)] ++
      [BitVec.ofNat 8 hall.length] ++ hall.flatMap (fun k => entry (13 + k.code.val) (s.hallFlag k)) ++
      [BitVec.ofNat 8 bays.length] ++ bays.flatMap (fun b => [BitVec.ofNat 8 b.val, BitVec.ofNat 8 (flagsOf b).length] ++
        (flagsOf b).flatMap (fun k => entry k.code.val (s.flag b k)))) ∧
  ([BayFlag.dock, .undock, .sensor, .link, .faults, .heat, .lamp, .holds, .clearance, .departed, .late, .overdraw,
      .wrongBay].map (fun k => k.code.val) = [0, 1, 2, 3, 4, 5, 6, 7, 8, 9, 10, 11, 12] ∧
    [HallFlag.reset, .clockUnset, .shed, .budget, .lane, .gateUnexpected, .hostLinkError].map (fun k => k.code.val) =
      [0, 1, 2, 3, 4, 5, 6]) ∧
  ([Reason.plain, .dock false, .dock true, .undock .plugOut, .undock .disabled, .undock .redock, .undock .identity,
      .link .lost, .link .recovered, .link .down, .faults .changed, .faults .unchanged, .faults .failed,
      .faults .reclassified, .heatStale, .lamp .passed, .lamp .failed, .lamp .aborted, .lamp .expired, .lamp .paused,
      .lamp .unconfirmed, .holds true, .holds false, .revoked, .plugTimeout, .reset false, .reset true, .shed false,
      .shed true, .hostLink .character, .hostLink .gap, .hostLink .length, .hostLink .check, .hostLink .overrun,
      .laneTimeout .a, .laneTimeout .b, .gate .a, .gate .b].map Reason.code =
    [0, 0, 1, 0, 1, 2, 3, 0, 1, 2, 0, 1, 2, 3, 0xFF, 0, 1, 2, 3, 4, 5, 0, 1, 11, 12, 0, 1, 0, 1, 0, 1, 2, 3, 4, 0x400,
      0x401, 0, 1] ∧
    (∀ st c, (Reason.heat st (some c)).code = st.code + 256 * c.rank ∧ (Reason.heat st none).code = st.code) ∧
    (∀ st, (Reason.clearance st).code = st.code) ∧
    (∀ st, (Reason.lane .a st).code = 256 * st.code ∧ (Reason.lane .b st).code = 1 + 256 * st.code) ∧
    (∀ id, (Reason.departure id).code = id) ∧ ∀ b : BayNo, (Reason.bay b).code = b.val)

/-- Without a value EVENT_MASK answers OK with the mask and changes nothing else; with one the mask takes its bits 0
to 19, ATTN is asserted exactly while a flag is set whose kind is then ENABLED, the reply carries the mask as it
stands after, and nothing else changes. -/
def Obligations.EventMaskReadsAndReplaces : Prop :=
  ∀ s : State,
    exec (.eventMask none) s = .next (s.sends 0x84 (0 :: field24 s.hli.mask.toNat)) ∧
    ∀ m : BitVec 24, ∃ t, exec (.eventMask (some m)) s = .next t ∧
      t.hli = { s.hli with
        mask := m.setWidth 20, attn := t.anyEnabledFlag,
        sending := some ⟨0x84, 0 :: field24 (m.setWidth 20).toNat⟩
        lineOut := frameBytes ⟨0x84, 0 :: field24 (m.setWidth 20).toNat⟩ } ∧
      { t with hli := s.hli } = s

/-- For every command other than POWER_ON, EVENTS_FETCH, RESTART, HOST_FRAME_RECEIVED and REPLY_SENT, a bay or hall
flag that is set before it is set after it. -/
def Obligations.FlagsStaySetUntilFetchOrRestart : Prop :=
  ∀ (c : Instr) (s t : State), mayClearFlags c = false → exec c s = .next t →
    (∀ b k, (s.flag b k).set = true → (t.flag b k).set = true) ∧
    (∀ k, (s.hallFlag k).set = true → (t.hallFlag k).set = true)

/-- Apart from POWER_ON and the two rows that take a request from a frame: the settings change only by SETTINGS_WRITE,
the clock only by SET_TIME and CLOCK_TICK, the mask only by EVENT_MASK, the map only by MAP_CLEAR, MAP_APPEND and
MAP_INSERT, the ambient only by AMBIENT_SET, the shed host part only by SHED_ENTER and SHED_LEAVE, a bay's operator
holds only by HOLD_PUSH and HOLD_POP, the hall's only by HALL_HOLD_PUSH and HALL_HOLD_POP, a bay's enable state only
by BAY_ENABLE and BAY_DISABLE; no other command, coach or timer touches them. -/
def Obligations.HeldValuesChangeOnlyByTheirCommands : Prop :=
  ∀ (c : Instr) (s t : State), c ≠ .powerOn → c ≠ .replySent → (∀ k p, c ≠ .hostFrameReceived k p) →
    exec c s = .next t →
    ((∀ n v, c ≠ .settingsWrite n v) → t.settings = s.settings) ∧
    ((∀ x, c ≠ .setTime x) → c ≠ .clockTick → t.clock = s.clock) ∧
    ((∀ m, c ≠ .eventMask m) → t.hli.mask = s.hli.mask) ∧
    (c ≠ .mapClear → (∀ e, c ≠ .mapAppend e) → (∀ n e, c ≠ .mapInsert n e) → t.map = s.map) ∧
    ((∀ x, c ≠ .ambientSet x) → t.ambient = s.ambient) ∧
    (c ≠ .shedEnter → c ≠ .shedLeave → t.feeder.shedHost = s.feeder.shedHost) ∧
    ((∀ x r, c ≠ .holdPush x r) → (∀ x, c ≠ .holdPop x) → ∀ b, (t.dpmAt b).operator = (s.dpmAt b).operator) ∧
    ((∀ r, c ≠ .hallHoldPush r) → c ≠ .hallHoldPop → t.hallHold = s.hallHold) ∧
    ((∀ x, c ≠ .bayEnable x) → (∀ x, c ≠ .bayDisable x) → ∀ b, (t.bfeAt b).enabled = (s.bfeAt b).enabled)

/-- For every setting and value, the setting takes the value held within its range; a change then hands on the
budget's recomputation (settings 0 to 2), every bay's plan recomputation in bay order (5 to 9) or the late check of
every record (16), and nothing for any other setting or an equal value; the reply is OK or OK_CLAMPED with the number
and the value taken; every other setting and everything else given is unchanged; a number above 16 is refused with
RANGE. -/
def Obligations.SettingsWriteHoldsTheValueTaken : Prop :=
  (∀ (n : Fin 17) (value : Word32) (s : State),
    let v := clampNat Config.settingRows[n].lo Config.settingRows[n].hi value.toNat
    let users : List Notice :=
      if s.setting n = v then []
      else if n.val ≤ 2 then [.falRecompute]
      else if 5 ≤ n.val ∧ n.val ≤ 9 then allBays.map .hplRecompute
      else if n.val = 16 then [.lateCheck none]
      else []
    let answer := (if v = value.toNat then 0 else 1) :: byte n.val :: bytes32 (BitVec.ofNat 32 v)
    exec (.settingsWrite (byte n.val) value) s = .next
      ((perform ({ s with settings := s.settings.set n.val v n.isLt }, users)).sends 0x85 answer) ∧
    ∃ t, exec (.settingsWrite (byte n.val) value) s = .next t ∧
      t.given = { s.given with settings := s.settings.set n.val v n.isLt, sending := some ⟨0x85, answer⟩ } ∧
      Config.settingRows[n].lo ≤ v ∧ v ≤ Config.settingRows[n].hi) ∧
  (∀ (x : Byte) (value : Word32) (s : State), 17 ≤ x.toNat →
    exec (.settingsWrite x value) s = .next (s.sends 0x85 [3, 2]))

/-- SET_TIME answers OK, the clock takes the value and becomes SET with its phase restarted, and every plan's
recomputation, every window and the late check follow; CLOCK_TICK advances the depot time by one, from 4,294,967,295
to 0, keeping the clock-set state, and every plan's start time, every HOLDING point, every window and the late check
follow. That order is read from R16's table (DEDUCED, log 9). Nothing else given changes. -/
def Obligations.ClockCommandsMoveTheDepotTime : Prop :=
  (∀ (x : Word32) (s : State),
    exec (.setTime x) s = .next ((perform ({ s with clock := ⟨x.toNat, true, 0⟩ },
      allBays.map .hplRecompute ++ allBays.map .clrWindow ++ [.lateCheck none])).sends 0x87 [0]) ∧
    ∃ t, exec (.setTime x) s = .next t ∧
      t.given = { s.given with clock := ⟨x.toNat, true, 0⟩, sending := some ⟨0x87, [0]⟩ }) ∧
  (∀ s : State,
    let u := { s with clock :=
      ⟨if s.clock.time < 4294967295 then s.clock.time + 1 else 0, s.clock.isSet, 0⟩ }
    exec .clockTick s = .next (perform (u,
      allBays.map .hplStart ++ allBays.map .hplPoint ++ allBays.map .clrWindow ++ [.lateCheck none])) ∧
    ∃ t, exec .clockTick s = .next t ∧ t.given = u.given)

/-- A bay above 15 is refused with RANGE; an enabled bay is answered OK and nothing changes; a disabled bay is
answered OK and enabled, the DPM is told, the clearance state set from the sensors, a plugged bay's link comes up and
docking starts, and the budget is recomputed, in this order; nothing else given changes. The state from the sensors is
DOCKING with the plug in, else ARRIVED with a presence, else EMPTY; the signal follows and CLEARANCE is raised. That
setting the state from the sensors changes nothing on a bay that is not OUT_OF_SERVICE (every disabled bay of a run
is) is the reading of the model: DEDUCED, log 31. -/
def Obligations.BayEnableTakesTheBayIntoService : Prop :=
  (∀ (x : Byte) (s : State), 16 ≤ x.toNat → exec (.bayEnable x) s = .next (s.sends 0x90 [3, 2])) ∧
  (∀ (b : BayNo) (s : State), (s.bfeAt b).enabled = true →
    exec (.bayEnable (byte b.val)) s = .next (s.sends 0x90 [0])) ∧
  (∀ (b : BayNo) (s : State), (s.bfeAt b).enabled = false →
    let u := s.modBfe b (fun f => { f with enabled := true })
    exec (.bayEnable (byte b.val)) s = .next ((perform (u,
        [.contactor b, .tellService b, .clrFromSensors b] ++ (if (s.bfeAt b).plug then [.clcUp b, .dkuStart b] else []) ++
          [.falRecompute])).sends 0x90 [0]) ∧
      ∃ t, exec (.bayEnable (byte b.val)) s = .next t ∧ t.given = { u.given with sending := some ⟨0x90, [0]⟩ }) ∧
  (∀ (b : BayNo) (s : State),
    let f := s.bfeAt b
    let st : ClearState := if f.plug = true then .docking else if f.presence = true then .arrived else .empty
    ((s.clrAt b).state = .outOfService → handle (.clrFromSensors b) s =
      ((s.modClr b (fun c => { c with state := st, revoking := false })).modBfe b (fun f => { f with
        aspect := if st = .empty then .dark else .red }), [.raise b .clearance (.clearance st) false])) ∧
    ((s.clrAt b).state ≠ .outOfService → handle (.clrFromSensors b) s = (s, [])))

/-- A bay above 15 is refused with RANGE; a disabled bay is answered OK and nothing changes; an enabled bay that holds
a lane is refused with STATE; any other is disabled with its trip and overdraw timer cleared, and contactor, lamp run,
link, docking, plan, grant and budget, and clearance follow in this order (log 31). The clearance part leaves the wait
order, stops the timers, withdraws the open request, enters OUT_OF_SERVICE with the signal RED, raises CLEARANCE and
ends reliance and freeze. -/
def Obligations.BayDisableTakesTheBayOutOfService : Prop :=
  (∀ (x : Byte) (s : State), 16 ≤ x.toNat → exec (.bayDisable x) s = .next (s.sends 0x91 [3, 2])) ∧
  (∀ (b : BayNo) (s : State), (s.bfeAt b).enabled = false →
    exec (.bayDisable (byte b.val)) s = .next (s.sends 0x91 [0])) ∧
  (∀ (b : BayNo) (s : State), (s.bfeAt b).enabled = true → s.laneA.holder = some b ∨ s.laneB.holder = some b →
    exec (.bayDisable (byte b.val)) s = .next (s.sends 0x91 [3, 4])) ∧
  (∀ (b : BayNo) (s : State), (s.bfeAt b).enabled = true → s.laneA.holder ≠ some b → s.laneB.holder ≠ some b →
    exec (.bayDisable (byte b.val)) s = .next ((perform
      (s.modBfe b (fun f => { f with enabled := false, tripped := false, overdraw := none }),
        [.contactor b, .tellService b, .lcsAbandonRun b, .clcDown b,
          if (s.dkuAt b).retained then .dkuDiscard b else .dkuUndock b .disabled, .hplEnd b .hostCancel,
          .hplForget b, .falEmpty b, .falRecompute, .clrDisable b])).sends 0x91 [0])) ∧
  (∀ (b : BayNo) (s : State), s.laneA.holder ≠ some b → s.laneB.holder ≠ some b →
    let out : State := { s with waitOrder := s.waitOrder.filter (fun x => x != b) }
    handle (.clrDisable b) s =
      ((out.modClr b (fun c => { c with
          state := .outOfService, revoking := false, plugTimer := none, openWait := none, openRequest := false })).modBfe b
        (fun f => { f with aspect := .red }),
        [.raise b .clearance (.clearance .outOfService) false, .contactor b, .tellReliance b, .tellFreeze b false]))

/-- From every state that keeps latch and contactor together: an accepted BAY_DISABLE leaves the bay disabled with its
contactor open and its latch released, and a plug sensor's change to UNPLUGGED leaves it unplugged with its contactor
open and its latch released, whatever the rest of the event does. -/
def Obligations.DisableAndPlugOutOpenTheContactor : Prop :=
  ∀ (b : BayNo) (s : State), s.LatchFollows →
    ((s.bfeAt b).enabled = true → s.laneA.holder ≠ some b → s.laneB.holder ≠ some b →
      ∃ t, exec (.bayDisable (byte b.val)) s = .next t ∧ (t.bfeAt b).enabled = false ∧
        (t.bfeAt b).contactor = false ∧ (t.bfeAt b).latch = false) ∧
    ((s.bfeAt b).plug = true → (s.bfeAt b).plugTimer ≠ none →
      ∃ t, exec (.plugChange b) s = .next t ∧ (t.bfeAt b).plug = false ∧
        (t.bfeAt b).contactor = false ∧ (t.bfeAt b).latch = false)

/-- RANGE above bay 15, NOT_ENABLED on a disabled bay, STATE on an unplugged bay, STATE in CLEARING, each changing
nothing; any other case is answered OK, and the session discard, the undocking with reason REDOCK, the clearing of the
trip and the docking start follow in this order. Undocking empties the session and hands on R52's list; docking start
discards a retained session, clears a trip and begins an empty session in PROBING with an IDENT (log 29); IDENT, DESC
and STATUS results lead to the walk, a chain error, DOCKED or re-identification; a FAILED read is repeated or held; a
descriptor is clamped, a second one ignored as DUPLICATE, an unknown one, or one whose body is too short, as
UNKNOWN_DESCRIPTOR (log 16). The match state compares the active departure's fleet number with the profile's on a
DOCKED bay; WRONG_BAY marks a DOCKED bay without a match whose coach a record for another bay expects, raised with the
earliest such record's bay when the mark becomes set; both stand still for a retained session. The committed docking
scan draws the STATUS; a recovery draws the IDENT of a DOCKED bay, or the read a docking bay holds; the plug-out in
CLEARING retains the session, the marks and the match state frozen as they stand (log 30). -/
def Obligations.RedockActsInOrder : Prop :=
  (∀ (x : Byte) (s : State), 16 ≤ x.toNat → exec (.redock x) s = .next (s.sends 0x94 [3, 2])) ∧
  (∀ (b : BayNo) (s : State),
    ((s.bfeAt b).enabled = false → exec (.redock (byte b.val)) s = .next (s.sends 0x94 [3, 3])) ∧
    ((s.bfeAt b).enabled = true → (s.bfeAt b).plug = false ∨ (s.clrAt b).state = .clearing →
      exec (.redock (byte b.val)) s = .next (s.sends 0x94 [3, 4])) ∧
    ((s.bfeAt b).enabled = true → (s.bfeAt b).plug = true → (s.clrAt b).state ≠ .clearing →
      exec (.redock (byte b.val)) s = .next
        ((perform (s, [.clcDiscard b, .dkuUndock b .redock, .clearTrip b, .dkuStart b])).sends 0x94 [0]))) ∧
  (∀ (b : BayNo) (why : UndockReason) (s : State),
    ((s.dkuAt b).state = .undocked → handle (.dkuUndock b why) s = (s, [])) ∧
    ((s.dkuAt b).state ≠ .undocked → handle (.dkuUndock b why) s = (s.modDku b (fun _ => .reset),
      [.contactor b, .clearTrip b, .lcsUndock b, .frdClear b, .tellScan b, .hplUndock b, .falUndock b, .clcStopPoll b,
        .tellDock b, .clrUndocked b why, .raise b .undock (.undock why) false]))) ∧
  (∀ (b : BayNo) (s : State),
    handle (.dkuStart b) s =
      (s, [.dkuDiscard b, .clearTrip b, .hplSessionStart b, .lcsSessionStart b, .falEmpty b, .dkuBegin b]) ∧
    ((s.dkuAt b).retained = true → handle (.dkuDiscard b) s =
      (s.modDku b (fun _ => .reset), [.contactor b, .frdClear b, .tellScan b, .lcsUndock b, .tellDock b])) ∧
    ((s.dkuAt b).retained = false → handle (.dkuDiscard b) s = (s, [])) ∧
    handle (.clearTrip b) s = (if (s.bfeAt b).tripped then
      (s.modBfe b (fun f => { f with tripped := false, overdraw := none }), [.contactor b]) else (s, [])) ∧
    handle (.dkuBegin b) s =
      ((s.modDku b (fun _ => { Dku.reset with state := .probing })).modClc b (fun c => { c with attemptErrors := 0 }),
        [.contactor b, .tellDock b, .dkuSubmit b .ident]) ∧
    ∀ r : BayRequest,
      ((s.clcAt b).link = .active → (s.clcAt b).readSlot = none → handle (.dkuSubmit b r) s =
        ((s.modClc b (fun c => c.submitRead r)).modDku b (fun d => { d with read := some (r, true) }), [])) ∧
      ((s.clcAt b).link ≠ .active ∨ (s.clcAt b).readSlot ≠ none → handle (.dkuSubmit b r) s =
        (s.modDku b (fun d => { d with read := some (r, false) }), []))) ∧
  (∀ (b : BayNo) (fleet coachType : Nat) (memory : Bool) (s : State), (s.dkuAt b).read = some (.ident, true) →
    let go := handle (.dkuResult b .ident (.done (.ident fleet coachType memory))) s
    ((s.dkuAt b).state = .probing → go = (s.modDku b (fun d => { d with
        profile := { d.profile with identity := some ⟨fleet, coachType, memory⟩ }, state := .readingDescriptors
        read := none }), [.tellDock b, .dkuSubmit b (.desc 0)])) ∧
    (∀ i, (s.dkuAt b).state = .docked → (s.dkuAt b).profile.identity = some i →
      go = (s.modDku b (fun d => { d with read := none }),
        if i.fleet = fleet then [.falRecovered b, .hplDropLink b, .lcsRecovered b, .frdRecovered b]
        else [.clcDiscard b, .dkuUndock b .identity, .dkuStart b]))) ∧
  (∀ (b : BayNo) (i kind n : Nat) (body : List Byte) (s : State), (s.dkuAt b).read = some (.desc i, true) →
    (s.dkuAt b).state = .readingDescriptors →
    let go := handle (.dkuResult b (.desc i) (.done (.desc kind n body))) s
    let is := (s.dkuAt b).indices ++ [i]
    let p := (s.dkuAt b).profile.applyDescriptor kind body
    (n = 255 → go = (s.modDku b (fun d => { d with indices := is, profile := p, read := none, state := .readingFaults }),
      [.tellDock b, .frdRequest b .docking])) ∧
    (n < 64 → n ∉ is → go = (s.modDku b (fun d => { d with indices := is, profile := p, read := none }),
      [.dkuSubmit b (.desc n)])) ∧
    (n ≠ 255 → 64 ≤ n ∨ n ∈ is → go = (s.modDku b (fun d => { d with
        indices := is, read := none, state := .dockFailed, failure := some (i, n)
        profile := { Profile.empty with identity := (s.dkuAt b).profile.identity } }),
      [.tellDock b, .raise b .dock (.dock true) false]))) ∧
  (∀ (b : BayNo) (cabin : Option Int) (ignition stop changed : Bool) (n : Nat) (s : State),
    (s.dkuAt b).read = some (.status, true) → (s.dkuAt b).state = .readingFaults →
    let in_ := s.modDku b (fun d => { d with state := .docked, read := none, indices := [] })
    handle (.dkuResult b .status (.done (.status cabin ignition stop changed n))) s =
      ((in_.modClc b (fun c => { c with poll := some (s.setting 4 * 1000) })).modDku b (fun d =>
          { d with matching := in_.matchState b }),
        [.frdTakeRescan b, .falDocked b, .contactor b, .dkuWrongBay b, .hplDocked b, .lcsDocked b, .tellDock b,
          .clrDocked b, .raise b .dock (.dock false) false])) ∧
  (∀ (b : BayNo) (r : BayRequest) (s : State), (s.dkuAt b).read = some (r, true) →
    handle (.dkuResult b r .failed) s = (if (s.clcAt b).link = .active then (s, [.dkuSubmit b r])
      else (s.modDku b (fun d => { d with read := some (r, false) }), []))) ∧
  (∀ (p : Profile) (n w : Byte) (rest : List Byte),
    let q := p.applyDescriptor 1 (n :: w :: rest)
    (q.clamped = true ↔ p.clamped = true ∨ n.toNat < 1 ∨ 8 < n.toNat ∨ w.toNat < 5 ∨ 120 < w.toNat) ∧
    (p.heater = none →
      q = { p with heater := some (max 1 (min 8 n.toNat), max 5 (min 120 w.toNat)), clamped := q.clamped }) ∧
    (p.heater ≠ none → q = { p with duplicate := true, clamped := q.clamped })) ∧
  (∀ (p : Profile) (c0 c1 u0 u1 : Byte) (rest : List Byte),
    let q := p.applyDescriptor 2 (c0 :: c1 :: u0 :: u1 :: rest)
    let c := c0.toNat + 256 * c1.toNat
    let u := u0.toNat + 256 * u1.toNat
    (q.clamped = true ↔ p.clamped = true ∨ c < 50 ∨ 2000 < c ∨ u < 20 ∨ 1000 < u) ∧
    (p.cabin = none → q = { p with cabin := some (max 50 (min 2000 c), max 20 (min 1000 u)), clamped := q.clamped }) ∧
    (p.cabin ≠ none → q = { p with duplicate := true, clamped := q.clamped })) ∧
  (∀ (p : Profile) (c g n0 n1 t ch : Byte) (rest : List Byte),
    let q := p.applyDescriptor 3 (c :: g :: n0 :: n1 :: t :: ch :: rest)
    let n := n0.toNat + 256 * n1.toNat
    let k := min 63 c.toNat
    (6 ≤ g.toNat → q = { p with unknownDescriptor := true }) ∧
    (∀ group, [LampGroup.front, .rear, .side, .interior, .signal, .marker][g.toNat]? = some group →
      (q.clamped = true ↔ p.clamped = true ∨ 63 < c.toNat ∨ n < 10 ∨ 2000 < n ∨ t.toNat < 5 ∨ 50 < t.toNat) ∧
      (k ∈ p.lamps.map LampEntry.circuit → q = { p with duplicate := true, clamped := q.clamped }) ∧
      (k ∉ p.lamps.map LampEntry.circuit → p.lamps.length < 48 → q = { p with
        lamps := p.lamps ++ [⟨k, group, max 10 (min 2000 n), max 5 (min 50 t.toNat), ch.toNat != 0⟩]
        clamped := q.clamped }) ∧
      (k ∉ p.lamps.map LampEntry.circuit → 48 ≤ p.lamps.length →
        q = { p with lampsTruncated := true, clamped := q.clamped }))) ∧
  (∀ (p : Profile) (c : Byte) (rest : List Byte),
    let q := p.applyDescriptor 4 (c :: rest)
    (q.clamped = true ↔ p.clamped = true ∨ c.toNat < 1) ∧
    (p.faultCapacity = none → q = { p with faultCapacity := some (max 1 c.toNat), clamped := q.clamped }) ∧
    (p.faultCapacity ≠ none → q = { p with duplicate := true, clamped := q.clamped })) ∧
  (∀ (p : Profile) (kind : Nat) (body : List Byte), kind ∉ [1, 2, 3, 4] →
    p.applyDescriptor kind body = { p with unknownDescriptor := true }) ∧
  (∀ (p : Profile) (kind : Nat) (body : List Byte),
    (kind = 1 ∧ body.length < 2) ∨ (kind = 2 ∧ body.length < 4) ∨ (kind = 3 ∧ body.length < 6) ∨
        (kind = 4 ∧ body.length < 1) →
      p.applyDescriptor kind body = { p with unknownDescriptor := true }) ∧
  (∀ (b : BayNo) (s : State),
    let d := s.dkuAt b
    let fleet := d.profile.identity.map Identity.fleet
    let elsewhere := fun (x : Departure) => x.bay ≠ b ∧ x.fleet ≠ none ∧ x.fleet = fleet
    (d.state ≠ .docked ∨ (∀ x, s.activeOf b = some x → x.fleet = none) → s.matchState b = .unmatched) ∧
    (∀ x n, d.state = .docked → s.activeOf b = some x → x.fleet = some n →
      s.matchState b = if fleet = some n then .matched else .mismatched) ∧
    (d.retained = true → handle (.dkuMatch b) s = (s, []) ∧ handle (.dkuWrongBay b) s = (s, [])) ∧
    (d.retained = false →
      handle (.dkuMatch b) s = (s.modDku b (fun d => { d with matching := s.matchState b }),
        (if s.matchState b = d.matching then [] else [.tellDock b]) ++ [.dkuWrongBay b]) ∧
      (d.state ≠ .docked ∨ d.matching = .matched ∨ (∀ x ∈ s.departures, ¬ elsewhere x) →
        handle (.dkuWrongBay b) s = (s.modDku b (fun d => { d with wrongBay := false }), [])) ∧
      ∀ before x after, s.departures = before ++ x :: after → (∀ y ∈ before, ¬ elsewhere y) → elsewhere x →
        d.state = .docked → d.matching ≠ .matched → handle (.dkuWrongBay b) s =
          (s.modDku b (fun d => { d with wrongBay := true }),
            if d.wrongBay = true then [] else [.raise b .wrongBay (.bay x.bay) false])) ∧
    (d.state = .readingFaults → handle (.dkuScanCommitted b) s = (s, [.dkuSubmit b .status])) ∧
    (d.state ≠ .readingFaults → handle (.dkuScanCommitted b) s = (s, [])) ∧
    (d.state = .docked → handle (.dkuRecovered b) s = (s, [.dkuSubmit b .ident])) ∧
    (∀ r, d.state = .probing ∨ d.state = .readingDescriptors ∨ d.state = .readingFaults → d.read = some (r, false) →
      handle (.dkuRecovered b) s = (s, [.dkuSubmit b r])) ∧
    (d.state = .undocked ∨ d.state = .dockFailed ∨ (d.state ≠ .docked ∧ ∀ r, d.read ≠ some (r, false)) →
      handle (.dkuRecovered b) s = (s, [])) ∧
    (∀ r x, d.read ≠ some (r, true) → handle (.dkuResult b r x) s = (s, [])) ∧
    handle (.dkuRetain b) s =
      (s.modDku b (fun d => { d with state := .undocked, read := none, indices := [], retained := true }),
        [.contactor b, .clcStopPoll b, .frdRetain b, .lcsRetain b, .tellDock b]))

/-- MAP_CLEAR empties the map; MAP_APPEND adds the entry after the last; MAP_INSERT puts it at the position carried;
each is answered OK and nothing else given changes. An entry with code low above code high, a source that is neither 0
to 31 nor 0xFF, a disposition above 2 or a heat-stop above 1 is refused with RANGE, then a full map with FULL, then a
position above the count with RANGE. The entry has the codes, the source (0xFF for any), the disposition and the heat-
stop carried. A change hands on, bay by bay (log 28), the new classification of the committed table, with CHANGE
requested for a truncated one, RECLASSIFIED raised where a disposition or heat-stop changed, the DPM told and the
heat-stop test made, and that of the shadow, or the restart of a truncated scan. -/
def Obligations.MapRequestsChangeTheMap : Prop :=
  (∀ s : State, ∃ t, exec .mapClear s = .next t ∧
    t.given = { s.given with map := [], sending := some ⟨0xA0, [0]⟩ } ∧ (s.map = [] → t = s.sends 0xA0 [0])) ∧
  (∀ w : MapWords, mapEntryOf w = none ↔
    w.high.toNat < w.low.toNat ∨ (32 ≤ w.source.toNat ∧ w.source.toNat ≠ 255) ∨ 3 ≤ w.disposition.toNat ∨
      2 ≤ w.heatStop.toNat) ∧
  (∀ (w : MapWords) (s : State), mapEntryOf w = none →
    exec (.mapAppend w) s = .next (s.sends 0xA1 [3, 2]) ∧
    ∀ p, exec (.mapInsert p w) s = .next (s.sends 0xA2 [3, 2])) ∧
  (∀ (w : MapWords) (e : MapEntry) (s : State), mapEntryOf w = some e → 64 ≤ s.map.length →
    exec (.mapAppend w) s = .next (s.sends 0xA1 [3, 5]) ∧
    ∀ p, exec (.mapInsert p w) s = .next (s.sends 0xA2 [3, 5])) ∧
  (∀ (w : MapWords) (e : MapEntry) (s : State), mapEntryOf w = some e → s.map.length < 64 →
    (∃ t, exec (.mapAppend w) s = .next t ∧
      t.given = { s.given with map := s.map ++ [e], sending := some ⟨0xA1, [0]⟩ }) ∧
    ∀ p : Byte,
      (s.map.length < p.toNat → exec (.mapInsert p w) s = .next (s.sends 0xA2 [3, 2])) ∧
      (p.toNat ≤ s.map.length → ∃ t, exec (.mapInsert p w) s = .next t ∧
        t.given = { s.given with
          map := s.map.take p.toNat ++ e :: s.map.drop p.toNat, sending := some ⟨0xA2, [0]⟩ })) ∧
  (∀ (w : MapWords) (e : MapEntry), mapEntryOf w = some e →
    e.low = w.low.toNat ∧ e.high = w.high.toNat ∧
    e.source = (if w.source.toNat = 255 then none else some w.source.toNat) ∧
    [Disposition.blocking, .advisory, .ignore][w.disposition.toNat]? = some e.disposition ∧
    (e.heatStop = true ↔ w.heatStop.toNat = 1)) ∧
  (∀ s : State,
    let hands : List Notice := allBays.flatMap (fun b => [.frdReclassify b, .frdReshadow b])
    (s.map ≠ [] → exec .mapClear s = .next ((perform ({ s with map := [] }, hands)).sends 0xA0 [0])) ∧
    ∀ (w : MapWords) (e : MapEntry), mapEntryOf w = some e → s.map.length < 64 →
      exec (.mapAppend w) s = .next ((perform ({ s with map := s.map ++ [e] }, hands)).sends 0xA1 [0]) ∧
      ∀ p : Byte, p.toNat ≤ s.map.length → exec (.mapInsert p w) s = .next
        ((perform ({ s with map := s.map.take p.toNat ++ e :: s.map.drop p.toNat }, hands)).sends 0xA2 [0])) ∧
  (∀ (b : BayNo) (s : State),
    let f := s.frdAt b
    let anew := fun (es : List FaultEntry) => rankSort (es.map (fun e => { e with
      disposition := (classify s.map e.code e.source).1, heatStop := (classify s.map e.code e.source).2 }))
    let entries := anew f.table.entries
    let marks := if f.table.marks.truncated = true then { f.table.marks with truncated := false, incomplete := true }
      else f.table.marks
    (f.retained = true ∨ (f.table.entries = [] ∧ f.table.marks.truncated = false) →
      handle (.frdReclassify b) s = (s, [])) ∧
    (f.retained = false → f.table.entries ≠ [] ∨ f.table.marks.truncated = true → handle (.frdReclassify b) s =
      (s.modFrd b (fun f => { f with table := { f.table with entries := entries, marks := marks } }),
        (if f.table.marks.truncated = true then [.frdRequest b .change] else []) ++
        (if ∃ e ∈ entries, ∀ o ∈ f.table.entries, ¬ (o.source = e.source ∧ o.code = e.code ∧
            o.disposition = e.disposition ∧ o.heatStop = e.heatStop) then
          [.raise b .faults (.faults .reclassified) false] else []) ++ [.tellScan b, .frdHeatStop b])) ∧
    (f.scan.state = .idle ∨ (f.scan.state = .awaitingLink ∧ f.scan.marks.truncated = true) →
      handle (.frdReshadow b) s = (s, [])) ∧
    (f.scan.state ≠ .idle → f.scan.marks.truncated = false → handle (.frdReshadow b) s =
      (s.modFrd b (fun f => { f with scan := { f.scan with shadow := anew f.scan.shadow } }), [])) ∧
    (f.scan.state = .counting ∨ f.scan.state = .reading → f.scan.marks.truncated = true → handle (.frdReshadow b) s =
      (s.modFrd b (fun f => { f with scan := { f.scan with restartPending := true } }), [])) ∧
    handle (.frdHeatStop b) s = (s,
      if ∃ e ∈ f.table.entries, e.active = true ∧ e.heatStop = true then [.hplEnd b .coachStop] else []))

/-- RANGE above bay 15, NOT_ENABLED on a disabled bay, STATE unless DOCKED, each changing nothing; any other case is
answered OK and a scan of kind HOST is requested. A request begins a scan from IDLE, commits at once for a coach
without fault memory, and else joins the rescan mark; the count sets the read limit; a record is checked, merged,
added, or judged against a full table; the commit makes its table, marks and notices in order; a failure discards the
shadow and waits for the link; a session's end clears or retains what the FRD holds. Model's choices: read limit and
next index of a scan that counts are 0, and in AWAITING_LINK they stay as they stood (log 7); a plug-out in CLEARING
keeps the link-held-lost mark (log 39); the order of the unconfirmed pairs (log 41); a rescan mark that step 11 finds
with a scan begun (log 37). With restart-pending set a result on an ACTIVE link begins the scan anew with its kinds; a
result of no outstanding read is not taken. The recovery begins a failed scan or the rescan; a rescan is taken up from
IDLE with the link not held lost, unless it waits for DOCKED. A change notice clears DEPARTURE_SCAN_DONE, moves the
kind DEPARTURE of a scan in progress to the rescan mark and requests a CHANGE scan. A freeze frame is read as R200
lays it out, and one that is cut short, like a circuit reference cut short or above 63, sets BAD_RECORD. -/
def Obligations.FaultScanRequestsAHostScan : Prop :=
  (∀ (x : Byte) (s : State), 16 ≤ x.toNat → exec (.faultScan x) s = .next (s.sends 0xA4 [3, 2])) ∧
  (∀ (b : BayNo) (s : State),
    ((s.bfeAt b).enabled = false → exec (.faultScan (byte b.val)) s = .next (s.sends 0xA4 [3, 3])) ∧
    ((s.bfeAt b).enabled = true → (s.dkuAt b).state ≠ .docked →
      exec (.faultScan (byte b.val)) s = .next (s.sends 0xA4 [3, 4])) ∧
    ((s.bfeAt b).enabled = true → (s.dkuAt b).state = .docked →
      exec (.faultScan (byte b.val)) s = .next ((perform (s, [.frdRequest b .host])).sends 0xA4 [0]))) ∧
  (∀ (b : BayNo) (k : ScanKind) (s : State),
    let f := s.frdAt b
    let absent := ∃ i, (s.dkuAt b).profile.identity = some i ∧ i.faultMemory = false
    let waits := ((s.dkuAt b).state = .readingFaults ∧ f.readSinceDocking = true) ∨ f.scan.state ≠ .idle ∨
      f.linkHeldLost = true
    (absent → handle (.frdRequest b k) s = frdCommit b [] .clear (KindSet.none.add k) s) ∧
    (¬ absent → waits → handle (.frdRequest b k) s =
      (s.modFrd b (fun f => { f with rescan := f.rescan.add k }), [])) ∧
    (¬ absent → ¬ waits → handle (.frdRequest b k) s =
      ((s.modFrd b (fun f => { f with
          scan := ⟨.counting, KindSet.none.add k, 0, 0, [], .clear, false⟩ })).modClc b (fun c =>
        c.submitRead .fcount), []))) ∧
  [ScanKind.docking, .change, .departure, .host].map KindSet.none.add =
    [⟨true, false, false, false⟩, ⟨false, true, false, false⟩, ⟨false, false, true, false⟩,
      ⟨false, false, false, true⟩] ∧
  (∀ (b : BayNo) (n : Nat) (s : State),
    let sc := (s.frdAt b).scan
    let cap := (s.dkuAt b).profile.faultCapacity.getD 255
    let m := { sc.marks with overCapacity := sc.marks.overCapacity || decide (cap < n) }
    let go := handle (.frdResult b .fcount (.done (.fcount n))) s
    sc.state = .counting →
      (sc.restartPending = false → min n cap = 0 → go = frdCommit b [] m sc.kinds s) ∧
      (sc.restartPending = false → min n cap ≠ 0 → go =
        ((s.modFrd b (fun f => { f with
            scan := { sc with state := .reading, limit := min n cap, next := 0, marks := m } })).modClc b (fun c =>
          c.submitRead (.fread 0)), [])) ∧
      (sc.restartPending = true → go =
        ((s.modFrd b (fun f => { f with scan := ⟨.counting, sc.kinds, 0, 0, [], .clear, false⟩ })).modClc b (fun c =>
          c.submitRead .fcount), []))) ∧
  (∀ (b : BayNo) (payload : List Byte) (s : State),
    let sc := (s.frdAt b).scan
    let u := sc.take s.map sc.next payload
    let go := handle (.frdResult b (.fread sc.next) (.done (.fread payload))) s
    sc.state = .reading → sc.restartPending = false →
      (sc.next + 1 < sc.limit → go =
        ((s.modFrd b (fun f => { f with scan := { u with next := sc.next + 1 } })).modClc b (fun c =>
          c.submitRead (.fread (sc.next + 1))), [])) ∧
      (sc.limit ≤ sc.next + 1 → go = frdCommit b u.shadow u.marks sc.kinds s)) ∧
  (∀ (sc : Scan) (map : List MapEntry) (i : Nat) (payload : List Byte),
    (faultRecordOf payload = none → sc.take map i payload = { sc with marks := { sc.marks with badRecord := true } }) ∧
    (∀ r, faultRecordOf payload = some r →
      let m := { sc.marks with badRecord := sc.marks.badRecord || r.bad }
      let e : FaultEntry := ⟨r.code, r.source, r.active, r.occurrences, r.firstSeen, r.lastSeen, r.circuit, r.freeze, i,
        (classify map r.code r.source).1, (classify map r.code r.source).2, false, false⟩
      (∀ x, sc.shadow.find? (fun y => y.source == r.source && y.code == r.code) = some x → sc.take map i payload =
        { sc with
          marks := m
          shadow := rankInsert { x with
              occurrences := min (x.occurrences + r.occurrences) 255, active := x.active || r.active
              firstSeen := min x.firstSeen r.firstSeen, lastSeen := max x.lastSeen r.lastSeen
              circuit := if x.lastSeen < r.lastSeen then r.circuit else x.circuit
              freeze := if x.lastSeen < r.lastSeen then r.freeze else x.freeze }
            (sc.shadow.filter (fun y => !(y.source == r.source && y.code == r.code))) }) ∧
      (sc.shadow.find? (fun y => y.source == r.source && y.code == r.code) = none →
        (sc.shadow.length < 32 → sc.take map i payload = { sc with marks := m, shadow := rankInsert e sc.shadow }) ∧
        ∀ upper low, sc.shadow = upper ++ [low] → 32 ≤ sc.shadow.length → sc.take map i payload =
          { sc with
            marks := { m with truncated := true }
            shadow := if e.above low = true then rankInsert e upper else sc.shadow }))) ∧
  (∀ (c0 c1 src st occ f0 f1 f2 l0 l1 l2 fl : Byte) (rest : List Byte),
    let read := faultRecordOf (c0 :: c1 :: src :: st :: occ :: f0 :: f1 :: f2 :: l0 :: l1 :: l2 :: fl :: rest)
    (read = none ↔ 31 < src.toNat ∨ 1 < st.toNat) ∧
    ∀ r, read = some r → r.code = c0.toNat + 256 * c1.toNat ∧ r.source = src.toNat ∧ (r.active = true ↔ st.toNat = 1) ∧
      r.occurrences = max occ.toNat 1 ∧ r.firstSeen = f0.toNat + 256 * f1.toNat + 65536 * f2.toNat ∧
      r.lastSeen = l0.toNat + 256 * l1.toNat + 65536 * l2.toNat ∧
      (fl.getLsbD 0 = false → r.circuit = none) ∧
      (∀ c more, fl.getLsbD 0 = true → rest = c :: more →
        (c.toNat ≤ 63 → r.circuit = some c.toNat) ∧ (63 < c.toNat → r.circuit = none ∧ r.bad = true)) ∧
      (fl.getLsbD 0 = true → rest = [] → r.circuit = none ∧ r.bad = true) ∧
      (let frame := if fl.getLsbD 0 = true then rest.drop 1 else rest
        let fits := fl.getLsbD 0 = true → ∃ c more, rest = c :: more ∧ c.toNat ≤ 63
        (fl.getLsbD 1 = false → r.freeze = none ∧ (r.bad = true ↔ ¬ fits)) ∧
        (fl.getLsbD 1 = true → frame.length < 4 → r.freeze = none ∧ r.bad = true) ∧
        ∀ t0 t1 v0 v1 more, fl.getLsbD 1 = true → frame = t0 :: t1 :: v0 :: v1 :: more →
          let t := t0.toNat + 256 * t1.toNat
          r.freeze = some (if t < 32768 then (t : Int) else t - 65536, v0.toNat + 256 * v1.toNat) ∧
          (r.bad = true ↔ ¬ fits))) ∧
  (∀ (b : BayNo) (shadow : List FaultEntry) (m : TableMarks) (kinds : KindSet) (s : State),
    let f := s.frdAt b
    let sorted := rankSort (shadow.map (fun e => { e with
      disposition := (classify s.map e.code e.source).1, heatStop := (classify s.map e.code e.source).2 }))
    let entries := sorted.map (fun e => { e with
      isNew := decide (∀ o ∈ f.table.entries, ¬ (o.source = e.source ∧ o.code = e.code))
      confirmed := decide (∃ c ∈ e.circuit, f.verdicts[c]? = some .failed) })
    let bare : FaultEntry → FaultEntry := fun e => { e with readIndex := 0, isNew := false, confirmed := false }
    let open_ := (entries.filter (fun e => e.active && decide (∃ c ∈ e.circuit, f.verdicts[c]? = some .passed))).map
      (fun e => (e.source, e.code))
    frdCommit b shadow m kinds s =
      (s.modFrd b (fun f => { f with
          table := ⟨entries, m, s.clock.time, kinds⟩, scan := .idle, readSinceDocking := true
          unreadSinceFailure := false, scanDone := f.scanDone || kinds.departure, unconfirmed := open_ }),
        (if ∃ p ∈ open_, p ∉ f.unconfirmed then [.raise b .lamp (.lamp .unconfirmed) true] else []) ++
          [.frdHeatStop b, .tellScan b] ++ (if kinds.docking then [.dkuScanCommitted b] else []) ++
          (if kinds.departure then [.clrScanCommitted b] else []) ++
          (if f.table.entries.length = entries.length ∧ (∀ e ∈ entries, ∃ o ∈ f.table.entries, bare o = bare e) ∧
              f.table.marks = m then
            (if kinds.host then [.raise b .faults (.faults .unchanged) false] else [])
          else [.raise b .faults (.faults .changed) false]) ++ [.frdTakeRescan b])) ∧
  (∀ (b : BayNo) (r : BayRequest) (s : State),
    let f := s.frdAt b
    let fails : Reaction := (s.modFrd b (fun f => { f with
        scan := { f.scan with state := .awaitingLink, shadow := [], marks := .clear }, unreadSinceFailure := true }),
      [.tellScan b, .raise b .faults (.faults .failed) false])
    ((f.scan.state = .counting ∧ r = .fcount) ∨ (f.scan.state = .reading ∧ r = .fread f.scan.next) →
      ((s.clcAt b).link ≠ .active → handle (.frdResult b r .failed) s = fails) ∧
      ((s.clcAt b).link = .active → f.scan.restartPending = false → handle (.frdResult b r .failed) s =
        (s.modClc b (fun c => c.submitRead r), []))) ∧
    (f.scan.state = .idle ∨ f.scan.state = .awaitingLink → handle (.frdLost b) s =
      (s.modFrd b (fun f => { f with linkHeldLost := true }), [])) ∧
    (f.scan.state = .counting ∨ f.scan.state = .reading → handle (.frdLost b) s =
      (fails.1.modFrd b (fun f => { f with linkHeldLost := true }), fails.2)) ∧
    handle (.frdClear b) s = (s.modFrd b (fun _ => .reset), []) ∧
    handle (.frdRetain b) s =
      (s.modFrd b (fun f => { f with scan := .idle, rescan := .none, retained := true }), [])) ∧
  (∀ payload : List Byte, payload.length < 12 → faultRecordOf payload = none) ∧
  (∀ (b : BayNo) (s : State),
    let f := s.frdAt b
    let sc := f.scan
    let begins := fun (kinds : KindSet) (t : State) =>
      ((t.modFrd b (fun f => { f with scan := ⟨.counting, kinds, 0, 0, [], .clear, false⟩ })).modClc b (fun c =>
        c.submitRead .fcount), ([] : List Notice))
    let waits := (s.dkuAt b).state = .readingFaults ∧ f.readSinceDocking = true
    let found := s.modFrd b (fun f => { f with linkHeldLost := false })
    let takes := fun (t : State) => begins f.rescan (t.modFrd b (fun f => { f with rescan := .none }))
    (sc.state = .reading → sc.restartPending = true →
      ∀ payload, handle (.frdResult b (.fread sc.next) (.done (.fread payload))) s = begins sc.kinds s) ∧
    (sc.restartPending = true → (s.clcAt b).link = .active →
      (sc.state = .counting → handle (.frdResult b .fcount .failed) s = begins sc.kinds s) ∧
      (sc.state = .reading → handle (.frdResult b (.fread sc.next) .failed) s = begins sc.kinds s)) ∧
    (sc.state = .idle ∨ sc.state = .awaitingLink → ∀ r x, handle (.frdResult b r x) s = (s, [])) ∧
    (sc.state = .reading → ∀ i x, i ≠ sc.next → handle (.frdResult b (.fread i) x) s = (s, [])) ∧
    (f.rescan ≠ .none → ¬ waits → sc.state = .idle → f.linkHeldLost = false → handle (.frdTakeRescan b) s = takes s) ∧
    (f.rescan = .none ∨ waits ∨ sc.state ≠ .idle ∨ f.linkHeldLost = true → handle (.frdTakeRescan b) s = (s, [])) ∧
    (sc.state = .awaitingLink → handle (.frdRecovered b) s = begins sc.kinds found) ∧
    (sc.state = .idle → f.rescan ≠ .none → ¬ waits → handle (.frdRecovered b) s = takes found) ∧
    (sc.state = .counting ∨ sc.state = .reading ∨ (sc.state = .idle ∧ (f.rescan = .none ∨ waits)) →
      handle (.frdRecovered b) s = (found, [])) ∧
    handle (.frdChange b) s = (s.modFrd b (fun f => { f with scanDone := false }),
      (if f.scanDone = true then [.tellScan b] else []) ++ [.frdSplit b, .frdRequest b .change]) ∧
    (sc.state ≠ .idle → sc.kinds.departure = true → handle (.frdSplit b) s = (s.modFrd b (fun f => { f with
      scan := { f.scan with kinds := { f.scan.kinds with departure := false } }
      rescan := { f.rescan with departure := true } }), [])) ∧
    (sc.state = .idle ∨ sc.kinds.departure = false → handle (.frdSplit b) s = (s, [])))

/-- For every map, code and source unit: either the map splits at a fitting entry before which none fits, and that
entry gives disposition and heat-stop, or no entry fits and the fault is ADVISORY with heat-stop no. -/
def Obligations.ClassificationTakesTheFirstFit : Prop :=
  ∀ (m : List MapEntry) (code source : Nat),
    let fits := fun (e : MapEntry) => e.low ≤ code ∧ code ≤ e.high ∧ (e.source = none ∨ e.source = some source)
    (∃ before e after, m = before ++ e :: after ∧ (∀ x ∈ before, ¬ fits x) ∧ fits e ∧
      classify m code source = (e.disposition, e.heatStop)) ∨
    ((∀ x ∈ m, ¬ fits x) ∧ classify m code source = (.advisory, false))

/-- The five rank classes are BLOCKING ACTIVE, BLOCKING STORED, ADVISORY ACTIVE, ADVISORY STORED and IGNORE, highest
first; an entry is above another exactly when its rank class is higher, or equal with a later last-seen hour, or both
equal with a lower read index; of two with different read indices exactly one is above; and putting a list of distinct
read indices in rank order, or an entry into its place of a list in rank order, gives a permutation in which every
entry is above every later one. -/
def Obligations.FaultRankIsATotalOrder : Prop :=
  (∀ x y : FaultEntry, x.above y = true ↔
    x.rankClass < y.rankClass ∨ (x.rankClass = y.rankClass ∧
      (y.lastSeen < x.lastSeen ∨ (x.lastSeen = y.lastSeen ∧ x.readIndex < y.readIndex)))) ∧
  (∀ x y : FaultEntry, x.readIndex ≠ y.readIndex → (x.above y = true ↔ y.above x = false)) ∧
  (∀ es : List FaultEntry, es.Pairwise (fun x y => x.readIndex ≠ y.readIndex) →
    (rankSort es).Perm es ∧ (rankSort es).Pairwise (fun x y => x.above y = true)) ∧
  (∀ e : FaultEntry, e.rankClass =
    match e.disposition, e.active with
    | .blocking, true => 1 | .blocking, false => 2 | .advisory, true => 3 | .advisory, false => 4 | .ignore, _ => 5) ∧
  (∀ (e : FaultEntry) (es : List FaultEntry), es.Pairwise (fun x y => x.above y = true) →
    (∀ x ∈ es, x.readIndex ≠ e.readIndex) →
    (rankInsert e es).Perm (e :: es) ∧ (rankInsert e es).Pairwise (fun x y => x.above y = true))

/-- The ambient takes the value carried held within -400 to +400 tenths, the reply is OK or OK_CLAMPED with the value
taken, every bay's plan is handed the recomputation in bay order whether or not the value changed, which changes a
plan only in WAITING, HEATING, HOLDING or SUSPENDED, nothing else given changes; the ambient is 0 after power-on,
RESTART keeps it and HEAT_READ carries it last. -/
def Obligations.AmbientSetTakesTheAmbient : Prop :=
  (∀ (x : Word16) (s : State),
    let v := if x.toInt < -400 then -400 else if 400 < x.toInt then 400 else x.toInt
    exec (.ambientSet x) s = .next ((perform ({ s with ambient := v }, allBays.map .hplRecompute)).sends 0xB0
      ((if v = x.toInt then 0 else 1) :: bytes16 (BitVec.ofInt 16 v))) ∧
    ∃ t, exec (.ambientSet x) s = .next t ∧ t.given = { s.given with
      ambient := v, sending := some ⟨0xB0, (if v = x.toInt then 0 else 1) :: bytes16 (BitVec.ofInt 16 v)⟩ }) ∧
  (∀ (b : BayNo) (s : State), (s.hplAt b).plan.state = .none ∨ (s.hplAt b).plan.state = .ended →
    handle (.hplRecompute b) s = (s, [])) ∧
  (∀ (b : BayNo) (s : State), (s.hplAt b).plan.state ≠ .none → (s.hplAt b).plan.state ≠ .ended →
    handle (.hplRecompute b) s =
      takeCourse b ((s.computed b (s.hplAt b).plan).recomputed (s.heatClock b)) s) ∧
  (∀ s t : State, exec .powerOn s = .next t → t.ambient = 0) ∧
  (∀ s t : State, exec .restart s = .next t → t.ambient = s.ambient) ∧
  (∀ (b : BayNo) (s : State), ∃ data, heatData s b = data ++ bytes16 (BitVec.ofInt 16 s.ambient))

/-- For every plan, figures, target and scheduled time the computation takes the steps of R82 to R85: the cabin values
of the profile or the defaults with DEFAULT_CABIN; with no rise everything 0 and a lead of the heat margin or the
maximum lead; else the energy and the mean loss rounded up, the net power as full power less loss, UNREACHABLE exactly
when it is below 500 W (with the maximum lead), and else the heating time rounded up and a lead of its minutes rounded
up plus the margin, held at the maximum lead with SHORT; a start of the scheduled time minus 60 times the lead (0
where that is negative) and a time-based HOLDING point of start plus t held at 4,294,967,295; the holding stages as
the holding power over the stage power, rounded up, at most the stages capable. UNREACHABLE and SHORT never stand
together; state, prior state, end code, LATE, NO_HEATER, departure, target and scheduled time are left alone. -/
def Obligations.HeatPlanFiguresStayInBounds : Prop :=
  ∀ (p : Plan) (x : HeatFigures) (target : Int) (time : Nat),
    let q := p.compute x target time
    q.lead ≤ x.maxLead ∧ q.start = time - 60 * q.lead ∧ q.holdingPoint = min (q.start + q.time) 4294967295 ∧
    q.holdingStages ≤ x.stages ∧ ¬ (q.unreachable = true ∧ q.short = true) ∧
    (q.unreachable = true ↔ x.cabinUsed < target ∧ q.netPower < 500) ∧
    (q.unreachable = true → q.lead = x.maxLead ∧ q.time = 60 * x.maxLead) ∧
    q.state = p.state ∧ q.late = p.late ∧ q.noHeater = p.noHeater ∧ q.endCode = p.endCode ∧ q.prior = p.prior ∧
    q.cabinUsed = x.cabinUsed ∧ q.ambientUsed = x.ambient ∧ (q.defaultCabin = true ↔ x.cabin = none) ∧
    q.departure = p.departure ∧ q.target = p.target ∧ q.scheduled = p.scheduled ∧
    let capacity : Int := match x.cabin with | some c => c.1 | none => x.defaultCapacity
    let loss : Int := match x.cabin with | some c => c.2 | none => x.defaultLoss
    let rise := target - x.cabinUsed
    let excess := target + x.cabinUsed - 2 * x.ambient
    (rise ≤ 0 → q.energy = 0 ∧ q.loss = 0 ∧ q.netPower = 0 ∧ q.time = 0 ∧ q.unreachable = false ∧ q.short = false ∧
      q.lead = min x.margin x.maxLead) ∧
    (0 < rise →
      capacity * rise ≤ 10 * (q.energy : Int) ∧ 10 * (q.energy : Int) < capacity * rise + 10 ∧
      (excess ≤ 0 → q.loss = 0) ∧
      (0 < excess → loss * excess ≤ 20 * (q.loss : Int) ∧ 20 * (q.loss : Int) < loss * excess + 20) ∧
      q.netPower = (x.stages * x.power * 100 : Nat) - (q.loss : Int) ∧
      (500 ≤ q.netPower →
        1000 * (q.energy : Int) ≤ q.time * q.netPower ∧ q.time * q.netPower < 1000 * (q.energy : Int) + q.netPower ∧
        ∃ minutes, q.time ≤ 60 * minutes ∧ 60 * minutes < q.time + 60 ∧
          q.lead = min (minutes + x.margin) x.maxLead ∧ (q.short = true ↔ x.maxLead < minutes + x.margin))) ∧
    (0 < x.power → ∃ watts stages : Nat,
      (target ≤ x.ambient → watts = 0) ∧
      (x.ambient < target → loss * (target - x.ambient) ≤ 10 * (watts : Int) ∧
        10 * (watts : Int) < loss * (target - x.ambient) + 10) ∧
      watts ≤ stages * (x.power * 100) ∧ stages * (x.power * 100) < watts + x.power * 100 ∧
      q.holdingStages = min x.stages stages)

/-- OVERDRAW, COACH_STOP, STAGE_FAIL, HOST_CANCEL, UNDOCKED and COMPLETED rank from 6 down to 1. After an end event
the plan is ENDED; one not yet ENDED holds the event's code and no prior state; an ENDED plan takes the new code only
where it ranks higher, raising HEAT again (log 13), and is otherwise kept without a raising. A new plan is formed of
the active departure, computed and started on a DOCKED bay with a target and a heater, else in NONE; the start
evaluation, the sample tests, a suspension and a resumption take the states of R87 to R91; each state entered raises
HEAT; then the FAL has the plan's class, request and rank key where one of them changes, and at each formation whether
or not one does, and the DPM its readiness. With the active departure lost a plan that is not ENDED goes to NONE with
its departure, target, time and flags gone; an amendment takes target and time into it, and it goes to NONE without a
target, is computed and formed where it was NONE and can be, and is recomputed where it runs; an ENDED plan is kept;
which flags and figures such a plan keeps is read from R81 and R85 (log 34). A valid sample is kept with its time,
clears the stale mark, restarts the stale timer of a DOCKED bay, recomputes a plan that runs and makes the sample
tests. A start time or a HOLDING point that the depot time reaches takes its plan on. The heat readiness and
HEAT_DATA_STALE follow R98's table. A heater-stop request sets the coach-stop mark and ends the plan; a cause added
suspends a running plan, the last one removed resumes it recomputed; DOCKED starts the stale timer and forms the plan;
a docking start, an undocking, the plug-out in CLEARING and a disable end the sample record, the stale mark and timer,
the coach-stop mark and the causes as R90, R94 and R96 lay down. -/
def Obligations.PlanEndKeepsTheHighestCode : Prop :=
  (∀ (p : Plan) (code : EndCode),
    (p.endWith code).1.state = .ended ∧
    (p.state ≠ .ended → (p.endWith code).1.endCode = some code ∧ (p.endWith code).1.prior = none ∧
      (p.endWith code).2 = [.ended]) ∧
    (∀ old, p.state = .ended → p.endCode = some old →
      (old.rank < code.rank → (p.endWith code).1 = { p with endCode := some code } ∧ (p.endWith code).2 = [.ended]) ∧
      (code.rank ≤ old.rank → p.endWith code = (p, []))) ∧
    (∀ k, (p.endWith code).1.endCode = some k → code.rank ≤ k.rank)) ∧
  [EndCode.completed, .undocked, .hostCancel, .stageFail, .coachStop, .overdraw].map EndCode.rank = [1, 2, 3, 4, 5, 6] ∧
  (∀ (b : BayNo) (c : Plan × List PlanState) (s : State),
    let figures := fun (p : Plan) =>
      ((if p.state = .heating then RowClass.heating else if p.state = .holding then .holding else .none),
        (if p.state = .heating then match (s.dkuAt b).profile.heater with | some h => h.1 | none => 0
          else if p.state = .holding then p.holdingStages else 0), p.scheduled)
    let old := (s.hplAt b).plan
    let taken := s.modHpl b (fun h => { h with plan := c.1 })
    let raises := c.2.map (fun st => Notice.raise b .heat (.heat st (if st = .ended then c.1.endCode else none)) false)
    (figures c.1 ≠ figures old → takeCourse b c s = (taken, raises ++ [.falTake b, .tellHeat b])) ∧
    (figures c.1 = figures old → takeCourse b c s = (taken, raises ++ [.tellHeat b])) ∧
    formCourse b c s = (taken, raises ++ [.falTake b, .tellHeat b])) ∧
  (∀ (b : BayNo) (docking : Bool) (s : State),
    let u := s.modHpl b (fun h => { h with causeLink := h.causeLink && !docking })
    let h := u.hplAt b
    let heatStop := h.coachStop = true ∨ ((s.frdAt b).retained = false ∧
      ∃ e ∈ (s.frdAt b).table.entries, e.active = true ∧ e.heatStop = true)
    let ends := fun (c : Plan × List PlanState) =>
      if heatStop then ((c.1.endWith .coachStop).1, c.2 ++ (c.1.endWith .coachStop).2) else c
    let suspends := fun (c : Plan × List PlanState) =>
      if h.causeLink = true ∨ h.causeClearing = true then (c.1.suspend.1, c.2 ++ c.1.suspend.2) else c
    (s.activeOf b = none → handle (.hplForm b docking) s = formCourse b (ends (Plan.empty, [.none])) u) ∧
    (∀ d, s.activeOf b = some d →
      let p := { Plan.empty with departure := some d.id, target := d.target, scheduled := some d.time }
      ((s.dkuAt b).state ≠ .docked ∨ d.target = none →
        handle (.hplForm b docking) s = formCourse b (ends (p, [.none])) u) ∧
      (∀ target, (s.dkuAt b).state = .docked → d.target = some target →
        ((s.dkuAt b).profile.heater = none →
          handle (.hplForm b docking) s = formCourse b (ends ({ p with noHeater := true }, [.none])) u) ∧
        ∀ n w, (s.dkuAt b).profile.heater = some (n, w) →
          let q := { p.compute (s.heatFigures b n w) target d.time with state := .waiting }
          let c := q.startEvaluation (s.heatClock b)
          handle (.hplForm b docking) s = formCourse b (ends (suspends (c.1, .waiting :: c.2))) u))) ∧
  (∀ (p : Plan) (k : HeatClock),
    let rise := p.target.getD 0 - p.cabinUsed
    let heats : Plan × List PlanState := if k.assumed = true ∧ p.holdingPoint ≤ k.now then
      ({ p with state := .holding }, [.heating, .holding]) else ({ p with state := .heating }, [.heating])
    let holds : Plan × List PlanState := ({ p with state := .holding }, [.holding])
    p.enterHeating k = heats ∧
    (k.now < p.start → p.startEvaluation k = ({ p with state := .waiting }, [])) ∧
    (p.start ≤ k.now → p.startEvaluation k =
      let q := if rise ≤ k.tolerance then holds else heats
      ({ q.1 with late := p.late || decide (p.start < k.now) }, q.2)) ∧
    (p.state = .heating → p.sampleTest k = if rise ≤ k.tolerance then holds else (p, [])) ∧
    (p.state = .holding → p.sampleTest k =
      if 2 * k.tolerance < rise then ({ p with state := .heating }, [.heating]) else (p, [])) ∧
    (p.state ≠ .heating → p.state ≠ .holding → p.sampleTest k = (p, [])) ∧
    (p.state = .waiting ∨ p.state = .heating ∨ p.state = .holding →
      p.suspend = ({ p with state := .suspended, prior := some p.state }, [.suspended])) ∧
    (p.state = .none ∨ p.state = .suspended ∨ p.state = .ended → p.suspend = (p, [])) ∧
    (k.now < p.start → p.resume k = ({ p with state := .waiting, prior := none }, [.waiting])) ∧
    (p.start ≤ k.now → p.prior = some .heating → p.resume k =
      let q := if rise ≤ k.tolerance then holds else heats
      ({ q.1 with prior := none }, q.2)) ∧
    (p.start ≤ k.now → p.prior = some .holding → p.resume k =
      let q := if 2 * k.tolerance < rise then heats else holds
      ({ q.1 with prior := none }, q.2)) ∧
    (p.start ≤ k.now → p.prior = some .waiting → p.resume k = { p with prior := none }.startEvaluation k)) ∧
  (∀ (b : BayNo) (s : State),
    let p := (s.hplAt b).plan
    let none_ := fun (q : Plan) =>
      (({ q with state := .none, prior := none } : Plan), if p.state = .none then [] else [PlanState.none])
    (p.state = .ended → handle (.hplNone b) s = takeCourse b (p, []) s ∧
      handle (.hplAmended b) s = takeCourse b (p, []) s) ∧
    (p.state ≠ .ended → handle (.hplNone b) s = takeCourse b (none_ { p with
      departure := none, target := none, scheduled := none, unreachable := false, short := false, late := false
      noHeater := false, defaultCabin := false }) s) ∧
    (∀ d, p.state ≠ .ended → s.activeOf b = some d →
      let q := { p with target := d.target, scheduled := some d.time }
      (d.target = none → handle (.hplAmended b) s = takeCourse b (none_ q) s) ∧
      (∀ target, d.target = some target → p.state = .none →
        (∀ n w, (s.dkuAt b).state = .docked → (s.dkuAt b).profile.heater = some (n, w) →
          let h := s.hplAt b
          let heatStop := h.coachStop = true ∨ ((s.frdAt b).retained = false ∧
            ∃ e ∈ (s.frdAt b).table.entries, e.active = true ∧ e.heatStop = true)
          let c := ({ q.compute (s.heatFigures b n w) target d.time with state := .waiting } : Plan).startEvaluation
            (s.heatClock b)
          let e := if h.causeLink = true ∨ h.causeClearing = true then (c.1.suspend.1, .waiting :: c.2 ++ c.1.suspend.2)
            else (c.1, .waiting :: c.2)
          handle (.hplAmended b) s = formCourse b
            (if heatStop then ((e.1.endWith .coachStop).1, e.2 ++ (e.1.endWith .coachStop).2) else e) s) ∧
        ((s.dkuAt b).state ≠ .docked ∨ (s.dkuAt b).profile.heater = none →
          handle (.hplAmended b) s = takeCourse b (q, []) s)) ∧
      (∀ target, d.target = some target → p.state ≠ .none →
        handle (.hplAmended b) s = takeCourse b ((s.computed b q).recomputed (s.heatClock b)) s))) ∧
  (∀ (b : BayNo) (p : Plan) (s : State),
    (∀ target time n w, p.target = some target → p.scheduled = some time → (s.dkuAt b).profile.heater = some (n, w) →
      s.computed b p = p.compute ⟨n, w, (s.dkuAt b).profile.cabin,
        match (s.hplAt b).sample with | some x => x.1 | none => s.ambient,
        s.ambient, s.setting 5, s.setting 6, s.setting 8, s.setting 9⟩ target time) ∧
    (p.target = none ∨ p.scheduled = none ∨ (s.dkuAt b).profile.heater = none → s.computed b p = p) ∧
    s.heatClock b = ⟨s.clock.time, s.setting 7, decide ((s.hplAt b).sample = none)⟩) ∧
  (∀ (p : Plan) (k : HeatClock), p.recomputed k =
    if p.state = .waiting then p.startEvaluation k
    else if p.state = .heating ∧ k.assumed = true ∧ p.holdingPoint ≤ k.now then
      ({ p with state := .holding }, [.holding])
    else (p, [])) ∧
  (∀ (b : BayNo) (t : Int) (s : State),
    let p := (s.hplAt b).plan
    let u := s.modHpl b (fun h => { h with
      sample := some (t, s.clock.time), stale := false
      staleTimer := if (s.dkuAt b).state = .docked then some (3 * s.setting 4 * 1000) else h.staleTimer })
    (p.state = .none ∨ p.state = .ended → handle (.hplSample b t) s = takeCourse b (p, []) u) ∧
    (p.state ≠ .none → p.state ≠ .ended →
      let c := (u.computed b p).recomputed (u.heatClock b)
      let d := c.1.sampleTest (u.heatClock b)
      handle (.hplSample b t) s = takeCourse b (d.1, c.2 ++ d.2) u)) ∧
  (∀ (b : BayNo) (s : State),
    let h := s.hplAt b
    handle (.hplStart b) s = (if h.plan.state = .waiting ∧ h.plan.start = s.clock.time then
      takeCourse b (h.plan.startEvaluation (s.heatClock b)) s else (s, [])) ∧
    handle (.hplPoint b) s = (if h.plan.state = .heating ∧ h.sample = none ∧ h.plan.holdingPoint ≤ s.clock.time then
      takeCourse b ({ h.plan with state := .holding }, [.holding]) s else (s, []))) ∧
  (∀ (b : BayNo) (s : State),
    let h := s.hplAt b
    let p := h.plan
    let causes := fun (u : State) => takeCourse b p.suspend u
    let uncauses := fun (u : State) =>
      takeCourse b (if p.state = .suspended ∧ (u.hplAt b).causeLink = false ∧ (u.hplAt b).causeClearing = false then
        (u.computed b p).resume (u.heatClock b) else (p, [])) u
    (s.activeOf b = none → s.readiness b = .notReady) ∧
    (∀ d, s.activeOf b = some d → (d.target = none → s.readiness b = .ready) ∧
      (d.target ≠ none →
        (p.state = .ended → p.endCode ∈ [some EndCode.overdraw, some .coachStop, some .stageFail] →
          s.readiness b = .fault) ∧
        (p.state = .ended → p.endCode = some .completed → s.readiness b = .ready) ∧
        (p.state = .ended → p.endCode ∈ [some EndCode.hostCancel, some .undocked] → s.readiness b = .notReady) ∧
        (p.state = .holding → s.readiness b = .ready) ∧
        (p.state = .suspended → s.readiness b =
          if h.causeLink = false ∧ p.prior = some .holding then .ready else .notReady) ∧
        (p.state ∈ [PlanState.none, .waiting, .heating] → s.readiness b = .notReady))) ∧
    (h.staleCondition = true ↔
      p.state ∈ [PlanState.waiting, .heating, .holding, .suspended] ∧ (h.stale = true ∨ h.sample = none)) ∧
    handle (.hplCoachStop b) s =
      takeCourse b (p.endWith .coachStop) (s.modHpl b (fun h => { h with coachStop := true })) ∧
    (∀ code, handle (.hplEnd b code) s = takeCourse b (p.endWith code) s) ∧
    handle (.hplAddLink b) s = causes (s.modHpl b (fun h => { h with causeLink := true })) ∧
    handle (.hplAddClearing b) s = causes (s.modHpl b (fun h => { h with causeClearing := true })) ∧
    handle (.hplDropLink b) s = uncauses (s.modHpl b (fun h => { h with causeLink := false })) ∧
    handle (.hplDropClearing b) s = uncauses (s.modHpl b (fun h => { h with causeClearing := false })) ∧
    handle (.hplDocked b) s =
      handle (.hplForm b true) (s.modHpl b (fun h => { h with staleTimer := some (3 * s.setting 4 * 1000) })) ∧
    handle (.hplSessionStart b) s = (s.modHpl b (fun h => { h with
      sample := none, stale := false, staleTimer := none, coachStop := false }), [.tellHeat b]) ∧
    handle (.hplUndock b) s = takeCourse b (p.endWith .undocked) (s.modHpl b (fun h => { h with
      sample := none, stale := false, staleTimer := none, coachStop := false, causeLink := false
      causeClearing := false })) ∧
    handle (.hplPlugOut b) s = takeCourse b (p.endWith .completed) (s.modHpl b (fun h => { h with
      stale := false, staleTimer := none, causeClearing := false })) ∧
    handle (.hplForget b) s =
      (s.modHpl b (fun h => { h with sample := none, stale := false, staleTimer := none }), [.tellHeat b]))

/-- A running stale timer sets the stale mark and raises HEAT; a running ramp timer stops, opens the gate and makes a
selection; a confirm timer fails the stage-up as one the coach acknowledged: the row loses a stage, STAGE n - 1 is
submitted, the record and the in-flight mark go, the ramp timer starts, a lamp step in QUIET_WAIT begins its baseline,
and the second failure ends the plan STAGE_FAIL; the failure count is held at 2 (log 35). That a row acts whatever
time is left, and that a timer that is not running changes nothing, is the model's choice (log 3). -/
def Obligations.HeatAndFeederTimersAct : Prop :=
  (∀ (b : BayNo) (s : State),
    ((s.hplAt b).staleTimer = none → exec (.staleTimer b) s = .next s) ∧
    ((s.hplAt b).staleTimer ≠ none → exec (.staleTimer b) s = .next (perform
      (s.modHpl b (fun h => { h with stale := true, staleTimer := none }),
        [.raise b .heat .heatStale false, .tellHeat b])))) ∧
  (∀ s : State,
    (s.feeder.ramp = none → exec .rampTimer s = .next s) ∧
    (s.feeder.ramp ≠ none → exec .rampTimer s = .next
      (selection { s with feeder := { s.feeder with ramp := none, gateOpen := true } }))) ∧
  (∀ s : State, s.feeder.stageUp = none → exec .confirmTimer s = .next s) ∧
  (∀ (s : State) (u : StageUp), s.feeder.stageUp = some u → u.phase = .awaitingReply →
    exec .confirmTimer s = .next s) ∧
  (∀ (s : State) (u : StageUp) (n : Nat), s.feeder.stageUp = some u → u.phase = .confirming n →
    ∃ r : Reaction, exec .confirmTimer s = .next (perform r) ∧
      r.1.clcAt u.bay = (s.clcAt u.bay).submitHeat ((s.rowAt u.bay).granted - 1) ∧
      ((s.lcsAt u.bay).phase = .quietWait →
        r.1.lcsAt u.bay = { s.lcsAt u.bay with phase := .baseline, baseline := [] }) ∧
      ((s.lcsAt u.bay).phase ≠ .quietWait → r.1.lcsAt u.bay = s.lcsAt u.bay) ∧
      r.1.feeder.stageUp = none ∧ r.1.feeder.ramp = some (1000 * s.setting 3) ∧
      (r.1.rowAt u.bay).granted = (s.rowAt u.bay).granted - 1 ∧
      (r.1.rowAt u.bay).failures = min ((s.rowAt u.bay).failures + 1) 2 ∧
      (r.1.rowAt u.bay).commanded = (s.rowAt u.bay).granted - 1 ∧
      (r.1.rowAt u.bay).lastResult = .acknowledged ∧ (r.1.rowAt u.bay).inFlight = false ∧
      (∀ c, c ≠ u.bay → r.1.rowAt c = s.rowAt c) ∧
      r.2 = if 1 ≤ (s.rowAt u.bay).failures then [.hplEnd u.bay .stageFail] else []) ∧
  (∀ (c : Clc) (n : Nat), (c.link = .down → c.submitHeat n = c) ∧
    (c.link = .lost ∨ (c.link = .active ∧ c.inflight ≠ none) → c.submitHeat n = { c with heatSlot := some n }) ∧
    (c.link = .active → c.inflight = none →
      c.submitHeat n = { c with heatSlot := none, inflight := some ⟨.stage n, some .heat, 1, .ready 100⟩ }))

/-- An accepted request is answered OK with host part, line part and total as they stand after it, and nothing else
given changes; a refused one changes nothing; the host part is 0 at power-on and RESTART keeps it. (A host part above
14, which no run reaches, is refused with FULL as well.) Each change of the host part raises SHED with source host and
then recomputes the budget. -/
def Obligations.ShedRequestsMoveTheHostPart : Prop :=
  (∀ s : State,
    (14 ≤ s.feeder.shedHost → exec .shedEnter s = .next (s.sends 0xB2 [3, 5])) ∧
    (s.feeder.shedHost < 14 → ∃ t, exec .shedEnter s = .next t ∧ t.given = { s.given with
      shedHost := s.feeder.shedHost + 1,
      sending := some ⟨0xB2, [0, byte (s.feeder.shedHost + 1), byte s.feeder.shedLine,
        byte (s.feeder.shedHost + 1 + s.feeder.shedLine)]⟩ }) ∧
    (s.feeder.shedHost = 0 → exec .shedLeave s = .next (s.sends 0xB3 [3, 6])) ∧
    (s.feeder.shedHost ≠ 0 → ∃ t, exec .shedLeave s = .next t ∧ t.given = { s.given with
      shedHost := s.feeder.shedHost - 1,
      sending := some ⟨0xB3, [0, byte (s.feeder.shedHost - 1), byte s.feeder.shedLine,
        byte (s.feeder.shedHost - 1 + s.feeder.shedLine)]⟩ })) ∧
  (∀ s t : State, exec .powerOn s = .next t → t.feeder.shedHost = 0) ∧
  (∀ s t : State, exec .restart s = .next t → t.feeder.shedHost = s.feeder.shedHost) ∧
  (∀ s : State,
    let put := fun (n : Nat) =>
      perform ({ s with feeder := { s.feeder with shedHost := n } }, [.raiseHall .shed (.shed false), .falRecompute])
    (s.feeder.shedHost < 14 → exec .shedEnter s = .next ((put (s.feeder.shedHost + 1)).sends 0xB2
      [0, byte (s.feeder.shedHost + 1), byte s.feeder.shedLine, byte (s.feeder.shedHost + 1 + s.feeder.shedLine)])) ∧
    (s.feeder.shedHost ≠ 0 → exec .shedLeave s = .next ((put (s.feeder.shedHost - 1)).sends 0xB3
      [0, byte (s.feeder.shedHost - 1), byte s.feeder.shedLine, byte (s.feeder.shedHost - 1 + s.feeder.shedLine)])))

/-- In every state the ranking lists each row whose class is not none once and no other row, and of any two rows the
one listed first is HEATING above HOLDING, or of the same class with the earlier rank key, or with equal keys of the
lower bay number (an absent key, which no run reaches on such a row, counts as 0). -/
def Obligations.RankingIsATotalOrder : Prop :=
  ∀ s : State, s.ranked.Nodup ∧ (∀ b, b ∈ s.ranked ↔ (s.rowAt b).cls ≠ .none) ∧
    s.ranked.Pairwise (fun x y =>
      ((s.rowAt x).cls = .heating ∧ (s.rowAt y).cls = .holding) ∨
      ((s.rowAt x).cls = (s.rowAt y).cls ∧
        ((s.rowAt x).rankKey.getD 0 < (s.rowAt y).rankKey.getD 0 ∨
          ((s.rowAt x).rankKey.getD 0 = (s.rowAt y).rankKey.getD 0 ∧ x.val < y.val))))

/-- For every state whose granted load is within the heat budget, whose grants are within the requests and these
within the plans' requests, none of these above 8, whose budget is the one that field, settings and shed depth give (a
recomputation that an event left over is excepted, log 5), and in which at most one stage-up is in flight, on the bay
whose row is marked, the ramp timer running exactly while the gate is CLOSED with none in flight, the same holds in
the next state. From every state, forced removal leaves the granted load at or below the heat budget, changes no
budget and raises no row's granted stages. The stages go one at a time from the lowest-ranked row with a grant (rows
of class none, which hold none in a sound state, before the ranked ones, log 35) and stop at the first fit; each
changed row's count is submitted as one STAGE request and recorded, and a stage-up in flight on a changed row is
cancelled as MeterSampleAndTripAct pins a stage-up's end. -/
def Obligations.ForcedRemovalFitsTheBudget : Prop :=
  (∀ s t : State, s.FeederSound → step s = .next t → t.FeederSound) ∧
  (∀ s : State, (forcedRemoval s).grantedLoad ≤ s.feeder.budget ∧
    (forcedRemoval s).feeder.budget = s.feeder.budget ∧
    ∀ b, ((forcedRemoval s).rowAt b).granted ≤ (s.rowAt b).granted) ∧
  (∀ s : State,
    let load := s.grantedLoad
    let rows := allBays.filter (fun x => (s.rowAt x).cls == .none) ++ s.ranked.reverse
    let loadOf := fun (k : BayNo → Nat) (xs : List BayNo) => (xs.map (fun x => k x * (s.rowAt x).power)).sum
    ∃ k : BayNo → Nat, (∀ x, k x ≤ (s.rowAt x).granted) ∧ load ≤ s.feeder.budget + loadOf k allBays ∧
      (∀ lower x higher, rows = lower ++ x :: higher → k x ≠ 0 → (∀ y ∈ lower, k y = (s.rowAt y).granted) ∧
        s.feeder.budget + loadOf k lower + (k x - 1) * (s.rowAt x).power < load) ∧
      let cut := allBays.foldl (fun t x => if k x = 0 then t else
        (t.modRow x (fun r => { r with
          granted := (s.rowAt x).granted - k x, commanded := (s.rowAt x).granted - k x })).modClc x (fun c =>
            c.submitHeat ((s.rowAt x).granted - k x))) s
      (s.feeder.stageUp = none → forcedRemoval s = cut) ∧
      ∀ u, s.feeder.stageUp = some u → forcedRemoval s = if k u.bay = 0 then cut else endStageUp u.bay cut)

/-- From every state whose granted load is within the heat budget, a selection leaves it within the budget; with the
gate CLOSED it changes nothing; a stage-up it commits adds one stage to one row and closes the gate. With the gate
OPEN the candidates are the ranked rows of R111; the first in rank order whose next stage fits is committed with its
STAGE request; with candidates of which none fits the highest-ranked one claims: nothing is done where the removable
stages of the lower rows that are not quiet are not enough, and else just as many go, from the lowest row up, with one
STAGE request for each changed row, and the claimant's stage-up is committed; with no candidate nothing is done. (The
preemption clause takes no stage-up in flight, which an OPEN gate means in every sound state.) A recomputation takes
count, base and heat budget, forces removals below the load, reports them in quiet rows in bay order (log 38), raises
BUDGET at a change and selects at a rise. The row takes its plan's class, request and rank key, two failures going
with a new plan's class; its requested stages are the plan's request, 0 while the link is held lost, the contactor
open or the bay disabled: a fall below the grant cuts it, cancels the row's stage-up (as MeterSampleAndTripAct pins a
stage-up's end), submits and records the count, tells the LCS of a quiet row and selects; a rise selects. A lost link
submits STAGE 0 also where nothing was granted; a recovery selects once more; DOCKED gives the row its stage power
alone; docking start, undocking and disable cut and empty it, commanded count and last result standing, and an
undocking submits STAGE 0 unless the link is DOWN or carries it already (log 12). -/
def Obligations.SelectionKeepsWithinTheBudget : Prop :=
  (∀ s : State,
    (s.grantedLoad ≤ s.feeder.budget → (selection s).grantedLoad ≤ s.feeder.budget) ∧
    (selection s).feeder.budget = s.feeder.budget ∧
    (s.feeder.gateOpen = false → selection s = s) ∧
    (selection s ≠ s → (selection s).feeder.gateOpen = false ∧
      ∃ u, (selection s).feeder.stageUp = some u ∧ ((selection s).rowAt u.bay).granted = (s.rowAt u.bay).granted + 1 ∧
        u.count = (s.rowAt u.bay).granted + 1 ∧ u.reference = (s.bfeAt u.bay).shorePower ∧ u.phase = .awaitingReply)) ∧
  (∀ s : State, s.feeder.gateOpen = true →
    let load := s.grantedLoad
    let candidate := fun (b : BayNo) => (s.rowAt b).granted < (s.rowAt b).requested ∧ (s.rowAt b).quiet = false ∧
      (s.rowAt b).linkHeldLost = false ∧ (s.clcAt b).link = .active ∧ (s.bfeAt b).contactor = true
    let fits := fun (b : BayNo) => load + (s.rowAt b).power ≤ s.feeder.budget
    let commits := fun (b : BayNo) (t : State) =>
      let n := (s.rowAt b).granted + 1
      ((t.modRow b (fun r => { r with granted := n, inFlight := true, commanded := n })).modClc b (fun c =>
        c.submitHeat n)).modFeeder (fun f =>
          { f with gateOpen := false, stageUp := some ⟨b, n, (s.bfeAt b).shorePower, .awaitingReply⟩ })
    ((∀ b ∈ s.ranked, ¬ candidate b) → selection s = s) ∧
    ∀ before b after, s.ranked = before ++ b :: after → candidate b →
      ((∀ x ∈ before, candidate x → ¬ fits x) → fits b → selection s = commits b s) ∧
      ((∀ x ∈ before, ¬ candidate x) → (∀ x ∈ s.ranked, candidate x → ¬ fits x) →
        let lower := after.filter (fun x => !(s.rowAt x).quiet)
        let loadOf := fun (k : BayNo → Nat) (xs : List BayNo) => (xs.map (fun x => k x * (s.rowAt x).power)).sum
        let all := fun (x : BayNo) => (s.rowAt x).granted
        (s.feeder.budget + loadOf all lower < load + (s.rowAt b).power → selection s = s) ∧
        (load + (s.rowAt b).power ≤ s.feeder.budget + loadOf all lower → s.feeder.stageUp = none →
          ∃ k : BayNo → Nat, (∀ x, x ∉ lower → k x = 0) ∧ (∀ x, k x ≤ (s.rowAt x).granted) ∧
            load + (s.rowAt b).power ≤ s.feeder.budget + loadOf k lower ∧
            (∀ higher x lowest, lower = higher ++ x :: lowest → k x ≠ 0 → (∀ y ∈ lowest, k y = (s.rowAt y).granted) ∧
              s.feeder.budget + loadOf all lowest + (k x - 1) * (s.rowAt x).power < load + (s.rowAt b).power) ∧
            selection s = commits b (allBays.foldl (fun t x => if k x = 0 then t else
              (t.modRow x (fun r => { r with
                granted := (s.rowAt x).granted - k x, commanded := (s.rowAt x).granted - k x })).modClc x (fun c =>
                  c.submitHeat ((s.rowAt x).granted - k x))) s)))) ∧
  (∀ s : State,
    let n := (allBays.filter (fun b => (s.bfeAt b).enabled && (s.bfeAt b).plug)).length
    let base := s.setting 0 * 10 - n * s.setting 1
    let budget := if s.feeder.shedHost + s.feeder.shedLine = 0 then base else min base (s.setting 2 * 10)
    let u := s.modFeeder (fun f => { f with plugged := n, base := base, budget := budget })
    let v := if budget < s.grantedLoad then forcedRemoval u else u
    handle .falRecompute s = (v,
      (allBays.filter (fun b => (v.rowAt b).quiet && (u.rowAt b).granted != (v.rowAt b).granted)).map .lcsRemoved ++
        (if budget = s.feeder.budget then [] else [.raiseHall .budget .plain]) ++
        (if s.feeder.budget < budget then [.falSelect] else []))) ∧
  (∀ (b : BayNo) (s : State),
    let r := s.rowAt b
    let c := s.clcAt b
    let p := (s.hplAt b).plan
    let stage := fun (n : Nat) (t : State) =>
      (t.modRow b (fun r => { r with commanded := n })).modClc b (fun c => c.submitHeat n)
    let cancels := fun (t : State) => if s.feeder.stageUp.map StageUp.bay = some b then endStageUp b t else t
    let tells : List Notice := if r.quiet = true then [.lcsRemoved b] else []
    let takes := fun (q : GrantRow) =>
      let n := if q.linkHeldLost = true ∨ (s.bfeAt b).contactor = false ∨ (s.bfeAt b).enabled = false then 0
        else q.planRequest
      if n < r.granted then
        (stage n (cancels (s.modRow b (fun _ => { q with requested := n, granted := n }))), tells ++ [Notice.falSelect])
      else (s.modRow b (fun _ => { q with requested := n }), if r.requested < n then [.falSelect] else [])
    let bare := fun (r : GrantRow) => { r with
      cls := .none, rankKey := none, planRequest := 0, requested := 0, granted := 0, power := 0, failures := 0
      linkHeldLost := false }
    let empties := if r.granted = 0 then (s.modRow b bare, [])
      else ((stage 0 (cancels (s.modRow b (fun r => { r with requested := 0, granted := 0 })))).modRow b bare,
        tells ++ [Notice.falSelect])
    handle (.falTake b) s = takes { r with
      cls := if p.state = .heating then .heating else if p.state = .holding then .holding else .none
      rankKey := p.scheduled
      planRequest := if p.state = .heating then
          match (s.dkuAt b).profile.heater with | some h => h.1 | none => 0
        else if p.state = .holding then p.holdingStages else 0
      failures := if r.failures = 2 ∧ (p.state = .heating ∨ p.state = .holding) then 0 else r.failures } ∧
    handle (.falContactor b) s = takes r ∧
    (r.granted ≠ 0 → handle (.falLost b) s = takes { r with linkHeldLost := true }) ∧
    (r.granted = 0 → handle (.falLost b) s =
      (stage 0 (takes { r with linkHeldLost := true }).1, (takes { r with linkHeldLost := true }).2)) ∧
    handle (.falRecovered b) s =
      ((takes { r with linkHeldLost := false }).1, (takes { r with linkHeldLost := false }).2 ++ [.falSelect]) ∧
    handle (.falDocked b) s = (s.modRow b (fun r => { bare r with
      power := match (s.dkuAt b).profile.heater with | some h => h.2 | none => 0 }), []) ∧
    handle (.falEmpty b) s = empties ∧
    (c.link = .down ∨ (empties.1.clcAt b).heatSlot = some 0 ∨
        (empties.1.clcAt b).inflight.map InFlight.request = some (.stage 0) → handle (.falUndock b) s = empties) ∧
    (c.link ≠ .down → (empties.1.clcAt b).heatSlot ≠ some 0 →
      (empties.1.clcAt b).inflight.map InFlight.request ≠ some (.stage 0) →
      handle (.falUndock b) s = (stage 0 empties.1, empties.2)))

/-- METER_SAMPLE adds each quantity, held within its range, to the bay's last five samples; the overdraw timer then
runs exactly while the contactor is closed and the average is above the granted load plus the larger of 10 and a fifth
of it; in CONFIRMING a rise of at least 60 % of a stage ends the stage-up with no failures; in CLEARING an average
below 10 reaches the contactor-open point. OVERDRAW_TRIP with the timer running, whatever it shows (log 3), marks the
bay tripped and clears the timer, opens the contactor, ends the plan OVERDRAW and raises OVERDRAW, in this order; with
the timer clear it changes nothing (log 3). A HEAT result of the stage-up that awaits one of its count starts the
confirm timer of 3 s, fails the stage-up, the second failure ending the plan STAGE_FAIL, or ends it with the link
LOST, the failures left; any other is recorded as the last command result, and one that failed on an ACTIVE link with
an empty slot submits the commanded count again. -/
def Obligations.MeterSampleAndTripAct : Prop :=
  (∀ (b : BayNo) (shore volts amps : Int) (s : State),
    let u := s.modBfe b (fun f => { f with
      shore := (clampInt 0 1500 shore).toNat :: f.shore.take 4
      auxVolts := (clampInt 1800 3200 volts).toNat :: f.auxVolts.take 4
      auxAmps := (clampInt 0 4000 amps).toNat :: f.auxAmps.take 4 })
    let average := (u.bfeAt b).shorePower
    let g := (s.rowAt b).granted * (s.rowAt b).power
    let v := u.modBfe b (fun f => { f with
      overdraw := if f.contactor = true ∧ g + max 10 (g / 5) < average then some (f.overdraw.getD 0) else none })
    let notices : List Notice := if (s.clrAt b).state = .clearing then [.clrOpenTest b] else []
    (∃ t, exec (.meterSample b shore volts amps) s = .next t ∧ t.given = u.given) ∧
    (∀ x n, s.feeder.stageUp = some x → x.bay = b → x.phase = .confirming n → x.reference ≤ average →
      6 * (s.rowAt b).power ≤ 10 * (average - x.reference) → exec (.meterSample b shore volts amps) s =
        .next (perform (endStageUp b (v.modRow b (fun r => { r with failures := 0 })), notices))) ∧
    (s.feeder.stageUp = none ∨ (∃ x, s.feeder.stageUp = some x ∧ (x.bay ≠ b ∨ x.phase = .awaitingReply ∨
        average < x.reference ∨ 10 * (average - x.reference) < 6 * (s.rowAt b).power)) →
      exec (.meterSample b shore volts amps) s = .next (perform (v, notices)))) ∧
  (∀ (b : BayNo) (s : State),
    let ended : State := { s with feeder := { s.feeder with stageUp := none, ramp := some (s.setting 3 * 1000) } }
    endStageUp b s = (ended.modRow b (fun r => { r with inFlight := false })).modLcs b (fun l =>
      if l.phase = .quietWait then { l with phase := .baseline, baseline := [] } else l)) ∧
  (∀ f : Bfe, f.shorePower =
    if f.shore = [] then 0 else (2 * f.shore.sum + f.shore.length) / (2 * f.shore.length)) ∧
  (∀ (b : BayNo) (s : State),
    ((s.bfeAt b).shorePower < 10 → (s.clrAt b).state = .clearing → (s.clrAt b).openRequest = false →
      handle (.clrOpenTest b) s =
        (s.modClr b (fun c => { c with openWait := none, openRequest := true }), [.contactor b])) ∧
    (10 ≤ (s.bfeAt b).shorePower ∨ (s.clrAt b).state ≠ .clearing ∨ (s.clrAt b).openRequest = true →
      handle (.clrOpenTest b) s = (s, []))) ∧
  (∀ (b : BayNo) (s : State),
    ((s.bfeAt b).overdraw = none → exec (.overdrawTrip b) s = .next s) ∧
    ((s.bfeAt b).overdraw ≠ none → exec (.overdrawTrip b) s = .next (perform
      (s.modBfe b (fun f => { f with tripped := true, overdraw := none }),
        [.contactor b, .hplEnd b .overdraw, .raise b .overdraw .plain false])))) ∧
  (∀ (b : BayNo) (n : Nat) (s : State),
    let r := s.rowAt b
    let c := s.clcAt b
    let go := fun (x : TxResult) => handle (.falResult b n x) s
    let stage := fun (n : Nat) (t : State) =>
      (t.modRow b (fun r => { r with commanded := n })).modClc b (fun c => c.submitHeat n)
    let records := fun (w : CommandResult) => s.modRow b (fun r => { r with lastResult := w })
    (s.feeder.stageUp = none ∨ (∃ u, s.feeder.stageUp = some u ∧ (u.bay ≠ b ∨ u.count ≠ n ∨ u.phase ≠ .awaitingReply)) →
      (∀ x, go (.done x) = (records .acknowledged, [])) ∧ go .refused = (records .refused, []) ∧
      (c.link = .active → c.heatSlot = none → go .failed = (stage r.commanded (records .failed), [])) ∧
      (c.link ≠ .active ∨ c.heatSlot ≠ none → go .failed = (records .failed, []))) ∧
    ∀ u, s.feeder.stageUp = some u → u.bay = b → u.count = n → u.phase = .awaitingReply →
      let fails := fun (w : CommandResult) =>
        (endStageUp b (stage (r.granted - 1) (s.modRow b (fun r => { r with
            granted := r.granted - 1, failures := min (r.failures + 1) 2, lastResult := w }))),
          if 1 ≤ r.failures then [Notice.hplEnd b .stageFail] else [])
      (∀ x, go (.done x) = ({ s with feeder := { s.feeder with
        stageUp := some ⟨b, n, u.reference, .confirming 3000⟩ } }, [])) ∧
      go .refused = fails .refused ∧ (c.link = .active → go .failed = fails .failed) ∧
      (c.link ≠ .active → go .failed = (endStageUp b (s.modRow b (fun r => { r with granted := r.granted - 1 })), [])))

/-- LAMP_START: RANGE, NOT_ENABLED, STATE, BUSY in this order, else OK or OK_CLAMPED with the pass count taken and a
run that holds one NOT_CHECKED entry per checkable circuit in chain order. LAMP_ADVANCE: STEP leaves the pause reasons
of a run PAUSED with it, which goes on where none is left. LAMP_ABORT: a RUNNING or PAUSED run is ABORTED, its step
given up with queue place, channel and quiet mark, its lit circuit switched off after the selection this makes, its
outcomes handed on, the DPM told and LAMP raised. Else RANGE, NOT_ENABLED or STATE, changing nothing. A run starts
RUNNING and goes to its end (no circuit) or its first step, or PAUSED with IGNITION and LINK as they stand, LAMP
raised. A step given up or ended leaves the queue, its channel passes to the queue's head and its quiet mark goes,
with a selection. IGNITION and LINK pause a RUNNING run, its step abandoned, and join a PAUSED one's reasons; the last
reason's removal takes it on. Read by inference: an abandonment adds its own reason and not STEP, and a further reason
raises no LAMP (log 14); when a circuit is recorded as owed a switch-off (log 15). -/
def Obligations.LampRequestsMakeTheirChecks : Prop :=
  (∀ (x m p : Byte) (s : State), 16 ≤ x.toNat ∨ 2 ≤ m.toNat →
    exec (.lampStart x m p) s = .next (s.sends 0xC0 [3, 2])) ∧
  (∀ (x : Byte) (s : State), 16 ≤ x.toNat → exec (.lampAdvance x) s = .next (s.sends 0xC1 [3, 2]) ∧
    exec (.lampAbort x) s = .next (s.sends 0xC2 [3, 2])) ∧
  (∀ (b : BayNo) (s : State), (s.bfeAt b).enabled = false →
    (∀ m p : Byte, m.toNat < 2 → exec (.lampStart (byte b.val) m p) s = .next (s.sends 0xC0 [3, 3])) ∧
    exec (.lampAdvance (byte b.val)) s = .next (s.sends 0xC1 [3, 3]) ∧
    exec (.lampAbort (byte b.val)) s = .next (s.sends 0xC2 [3, 3])) ∧
  (∀ (b : BayNo) (s : State), (s.bfeAt b).enabled = true → (s.dkuAt b).state ≠ .docked →
    (∀ m p : Byte, m.toNat < 2 → exec (.lampStart (byte b.val) m p) s = .next (s.sends 0xC0 [3, 4])) ∧
    exec (.lampAdvance (byte b.val)) s = .next (s.sends 0xC1 [3, 4]) ∧
    exec (.lampAbort (byte b.val)) s = .next (s.sends 0xC2 [3, 4])) ∧
  (∀ (b : BayNo) (s : State), (s.bfeAt b).enabled = true → (s.dkuAt b).state = .docked →
    ((s.lcsAt b).status = .running ∨ (s.lcsAt b).status = .paused →
      (∀ m p : Byte, m.toNat < 2 → exec (.lampStart (byte b.val) m p) s = .next (s.sends 0xC0 [2])) ∧
      exec (.lampAbort (byte b.val)) s = .next ((perform (lcsAbort b s)).sends 0xC2 [0])) ∧
    ((s.lcsAt b).status ≠ .running → (s.lcsAt b).status ≠ .paused →
      exec (.lampAbort (byte b.val)) s = .next (s.sends 0xC2 [3, 4]) ∧
      ∀ m p : Byte, m.toNat < 2 →
        let n := if p.toNat < 1 then 1 else if 4 < p.toNat then 4 else p.toNat
        let mode : LampMode := if m = 0 then .run else .step
        exec (.lampStart (byte b.val) m p) s = .next ((perform (lcsStart b mode n s)).sends 0xC0
          [if n = p.toNat then 0 else 1, byte n])) ∧
    ((s.lcsAt b).status = .paused → (s.lcsAt b).reasons.step = true →
      exec (.lampAdvance (byte b.val)) s = .next
        ((perform (dropReason b (fun r => { r with step := false }) s)).sends 0xC1 [0])) ∧
    ((s.lcsAt b).status ≠ .paused ∨ (s.lcsAt b).reasons.step = false →
      exec (.lampAdvance (byte b.val)) s = .next (s.sends 0xC1 [3, 4]))) ∧
  (∀ (b : BayNo) (mode : LampMode) (n : Nat) (s : State),
    let l := (lcsStart b mode n s).1.lcsAt b
    l.mode = mode ∧ l.passes = n ∧ l.pass = 1 ∧ l.index = 0 ∧ l.tries = 1 ∧ l.validity = none ∧
    l.sequence = ((s.dkuAt b).profile.lamps.filter LampEntry.checkable).map LampEntry.circuit ∧
    l.results.map LampResult.circuit = l.sequence ∧
    ∀ r ∈ l.results, r.outcome = .notChecked ∧ r.power = none ∧ r.measurements = 0 ∧ r.time = none) ∧
  (∀ (b : BayNo) (s : State),
    let l := s.lcsAt b
    let t := (lcsAbort b s).1
    let f := (s.frdAt b).takeOutcomes (t.lcsAt b).results
    (lcsAbort b s).2 = (if (s.rowAt b).quiet then [.falSelect] else []) ++
      (if (l.phase = .settle ∨ l.phase = .lit) ∧ l.circuit ≠ none then [.lcsSwitchOff b] else []) ++
      [.tellLamp b, .raise b .lamp (.lamp .aborted) (decide (∃ p ∈ f.unconfirmed, p ∉ (s.frdAt b).unconfirmed))] ∧
    (t.lcsAt b).status = .aborted ∧ (t.lcsAt b).reasons = ⟨false, false, false⟩ ∧ (t.lcsAt b).phase = .none ∧
    (t.lcsAt b).channel = none ∧ (t.lcsAt b).settle = none ∧ (t.lcsAt b).outcome = none ∧
    (t.rowAt b).quiet = false ∧ b ∉ t.channelQueue ∧
    (∀ c, l.circuit = some c → l.phase ∈ [StepPhase.light, .settle, .lit, .off] → (t.lcsAt b).owed = some c) ∧
    (l.phase ∉ [StepPhase.light, .settle, .lit, .off] → (t.lcsAt b).owed = l.owed) ∧
    t.frdAt b = f ∧ (l.phase ≠ .off → (t.lcsAt b).results = l.results) ∧
    (∀ c, l.channel = some c → s.channelQueue.filter (fun x => x != b) = [] → t.channels[c] = none) ∧
    (∀ c h rest, l.channel = some c → s.channelQueue.filter (fun x => x != b) = h :: rest →
      t.channels[c] = some h ∧ t.channelQueue = rest ∧ (t.lcsAt h).channel = some c ∧ (t.rowAt h).quiet = true)) ∧
  (∀ (b : BayNo) (c : Nat) (s : State), (s.lcsAt b).owed = some c →
    handle (.lcsSwitchOff b) s =
      (if (s.clcAt b).link = .active ∧ (s.lcsAt b).linkHeldLost = false ∧ (s.clcAt b).lampSlot = none then
        s.modClc b (fun k => k.submitLamp c false) else s, [])) ∧
  (∀ (b : BayNo) (s : State), (s.lcsAt b).status = .paused →
    let r := (s.lcsAt b).reasons
    ((r.ignition = false ∧ r.link = false) → dropReason b (fun r => { r with step := false }) s =
      (s.modLcs b (fun l => { l with status := .running, reasons := ⟨false, false, false⟩ }),
        [.tellLamp b, .lcsNext b])) ∧
    ((r.ignition = true ∨ r.link = true) → dropReason b (fun r => { r with step := false }) s =
      (s.modLcs b (fun l => { l with reasons := ⟨false, r.ignition, r.link⟩ }), []))) ∧
  (∀ (b : BayNo) (mode : LampMode) (n : Nat) (s : State),
    let es := (s.dkuAt b).profile.lamps.filter LampEntry.checkable
    let l := s.lcsAt b
    let starts := fun (st : LampStatus) (rs : PauseReasons) => s.modLcs b (fun l => { l with
      status := st, reasons := rs, mode := mode, passes := n, sequence := es.map LampEntry.circuit, pass := 1
      index := 0, tries := 1, phase := .none, baseline := [], outcome := none, settle := none, validity := none
      results := es.map (fun e => ⟨e.circuit, e.group, e.nominal, e.tolerance, .notChecked, none, 0, none⟩) })
    (es = [] → lcsStart b mode n s = (starts .running ⟨false, false, false⟩, [.tellLamp b, .lcsRunEnd b])) ∧
    (es ≠ [] → l.ignition ≠ some true → l.linkHeldLost = false →
      lcsStart b mode n s = (starts .running ⟨false, false, false⟩, [.tellLamp b, .lcsNext b])) ∧
    (es ≠ [] → l.ignition = some true ∨ l.linkHeldLost = true →
      lcsStart b mode n s = (starts .paused ⟨false, decide (l.ignition = some true), l.linkHeldLost⟩,
        [.tellLamp b, .raise b .lamp (.lamp .paused) false]))) ∧
  (∀ (b : BayNo) (s : State),
    let q := s.channelQueue.filter (fun x => x != b)
    let sels : List Notice := if (s.rowAt b).quiet = true then [.falSelect] else []
    let calm := fun (t : State) => t.modRow b (fun r => { r with quiet := false })
    ((s.lcsAt b).channel = none → releaseStep b s = (calm { s with channelQueue := q }, sels)) ∧
    (∀ c, (s.lcsAt b).channel = some c →
      let free := (s.setChannel c none).modLcs b (fun l => { l with channel := none })
      (q = [] → releaseStep b s = (calm { free with channelQueue := [] }, sels)) ∧
      (∀ h rest, q = h :: rest →
        releaseStep b s = (calm (takeChannel h c { free with channelQueue := rest }), sels)))) ∧
  (∀ (b : BayNo) (c : Fin 4) (s : State),
    takeChannel b c s = ((s.setChannel c (some b)).modRow b (fun r => { r with quiet := true })).modLcs b (fun l =>
      { l with channel := some c, phase := if (s.rowAt b).inFlight = true then .quietWait else .baseline })) ∧
  (∀ (b : BayNo) (s : State),
    let l := s.lcsAt b
    let r := releaseStep b s
    let bare := fun (l : Lcs) => { l with phase := .none, baseline := [], outcome := none, settle := none }
    (l.phase ∉ [StepPhase.light, .settle, .lit, .off] → abandonStep b s = (r.1.modLcs b bare, r.2)) ∧
    (∀ c, l.sequence[l.index]? = some c →
      (l.phase = .light → abandonStep b s = (r.1.modLcs b (fun l => { bare l with owed := some c }), r.2)) ∧
      (l.phase = .settle ∨ l.phase = .lit → abandonStep b s =
        (r.1.modLcs b (fun l => { bare l with owed := some c }), r.2 ++ [.lcsSwitchOff b])) ∧
      (l.phase = .off → abandonStep b s =
        (r.1.modLcs b (fun l => { bare l.judge with owed := some c }), r.2)))) ∧
  (∀ (b : BayNo) (f : PauseReasons → PauseReasons) (s : State),
    let st := (s.lcsAt b).status
    let a := abandonStep b s
    let rs := f (s.lcsAt b).reasons
    (st = .running → addReason b f s = (a.1.modLcs b (fun l => { l with status := .paused, reasons := f l.reasons }),
      a.2 ++ [.tellLamp b, .raise b .lamp (.lamp .paused) false])) ∧
    (st = .paused → addReason b f s = (s.modLcs b (fun l => { l with reasons := rs }), [])) ∧
    (st ≠ .running → st ≠ .paused → addReason b f s = (s, [])) ∧
    (st = .paused → rs = ⟨false, false, false⟩ → dropReason b f s =
      (s.modLcs b (fun l => { l with status := .running, reasons := rs }), [.tellLamp b, .lcsNext b])) ∧
    (st = .paused → rs ≠ ⟨false, false, false⟩ →
      dropReason b f s = (s.modLcs b (fun l => { l with reasons := rs }), [])) ∧
    (st ≠ .paused → dropReason b f s = (s, []))) ∧
  (∀ (b : BayNo) (s : State),
    let l := s.lcsAt b
    let told := fun (on : Bool) => s.modLcs b (fun l => { l with ignition := some on })
    let lost := s.modLcs b (fun l => { l with linkHeldLost := true })
    let found := s.modLcs b (fun l => { l with linkHeldLost := false })
    let off := match l.owed with
      | some c => if (s.clcAt b).link = .active ∧ (s.clcAt b).lampSlot = none then
          found.modClc b (fun k => k.submitLamp c false) else found
      | none => found
    handle (.lcsIgnition b true) s = (if l.reasons.ignition = true then (told true, [])
      else addReason b (fun r => { r with ignition := true }) (told true)) ∧
    handle (.lcsIgnition b false) s = (if l.reasons.ignition = true then
      dropReason b (fun r => { r with ignition := false }) (told false) else (told false, [])) ∧
    handle (.lcsLost b) s = (if l.reasons.link = true then (lost, [])
      else addReason b (fun r => { r with link := true }) lost) ∧
    handle (.lcsRecovered b) s = (if l.reasons.link = true then
      dropReason b (fun r => { r with link := false }) off else (off, [])))

/-- BASELINE_COMPLETE in BASELINE keeps the four samples held within 0 to 40.00 A, moves the step to LIGHT and submits
LAMP ON (a refused submission is taken as FAILED); SETTLE_TIMER in SETTLE moves it to LIT; VALIDITY_TIMER expires a
PASSED or FAILED status, tells the DPM, raises LAMP with EXPIRED and starts a recheck where the setting asks for one
and the bay is DOCKED; in any other phase, or with the timer stopped, nothing changes (logs 3, 4). The next step takes
the lowest free channel while the queue is empty, else joins the queue once; past the last circuit the next pass or
the run's end follows; an owed switch-off makes it wait. LAMP ON leads to SETTLE, COACH_REFUSED, NO_RESPONSE with OFF,
or a pause for the link; LAMP OFF ends the step and stays owed where it failed; a switch-off owed outside a step ends,
or is submitted again. A stage removed disturbs BASELINE, LIGHT, SETTLE and LIT; that the cut which ends a session
disturbs no step, that a LAMP ON failed with the link LOST pauses the run at its report (log 14), and when a switch-
off is recorded as owed (log 15), are the model's reading. A step's end judges its outcome and goes on, or pauses in
mode STEP. The run's end sets PASSED or FAILED, starts the validity timer, hands the outcomes on and raises LAMP, with
UNCONFIRMED where a pair was added. Each outcome handed on makes the circuit's verdict FAILED (OPEN, LOW, HIGH) or
PASSED, or leaves it, marks or unmarks the entries that refer to the circuit as CONFIRMED, and forms the unconfirmed
list anew, in the table's order (log 41). DOCKED clears the link-held-lost mark and starts a run, where none stands,
if departure and setting ask for one; undocking empties the record and tells the DPM; a disable abandons the run; the
plug-out in CLEARING retains the record, ignition value and link-held-lost mark as they stand (log 42); a docking
start forgets the ignition value. -/
def Obligations.LampMeasurementEventsAct : Prop :=
  (∀ (b : BayNo) (amps : FourSamples) (s : State) (c : Nat), (s.lcsAt b).sequence[(s.lcsAt b).index]? = some c →
    (s.lcsAt b).phase = .baseline →
    let kept := [amps.s1, amps.s2, amps.s3, amps.s4].map (fun i => (clampInt 0 4000 i).toNat)
    let u := s.modLcs b (fun l => { l with phase := .light, baseline := kept })
    exec (.baselineComplete b amps) s = .next
      (if (s.clcAt b).link = .active ∧ (s.clcAt b).lampSlot = none then u.modClc b (fun k => k.submitLamp c true)
        else perform (u, [.lcsResult b c true .failed]))) ∧
  (∀ (b : BayNo) (amps : FourSamples) (s : State), (s.lcsAt b).phase ≠ .baseline →
    exec (.baselineComplete b amps) s = .next s) ∧
  (∀ (b : BayNo) (s : State),
    ((s.lcsAt b).phase = .settle → (s.lcsAt b).settle ≠ none →
      exec (.settleTimer b) s = .next (s.modLcs b (fun l => { l with phase := .lit, settle := none }))) ∧
    ((s.lcsAt b).phase ≠ .settle ∨ (s.lcsAt b).settle = none → exec (.settleTimer b) s = .next s) ∧
    ((s.lcsAt b).validity = none → exec (.validityTimer b) s = .next s) ∧
    ((s.lcsAt b).validity ≠ none → exec (.validityTimer b) s = .next (perform
      (s.modLcs b (fun l => { l with
          validity := none
          status := if l.status = .passed ∨ l.status = .failed then .expired else l.status }),
        [.tellLamp b, .raise b .lamp (.lamp .expired) false] ++
          (if s.setting 13 = 1 ∧ (s.dkuAt b).state = .docked then [.lcsAutomatic b] else []))))) ∧
  (∀ (b : BayNo) (s : State),
    ((s.lcsAt b).status = .running ∨ (s.lcsAt b).status = .paused → handle (.lcsAutomatic b) s = (s, [])) ∧
    ((s.lcsAt b).status ≠ .running → (s.lcsAt b).status ≠ .paused →
      handle (.lcsAutomatic b) s = lcsStart b .run 1 s)) ∧
  (∀ (b : BayNo) (s : State),
    let l := s.lcsAt b
    (l.status ≠ .running ∨ l.phase ≠ .none → handle (.lcsNext b) s = (s, [])) ∧
    (l.status = .running → l.phase = .none → l.sequence.length ≤ l.index → l.passes ≤ l.pass ∨ l.sequence = [] →
      handle (.lcsNext b) s = (s, [.lcsRunEnd b])) ∧
    (l.status = .running → l.phase = .none → ∀ u : State,
      (l.index < l.sequence.length ∧ u = s) ∨
        (l.sequence.length ≤ l.index ∧ l.pass < l.passes ∧ l.sequence ≠ [] ∧
          u = s.modLcs b (fun l => { l with pass := l.pass + 1, index := 0, tries := 1 })) →
      (l.owed ≠ none → handle (.lcsNext b) s = (u, [])) ∧
      (l.owed = none → ∀ c : Fin 4, s.channels[c] = none → (∀ d : Fin 4, d < c → s.channels[d] ≠ none) →
        s.channelQueue = [] → handle (.lcsNext b) s = (takeChannel b c u, [])) ∧
      (l.owed = none → (∀ c : Fin 4, s.channels[c] ≠ none) ∨ s.channelQueue ≠ [] → handle (.lcsNext b) s =
        (({ u with channelQueue := if b ∈ s.channelQueue then s.channelQueue else s.channelQueue ++ [b] } : State).modLcs
          b (fun l => { l with phase := .queued }), [])))) ∧
  (∀ (b : BayNo) (c : Nat) (s : State),
    let l := s.lcsAt b
    let usable := (s.clcAt b).link = .active ∧ (s.clcAt b).lampSlot = none
    let off := fun (t : State) =>
      let u := t.modLcs b (fun l => { l with phase := .off, settle := none })
      if usable then (u.modClc b (fun k => k.submitLamp c false), []) else (u, [.lcsResult b c false .failed])
    let ends := fun (o : LampOutcome) => s.modLcs b (fun l => { l with
      outcome := if l.outcome = none then some (o, none) else l.outcome })
    let again := fun (t : State) =>
      if usable ∧ l.linkHeldLost = false then t.modClc b (fun k => k.submitLamp c false) else t
    let disturbed := s.modLcs b (fun l => { l with outcome := some (.disturbed, none), baseline := [] })
    let session := (s.bfeAt b).enabled = true ∧ (s.bfeAt b).plug = true ∧ (s.dkuAt b).state = .docked
    (l.sequence[l.index]? = some c → l.phase = .light →
      (∀ x, l.outcome = none → handle (.lcsResult b c true (.done x)) s =
        (s.modLcs b (fun l => { l with phase := .settle, settle := some (s.setting 10) }), [])) ∧
      (∀ x, l.outcome ≠ none → handle (.lcsResult b c true (.done x)) s = off s) ∧
      handle (.lcsResult b c true .refused) s = (ends .coachRefused, [.lcsStepEnd b]) ∧
      ((s.clcAt b).link = .active → handle (.lcsResult b c true .failed) s = off (ends .noResponse)) ∧
      ((s.clcAt b).link ≠ .active → handle (.lcsResult b c true .failed) s =
        addReason b (fun r => { r with link := true }) s)) ∧
    (l.sequence[l.index]? = some c → l.phase = .off →
      (∀ x, handle (.lcsResult b c false (.done x)) s = (s, [.lcsStepEnd b])) ∧
      handle (.lcsResult b c false .refused) s = (s, [.lcsStepEnd b]) ∧
      handle (.lcsResult b c false .failed) s =
        (again (s.modLcs b (fun l => { l with owed := some c })), [.lcsStepEnd b])) ∧
    (l.owed = some c → l.sequence[l.index]? ≠ some c ∨ (l.phase ≠ .light ∧ l.phase ≠ .off) →
      let ended : Reaction := (s.modLcs b (fun l => { l with owed := none }), [.lcsNext b])
      (∀ on, handle (.lcsResult b c on .refused) s = ended) ∧
      (∀ x, handle (.lcsResult b c false (.done x)) s = ended) ∧
      (∀ x, handle (.lcsResult b c true (.done x)) s = (again s, [])) ∧
      (∀ on, handle (.lcsResult b c on .failed) s = (again s, []))) ∧
    (l.owed ≠ some c → l.sequence[l.index]? ≠ some c ∨ (l.phase ≠ .light ∧ l.phase ≠ .off) →
      ∀ on x, handle (.lcsResult b c on x) s = (s, [])) ∧
    (l.sequence[l.index]? = some c → session →
      (l.phase = .baseline → handle (.lcsRemoved b) s = (disturbed, [.lcsStepEnd b])) ∧
      (l.phase = .light → handle (.lcsRemoved b) s = (disturbed, [])) ∧
      (l.phase = .settle ∨ l.phase = .lit → handle (.lcsRemoved b) s = off disturbed)) ∧
    (¬ session ∨ l.phase ∈ [StepPhase.none, .queued, .quietWait, .off] → handle (.lcsRemoved b) s = (s, []))) ∧
  (∀ (b : BayNo) (s : State),
    let r := releaseStep b s
    let u := r.1.modLcs b (fun l => { l.judge with phase := .none, baseline := [], outcome := none, settle := none })
    let l := u.lcsAt b
    let last := l.sequence.length ≤ l.index ∧ l.passes ≤ l.pass
    (l.status = .running → l.mode = .step → ¬ last → handle (.lcsStepEnd b) s =
      (u.modLcs b (fun l => { l with status := .paused, reasons := { l.reasons with step := true } }),
        r.2 ++ [.tellLamp b, .raise b .lamp (.lamp .paused) false])) ∧
    (l.status ≠ .running ∨ l.mode = .run ∨ last → handle (.lcsStepEnd b) s = (u, r.2 ++ [.lcsNext b]))) ∧
  (∀ (b : BayNo) (s : State),
    let l := s.lcsAt b
    let passed := ∀ x ∈ l.results, x.outcome = .pass
    let f := (s.frdAt b).takeOutcomes l.results
    (l.status ≠ .running ∨ l.phase ≠ .none → handle (.lcsRunEnd b) s = (s, [])) ∧
    (l.status = .running → l.phase = .none → ∀ (st : LampStatus) (why : LampReason),
      (passed ∧ st = .passed ∧ why = .passed) ∨ (¬ passed ∧ st = .failed ∧ why = .failed) →
      handle (.lcsRunEnd b) s = ((s.modLcs b (fun l => { l with
          status := st, reasons := ⟨false, false, false⟩, validity := some (60 * s.setting 11 * 1000)
          baseline := [], outcome := none, settle := none })).modFrd b (fun _ => f),
        [.tellLamp b, .raise b .lamp (.lamp why) (decide (∃ p ∈ f.unconfirmed, p ∉ (s.frdAt b).unconfirmed))]))) ∧
  (∀ (f : Frd) (c : Nat) (o : LampOutcome),
    let g := f.takeOutcome c o
    g.unconfirmed = (g.table.entries.filter (fun e =>
      e.active && decide (∃ k ∈ e.circuit, g.verdicts[k]? = some .passed))).map (fun e => (e.source, e.code)) ∧
    (o ∉ [LampOutcome.open, .low, .high, .pass] → g = { f with unconfirmed := g.unconfirmed }) ∧
    (o ∈ [LampOutcome.open, .low, .high, .pass] →
      (∀ k : Nat, k < 64 → g.verdicts[k]? =
        if k = c then some (if o = .pass then Verdict.passed else .failed) else f.verdicts[k]?) ∧
      g = { f with
        verdicts := g.verdicts, unconfirmed := g.unconfirmed
        table := { f.table with entries := f.table.entries.map (fun e =>
          if e.circuit = some c then { e with confirmed := decide (o ≠ .pass) } else e) } }) ∧
    f.takeOutcomes [] = f ∧
    ∀ (r : LampResult) (rs : List LampResult),
      f.takeOutcomes (r :: rs) = (f.takeOutcome r.circuit r.outcome).takeOutcomes rs) ∧
  (∀ (b : BayNo) (s : State),
    let r := releaseStep b s
    let found := s.modLcs b (fun l => { l with linkHeldLost := false })
    let asked := ∃ d, s.activeOf b = some d ∧ d.lampCheck = true ∧ s.setting 12 = 1
    (asked → handle (.lcsDocked b) s = handle (.lcsAutomatic b) found) ∧
    (¬ asked → handle (.lcsDocked b) s = (found, [])) ∧
    handle (.lcsAbandonRun b) s = (r.1.modLcs b (fun l => { l with
      phase := .none, baseline := [], outcome := none, settle := none, owed := none }), r.2) ∧
    handle (.lcsUndock b) s = (r.1.modLcs b (fun _ => .reset), r.2 ++ [.tellLamp b]) ∧
    handle (.lcsRetain b) s = (r.1.modLcs b (fun l => { l with
      phase := .none, baseline := [], outcome := none, settle := none, owed := none, validity := none
      retained := true }), r.2) ∧
    handle (.lcsSessionStart b) s = (s.modLcs b (fun l => { l with ignition := none }), []))

/-- In LIT, with the circuit's results entry found, LIT_COMPLETE records the depot time, takes P as the lit minus the
baseline current (not below 0) times the voltage over 1000, means and product rounded half up, takes the outcome by
the first line that applies (V below 2000, P x 10 below N, P x 100 below N x (100 - T), above N x (100 + T), else
PASS), keeps P as the measured power for every outcome and goes to OFF with LAMP OFF submitted. PASS holds exactly
while V is at least 2000 and P lies in the window, both bounds included, and is not below a tenth of N; P is at most
12,800. Outside LIT the row changes nothing (log 4). -/
def Obligations.LampOutcomeFollowsFromTheFigures : Prop :=
  (∀ (b : BayNo) (amps volts : FourSamples) (s : State) (c : Nat) (r : LampResult),
    (s.lcsAt b).sequence[(s.lcsAt b).index]? = some c →
    (s.lcsAt b).results.find? (fun x => x.circuit == c) = some r → (s.lcsAt b).phase = .lit →
    let v := meanOfFour ([volts.s1, volts.s2, volts.s3, volts.s4].map (fun i => (clampInt 1800 3200 i).toNat))
    let il := meanOfFour ([amps.s1, amps.s2, amps.s3, amps.s4].map (fun i => (clampInt 0 4000 i).toNat))
    let p := lampPower (meanOfFour (s.lcsAt b).baseline) il v
    let u := s.modLcs b (fun l => { l with
      phase := .off, settle := none, outcome := some (lampOutcome v p r.nominal r.tolerance, some p), baseline := [],
      results := l.results.map (fun x => if x.circuit = c then { x with time := some s.clock.time } else x) })
    exec (.litComplete b amps volts) s = .next
      (if (s.clcAt b).link = .active ∧ (s.clcAt b).lampSlot = none then u.modClc b (fun k => k.submitLamp c false)
        else perform (u, [.lcsResult b c false .failed]))) ∧
  (∀ (b : BayNo) (amps volts : FourSamples) (s : State), (s.lcsAt b).phase ≠ .lit →
    exec (.litComplete b amps volts) s = .next s) ∧
  (∀ xs : List Nat, meanOfFour xs = (2 * xs.sum + 4) / 8) ∧
  (∀ ib il v : Nat, lampPower ib il v = (2 * ((il - ib) * v) + 1000) / 2000) ∧
  (∀ ib il v : Nat, il ≤ 4000 → v ≤ 3200 → lampPower ib il v ≤ 12800) ∧
  (∀ v p n t : Nat,
    (v < 2000 → lampOutcome v p n t = .lowSupply) ∧
    (2000 ≤ v → p * 10 < n → lampOutcome v p n t = .open) ∧
    (2000 ≤ v → n ≤ p * 10 → p * 100 < n * (100 - t) → lampOutcome v p n t = .low) ∧
    (2000 ≤ v → n ≤ p * 10 → n * (100 - t) ≤ p * 100 → n * (100 + t) < p * 100 → lampOutcome v p n t = .high) ∧
    (lampOutcome v p n t = .pass ↔
      2000 ≤ v ∧ n ≤ p * 10 ∧ n * (100 - t) ≤ p * 100 ∧ p * 100 ≤ n * (100 + t)))

/-- The severity rises from PASS over DISTURBED, LOW_SUPPLY, NO_RESPONSE, COACH_REFUSED, HIGH and LOW to OPEN, and
NOT_CHECKED gives way to any; folding any list of standing outcomes into an entry leaves an outcome whose severity is
the greatest of the entry's and theirs; an equally severe outcome replaces the measured power, a less severe one
changes nothing; only DISTURBED, NO_RESPONSE and LOW_SUPPLY are tried again. A step with an outcome adds 1 to the
circuit's measurements; below try 3 one of the three is tried again with the position kept, and any other outcome is
folded in and the index moves on. -/
def Obligations.StandingOutcomeKeepsTheWorst : Prop :=
  (∀ (r : LampResult) (xs : List (LampOutcome × Option Nat)),
    (xs.foldl (fun e x => e.fold x.1 x.2) r).outcome.severity =
      xs.foldl (fun m x => max m x.1.severity) r.outcome.severity) ∧
  (∀ (r : LampResult) (o : LampOutcome) (p : Option Nat),
    (r.outcome.severity ≤ o.severity → r.fold o p = { r with outcome := o, power := p }) ∧
    (o.severity < r.outcome.severity → r.fold o p = r)) ∧
  (∀ x y : LampOutcome, x.severity = y.severity → x = y) ∧
  (∀ o : LampOutcome, o.retried = true ↔ o = .disturbed ∨ o = .noResponse ∨ o = .lowSupply) ∧
  [LampOutcome.notChecked, .pass, .disturbed, .lowSupply, .noResponse, .coachRefused, .high, .low, .open].map
    LampOutcome.severity = [0, 1, 2, 3, 4, 5, 6, 7, 8] ∧
  (∀ (r : LampResult) (o : LampOutcome) (p : Option Nat), r.outcome = .notChecked →
    r.fold o p = { r with outcome := o, power := p }) ∧
  (∀ l : Lcs,
    (l.outcome = none ∨ l.sequence.length ≤ l.index → l.judge = l) ∧
    ∀ o p c, l.outcome = some (o, p) → l.sequence[l.index]? = some c →
      let retried := o = .disturbed ∨ o = .noResponse ∨ o = .lowSupply
      let counted := l.results.map (fun r => if r.circuit = c then { r with measurements := r.measurements + 1 } else r)
      (retried → l.tries < 3 → l.judge = { l with results := counted, tries := l.tries + 1 }) ∧
      (¬ retried ∨ 3 ≤ l.tries → l.judge = { l with
        results := counted.map (fun r => if r.circuit = c then r.fold o p else r), index := l.index + 1, tries := 1 }))

/-- RANGE for a bay above 15, id 0, a lane preference above 2, a fleet number present as 0 or a waiver set above 15;
then STATE with the clock UNSET, DUPLICATE, FULL at 64 records, STATE ahead of a pinned active departure, each
changing nothing; else the record goes into the list, the bay's active departure is worked out, the record's late
check and the WRONG_BAY pass follow in this order, and the reply is OK, or OK_CLAMPED with the record as taken. That
an OK reply carries no data is read from R144 (log 27). Lane preference and waiver bits are read as coded. A bay's
active departure worked out anew is its earliest record; a change is told to the FRD (which clears
DEPARTURE_SCAN_DONE), the DKU, the HPL and the CLR, and the DPM's own conditions follow. That the CLR takes the wait
order before window and lane, with key and preference of the new record, is the model's choice (logs 40, 43), the
place of the own conditions its reading (log 26). -/
def Obligations.DepartureAddPutsTheRecordIn : Prop :=
  (∀ w : DepartureWords, departureFieldsOf w = none ↔
    3 ≤ w.lane.toNat ∨ (w.flags.getLsbD 1 = true ∧ w.fleet.toNat = 0)) ∧
  (∀ (w : DepartureWords) (f : DepartureFields), departureFieldsOf w = some f →
    f.time = w.time.toNat ∧ f.lead = min w.lead.toNat 30 ∧
    f.target = (if w.flags.getLsbD 0 then some (clampInt 50 300 w.target.toInt) else none) ∧
    f.fleet = (if w.flags.getLsbD 1 then some w.fleet.toNat else none) ∧ f.lampCheck = w.flags.getLsbD 2 ∧
    (f.clamped = true ↔ 30 < w.lead.toNat ∨
      (w.flags.getLsbD 0 = true ∧ (w.target.toInt < 50 ∨ 300 < w.target.toInt)))) ∧
  (∀ x : Byte, waiversOf x = none ↔ 16 ≤ x.toNat) ∧
  (∀ (id : Word16) (x : Byte) (w : DepartureWords) (v : Byte) (s : State),
    16 ≤ x.toNat ∨ departureFieldsOf w = none ∨ waiversOf v = none ∨ id.toNat = 0 →
    exec (.departureAdd id x w v) s = .next (s.sends 0xD0 [3, 2])) ∧
  (∀ (id : Word16) (b : BayNo) (w : DepartureWords) (v : Byte) (f : DepartureFields) (z : Waivers) (s : State),
    departureFieldsOf w = some f → waiversOf v = some z → id.toNat ≠ 0 →
    let go := exec (.departureAdd id (byte b.val) w v) s
    (s.clock.isSet = false → go = .next (s.sends 0xD0 [3, 4])) ∧
    (s.clock.isSet = true → s.departureOf id.toNat ≠ none → go = .next (s.sends 0xD0 [3, 8])) ∧
    (s.clock.isSet = true → s.departureOf id.toNat = none → 64 ≤ s.departures.length →
      go = .next (s.sends 0xD0 [3, 5])) ∧
    (s.clock.isSet = true → s.departureOf id.toNat = none → s.departures.length < 64 →
      s.aheadOfPinned b f.time = true → go = .next (s.sends 0xD0 [3, 4])) ∧
    (s.clock.isSet = true → s.departureOf id.toNat = none → s.departures.length < 64 →
      s.aheadOfPinned b f.time = false →
      let d : Departure := ⟨id.toNat, b, f.time, f.target, f.fleet, f.lampCheck, f.lane, f.lead, z, false⟩
      let t := perform ({ s with departures := insertDeparture d s.departures },
        [.workOut b, .lateCheck (some id.toNat)] ++ allBays.map .dkuWrongBay)
      (f.clamped = false → go = .next (t.sends 0xD0 [0])) ∧
      (f.clamped = true → ∀ e, t.departureOf id.toNat = some e → go = .next (t.sends 0xD0 (1 :: departureData t e))))) ∧
  (∀ (w : DepartureWords) (f : DepartureFields), departureFieldsOf w = some f →
    [LanePreference.a, .b, .either][w.lane.toNat]? = some f.lane) ∧
  (∀ (x : Byte) (z : Waivers), waiversOf x = some z → z.heatNotReady = x.getLsbD 0 ∧ z.heatFault = x.getLsbD 1 ∧
    z.heatStale = x.getLsbD 2 ∧ z.lampNotPassed = x.getLsbD 3) ∧
  (∀ (b : BayNo) (s : State),
    let n := (s.departures.find? (fun d => d.bay == b)).map Departure.id
    (n = (s.dpmAt b).active → handle (.workOut b) s = (s, [])) ∧
    (n ≠ (s.dpmAt b).active → handle (.workOut b) s = (s.modDpm b (fun d => { d with active := n }),
      [.frdActiveChanged b, .dkuMatch b, if n = none then .hplNone b else .hplForm b false, .clrDeparture b,
        .ownConditions b])) ∧
    handle (.frdActiveChanged b) s = (s.modFrd b (fun f => { f with scanDone := false }),
      if (s.frdAt b).scanDone = true then [.tellScan b] else []) ∧
    handle (.clrDeparture b) s = (if b ∈ s.waitOrder then
      { s with waitOrder := s.waitPlace b (s.waitOrder.filter (fun x => x != b)) } else s,
      [.clrWindow b, .clrOfferTo b]) ∧
    let c := (s.dpmAt b).conditions
    let own := match s.activeOf b with
      | none => { c with noDeparture := true, lampRequired := false, waivers := ⟨false, false, false, false⟩ }
      | some d => { c with noDeparture := false, lampRequired := d.lampCheck, waivers := d.waivers }
    handle (.ownConditions b) s =
      if own = c then (s, []) else handle (.rederive b) (s.modDpm b (fun d => { d with conditions := own })))

/-- Each of the three is answered for all operands and changes nothing given but the reply. Id 0 is refused with RANGE
and an id without a record with NOT_FOUND. CANCEL of a pinned record is refused with STATE, else the record leaves the
list, an active one's plan ends HOST_CANCEL and the active departure is worked out anew. AMEND of a pinned record, or
one that would stand ahead of a pinned one, is refused with STATE; one that changes nothing is only answered; else the
record takes the values, in place or, with a changed time, at its new place with its late-reported mark clear, the
late check of a new time follows, then the change or the amendment of the active departure, then the WRONG_BAY pass;
the reply is OK, or OK_CLAMPED with the record as taken. WAIVE replaces the waiver set, of a pinned record as of any
other, and an active departure's conditions follow. That an OK reply carries no data is read from R147 (log 27). -/
def Obligations.DepartureChangesActOnTheRecord : Prop :=
  (∀ (w : DepartureWords) (v : Byte) (s : State),
    exec (.departureAmend 0 w) s = .next (s.sends 0xD1 [3, 2]) ∧ exec (.departureCancel 0) s = .next (s.sends 0xD2 [3, 2]) ∧
    exec (.departureWaive 0 v) s = .next (s.sends 0xD3 [3, 2])) ∧
  (∀ (id : Word16) (w : DepartureWords) (s : State), departureFieldsOf w = none →
    exec (.departureAmend id w) s = .next (s.sends 0xD1 [3, 2])) ∧
  (∀ (id : Word16) (v : Byte) (s : State), 16 ≤ v.toNat →
    exec (.departureWaive id v) s = .next (s.sends 0xD3 [3, 2])) ∧
  (∀ (id : Word16) (w : DepartureWords) (v : Byte) (f : DepartureFields) (z : Waivers) (s : State), id.toNat ≠ 0 →
    departureFieldsOf w = some f → waiversOf v = some z →
    (s.departureOf id.toNat = none →
      exec (.departureAmend id w) s = .next (s.sends 0xD1 [3, 7]) ∧
      exec (.departureCancel id) s = .next (s.sends 0xD2 [3, 7]) ∧
      exec (.departureWaive id v) s = .next (s.sends 0xD3 [3, 7])) ∧
    (∀ d, s.departureOf id.toNat = some d →
      let pinned := (s.clrAt d.bay).state.pins = true ∧ (s.dpmAt d.bay).active = some d.id
      (pinned → exec (.departureCancel id) s = .next (s.sends 0xD2 [3, 4])) ∧
      (pinned ∨ s.aheadOfPinned d.bay f.time = true →
        exec (.departureAmend id w) s = .next (s.sends 0xD1 [3, 4])) ∧
      (¬ pinned → exec (.departureCancel id) s = .next ((perform
        ({ s with departures := s.departures.filter (fun x => x.id != d.id) },
          (if (s.dpmAt d.bay).active = some d.id then [.hplEnd d.bay .hostCancel, .workOut d.bay] else []) ++
            allBays.map .dkuWrongBay)).sends 0xD2 [0])) ∧
      (¬ pinned → s.aheadOfPinned d.bay f.time = false →
        let e := { d with
          time := f.time, target := f.target, fleet := f.fleet, lampCheck := f.lampCheck, lane := f.lane, lead := f.lead }
        let list := if d.time = f.time then s.departures.map (fun x => if x.id = d.id then { x with
            time := f.time, target := f.target, fleet := f.fleet, lampCheck := f.lampCheck, lane := f.lane
            lead := f.lead } else x)
          else insertDeparture { e with lateReported := false } (s.departures.filter (fun x => x.id != d.id))
        let first := (list.find? (fun x => x.bay == d.bay)).map Departure.id
        let u := if e = d then s else perform ({ s with departures := list },
          (if d.time = f.time then [] else [.lateCheck (some d.id)]) ++
          (if first ≠ (s.dpmAt d.bay).active then [.workOut d.bay]
            else if first = some d.id then [.amended d.bay (decide (d.fleet ≠ f.fleet))
              (decide (d.target ≠ f.target ∨ d.time ≠ f.time))
              (decide (d.time ≠ f.time ∨ d.lead ≠ f.lead ∨ d.lane ≠ f.lane))]
            else []) ++ allBays.map .dkuWrongBay)
        (f.clamped = false → exec (.departureAmend id w) s = .next (u.sends 0xD1 [0])) ∧
        (f.clamped = true → ∀ x, u.departureOf id.toNat = some x →
          exec (.departureAmend id w) s = .next (u.sends 0xD1 (1 :: departureData u x)))) ∧
      exec (.departureWaive id v) s = .next ((perform
        ({ s with departures := s.departures.map (fun x => if x.id = d.id then { x with waivers := z } else x) },
          if (s.dpmAt d.bay).active = some d.id then [.ownConditions d.bay] else [])).sends 0xD3 [0]))) ∧
  (∀ (b : BayNo) (fleet heat lane : Bool) (s : State), handle (.amended b fleet heat lane) s =
    (s, (if fleet then [.dkuMatch b] else []) ++ (if heat then [.hplAmended b] else []) ++
      (if lane then [.clrDeparture b] else []) ++ [.ownConditions b])) ∧
  (∀ (id : Word16) (w : DepartureWords) (v : Byte) (s : State), ∀ row ∈
    [Instr.departureAmend id w, .departureCancel id, .departureWaive id v],
    ∃ t, exec row s = .next t ∧ t.given = { s.given with sending := t.hli.sending })

/-- For every list in nondecreasing scheduled time, inserting a record keeps the list's own order, with the record
right behind those whose time is not later than its own. -/
def Obligations.InsertedRecordStandsBehindItsTime : Prop :=
  ∀ (d : Departure) (ds : List Departure), ds.Pairwise (fun x y => x.time ≤ y.time) →
    insertDeparture d ds =
      ds.filter (fun x => decide (x.time ≤ d.time)) ++ d :: ds.filter (fun x => decide (d.time < x.time))

/-- After a late check of the whole list no record without the mark is past its late point, the raisings were one LATE
per record found late in list order with its id, the records are otherwise unchanged, and a check right after reports
nothing. -/
def Obligations.LateRecordIsReportedOnce : Prop :=
  ∀ s : State,
    let r := lateCheck (fun _ => true) s
    (∀ d ∈ r.1.departures, d.lateReported = false → s.clock.time < min (d.time + 60 * s.setting 16) 4294967295) ∧
    r.2 = (s.departures.filter (fun d => !d.lateReported &&
      decide (min (d.time + 60 * s.setting 16) 4294967295 ≤ s.clock.time))).map (fun d =>
        .raise d.bay .late (.departure d.id) false) ∧
    r.1.departures.map (fun d => { d with lateReported := false }) =
      s.departures.map (fun d => { d with lateReported := false }) ∧
    lateCheck (fun _ => true) r.1 = (r.1, [])

/-- A push saves the set as it stands and adds the reasons; a pop makes the set saved last the set; both answer the
set and the depth after and change nothing else given but the set they name; a bay above 15 is refused with RANGE, a
stack of 4 saved sets with FULL, an empty one with EMPTY. A pop after a push restores set and stack. The change re-
derives the bay's effective hold set, or every bay's in bay order for the hall's. -/
def Obligations.HoldRequestsMoveTheStacks : Prop :=
  (∀ (x r : Byte) (s : State), 16 ≤ x.toNat → exec (.holdPush x r) s = .next (s.sends 0xE0 [3, 2]) ∧
    exec (.holdPop x) s = .next (s.sends 0xE1 [3, 2])) ∧
  (∀ (b : BayNo) (r : Byte) (s : State),
    let h := (s.dpmAt b).operator
    (4 ≤ h.saved.length → exec (.holdPush (byte b.val) r) s = .next (s.sends 0xE0 [3, 5])) ∧
    (h.saved.length < 4 → ∃ t, exec (.holdPush (byte b.val) r) s = .next t ∧ t.given = { s.given with
      operator := fun c => if c = b then ⟨h.set ||| r, h.set :: h.saved⟩ else (s.dpmAt c).operator,
      sending := some ⟨0xE0, [0, h.set ||| r, byte (h.saved.length + 1)]⟩ }) ∧
    (h.saved = [] → exec (.holdPop (byte b.val)) s = .next (s.sends 0xE1 [3, 6])) ∧
    (∀ x xs, h.saved = x :: xs → ∃ t, exec (.holdPop (byte b.val)) s = .next t ∧ t.given = { s.given with
      operator := fun c => if c = b then ⟨x, xs⟩ else (s.dpmAt c).operator,
      sending := some ⟨0xE1, [0, x, byte xs.length]⟩ })) ∧
  (∀ (r : Byte) (s : State),
    let h := s.hallHold
    (4 ≤ h.saved.length → exec (.hallHoldPush r) s = .next (s.sends 0xE2 [3, 5])) ∧
    (h.saved.length < 4 → ∃ t, exec (.hallHoldPush r) s = .next t ∧ t.given = { s.given with
      hallHold := ⟨h.set ||| r, h.set :: h.saved⟩,
      sending := some ⟨0xE2, [0, h.set ||| r, byte (h.saved.length + 1)]⟩ }) ∧
    (h.saved = [] → exec .hallHoldPop s = .next (s.sends 0xE3 [3, 6])) ∧
    (∀ x xs, h.saved = x :: xs → ∃ t, exec .hallHoldPop s = .next t ∧ t.given = { s.given with
      hallHold := ⟨x, xs⟩, sending := some ⟨0xE3, [0, x, byte xs.length]⟩ })) ∧
  (∀ (h : HoldStack) (r : Byte), (h.push r).pop = h) ∧
  (∀ (b : BayNo) (r : Byte) (s : State),
    let h := (s.dpmAt b).operator
    let put := fun (k : HoldStack) => perform (s.modDpm b (fun d => { d with operator := k }), [.rederive b])
    (h.saved.length < 4 → exec (.holdPush (byte b.val) r) s = .next
      ((put ⟨h.set ||| r, h.set :: h.saved⟩).sends 0xE0 [0, h.set ||| r, byte (h.saved.length + 1)])) ∧
    (∀ x xs, h.saved = x :: xs → exec (.holdPop (byte b.val)) s = .next
      ((put ⟨x, xs⟩).sends 0xE1 [0, x, byte xs.length]))) ∧
  (∀ (r : Byte) (s : State),
    let h := s.hallHold
    let put := fun (k : HoldStack) => perform ({ s with hallHold := k }, allBays.map .rederive)
    (h.saved.length < 4 → exec (.hallHoldPush r) s = .next
      ((put ⟨h.set ||| r, h.set :: h.saved⟩).sends 0xE2 [0, h.set ||| r, byte (h.saved.length + 1)])) ∧
    (∀ x xs, h.saved = x :: xs → exec .hallHoldPop s = .next ((put ⟨x, xs⟩).sends 0xE3 [0, x, byte xs.length])))

/-- Outside a freeze the automatic reasons follow the owner conditions with the waived ones removed; in a freeze they
are the frozen set; the operator part joins the bay's and the hall's sets. A re-derivation that yields the set
reported does nothing; any other records it, tells the CLR and raises HOLDS with HELD or CLEAR. A freeze keeps the
automatic set as derived when it begins; its end and a change of the scan-reliance mark derive the set anew. Each
owner's report (BFE, DKU, CLC, FRD, HPL, LCS) records its condition as it stands and derives the set anew; the HPL
reports changes only. -/
def Obligations.EffectiveHoldSetIsDerived : Prop :=
  (∀ (b : BayNo) (s : State),
    let d := s.dpmAt b
    let c := d.conditions
    let e := s.effective b
    e.operator = d.operator.set ||| s.hallHold.set ∧
    (d.frozen = true → e.auto = d.frozenSet) ∧
    (d.frozen = false →
      (e.auto.outOfService = true ↔ c.enabled = false) ∧ (e.auto.noDeparture = true ↔ c.noDeparture = true) ∧
      (e.auto.notDocked = true ↔ c.enabled = true ∧ c.docked = false) ∧ (e.auto.linkLost = true ↔ c.linkLost = true) ∧
      (e.auto.wrongCoach = true ↔ c.docked = true ∧ c.mismatch = true) ∧
      (e.auto.faultData = true ↔ c.docked = true ∧ (c.readSinceDocking = false ∨ c.unreadSinceFailure = true ∨
        (d.reliance = true ∧ c.scanDone = false))) ∧
      (e.auto.faultBlocking = true ↔ c.docked = true ∧ c.blocking = true) ∧
      (e.auto.heatNotReady = true ↔ c.docked = true ∧ c.readiness = .notReady ∧ c.waivers.heatNotReady = false) ∧
      (e.auto.heatFault = true ↔ c.docked = true ∧ c.readiness = .fault ∧ c.waivers.heatFault = false) ∧
      (e.auto.heatStale = true ↔ c.docked = true ∧ c.stale = true ∧ c.waivers.heatStale = false) ∧
      (e.auto.lampNotPassed = true ↔ c.docked = true ∧ c.lampRequired = true ∧ c.lampPassed = false ∧
        c.waivers.lampNotPassed = false))) ∧
  (∀ (b : BayNo) (s : State), s.effective b = (s.dpmAt b).reported → handle (.rederive b) s = (s, [])) ∧
  (∀ (b : BayNo) (s : State), s.effective b ≠ (s.dpmAt b).reported →
    handle (.rederive b) s = (s.modDpm b (fun d => { d with reported := s.effective b }),
      [.clrHolds b, .raise b .holds (.holds (s.effective b).held) false])) ∧
  (∀ (b : BayNo) (on : Bool) (s : State),
    let d := s.dpmAt b
    (d.frozen = on → handle (.tellFreeze b on) s = (s, [])) ∧
    (d.frozen = false → on = true → handle (.tellFreeze b on) s =
      handle (.rederive b) (s.modDpm b (fun d => { d with frozen := true, frozenSet := (s.effective b).auto }))) ∧
    (d.frozen = true → on = false → handle (.tellFreeze b on) s =
      handle (.rederive b) (s.modDpm b (fun d => { d with frozen := false, frozenSet := .none }))) ∧
    let relies := decide ((s.clrAt b).state = .queued ∨ (s.clrAt b).state = .clearing)
    handle (.tellReliance b) s = if d.reliance = relies then (s, [])
      else handle (.rederive b) (s.modDpm b (fun d => { d with reliance := relies }))) ∧
  (∀ (b : BayNo) (s : State),
    let c := (s.dpmAt b).conditions
    let holds := fun (c : Conditions) => handle (.rederive b) (s.modDpm b (fun d => { d with conditions := c }))
    let heat := { c with
      readiness := s.readiness b
      stale := decide ((s.hplAt b).plan.state ∈ [PlanState.waiting, .heating, .holding, .suspended] ∧
        ((s.hplAt b).stale = true ∨ (s.hplAt b).sample = none)) }
    handle (.tellService b) s = holds { c with enabled := (s.bfeAt b).enabled } ∧
    handle (.tellDock b) s = holds { c with
      docked := decide ((s.dkuAt b).state = .docked), mismatch := decide ((s.dkuAt b).matching = .mismatched) } ∧
    handle (.tellLink b) s = holds { c with linkLost := decide ((s.clcAt b).link = .lost) } ∧
    handle (.tellScan b) s = holds { c with
      readSinceDocking := (s.frdAt b).readSinceDocking, unreadSinceFailure := (s.frdAt b).unreadSinceFailure
      scanDone := (s.frdAt b).scanDone
      blocking := decide (∃ e ∈ (s.frdAt b).table.entries, e.active = true ∧ e.disposition = .blocking) } ∧
    handle (.tellHeat b) s = (if heat = c then (s, []) else holds heat) ∧
    handle (.tellLamp b) s = holds { c with lampPassed := decide ((s.lcsAt b).status = .passed) })

/-- A lane byte above 1 is refused with RANGE. Closing a FREE lane makes it CLOSED and raises LANE; closing a held
lane sets its close-pending mark; closing a CLOSED lane changes nothing. Opening a CLOSED lane makes it FREE, raises
LANE and offers it; opening a held lane clears the mark; opening a FREE lane changes nothing. Each is answered OK. A
FREE lane is granted to the first bay of the wait order that holds no lane and whose active departure's preference
admits it; a waiting bay is offered lane A before lane B; a QUEUED bay granted a lane enters CLEARING, a RECALLED one
CLEARED, out of the wait order, with its notices in order. A waiting bay without an active departure admits no lane
(log 33). -/
def Obligations.LaneRequestsCloseAndOpen : Prop :=
  (∀ (x : Byte) (s : State), 2 ≤ x.toNat → exec (.laneClose x) s = .next (s.sends 0xF0 [3, 2]) ∧
    exec (.laneOpen x) s = .next (s.sends 0xF1 [3, 2])) ∧
  (∀ (l : Lane) (s : State),
    let x : Byte := match l with | .a => 0 | .b => 1
    let r := s.laneAt l
    (r.state = .free →
      exec (.laneClose x) s = .next ((raiseHallFlag (s.modLane l (fun r => { r with state := .closed })) .lane
        (.lane l .closed)).sends 0xF0 [0, 3, if r.closePending then 1 else 0]) ∧
      exec (.laneOpen x) s = .next (s.sends 0xF1 [0, 0, if r.closePending then 1 else 0])) ∧
    (r.state = .granted →
      exec (.laneClose x) s = .next ((s.modLane l (fun r => { r with closePending := true })).sends 0xF0 [0, 1, 1]) ∧
      exec (.laneOpen x) s = .next ((s.modLane l (fun r => { r with closePending := false })).sends 0xF1 [0, 1, 0])) ∧
    (r.state = .passageWait →
      exec (.laneClose x) s = .next ((s.modLane l (fun r => { r with closePending := true })).sends 0xF0 [0, 2, 1]) ∧
      exec (.laneOpen x) s = .next ((s.modLane l (fun r => { r with closePending := false })).sends 0xF1 [0, 2, 0])) ∧
    (r.state = .closed →
      exec (.laneClose x) s = .next (s.sends 0xF0 [0, 3, if r.closePending then 1 else 0]) ∧
      let t := perform (s.modLane l (fun r => { r with state := .free }), [.raiseHall .lane (.lane l .free), .laneOffer l])
      exec (.laneOpen x) s = .next
        (t.sends 0xF1 [0, byte (t.laneAt l).state.code, if (t.laneAt l).closePending then 1 else 0]))) ∧
  (∀ s : State,
    let may := fun (b : BayNo) (l : Lane) => s.laneA.holder ≠ some b ∧ s.laneB.holder ≠ some b ∧
      ∃ d, s.activeOf b = some d ∧ (d.lane = .either ∨ (d.lane = .a ∧ l = .a) ∨ (d.lane = .b ∧ l = .b))
    let taken := fun (b : BayNo) (l : Lane) (st : ClearState) (aspect : Aspect) =>
      (((({ s with waitOrder := s.waitOrder.filter (fun x => x != b) } : State).modLane l (fun r =>
        { r with state := .granted, holder := some b })).modClr b (fun c =>
        { c with state := st, revoking := false })).modBfe b (fun f => { f with aspect := aspect }))
    let grant : Lane → BayNo → Reaction := fun l b =>
      if (s.clrAt b).state = .recalled then (taken b l .cleared .green,
        [.raise b .clearance (.clearance .cleared) false, .raiseHall .lane (.lane l .granted)])
      else (taken b l .clearing .amber,
        [.raise b .clearance (.clearance .clearing) false, .raiseHall .lane (.lane l .granted), .tellReliance b,
          .clrSuspend b, .clrStartTimers b, .clrOpenTest b])
    (∀ l, (s.laneAt l).state ≠ .free ∨ (∀ b ∈ s.waitOrder, ¬ may b l) → handle (.laneOffer l) s = (s, [])) ∧
    (∀ l before b after, (s.laneAt l).state = .free → s.waitOrder = before ++ b :: after → (∀ x ∈ before, ¬ may x l) →
      may b l → handle (.laneOffer l) s = grant l b) ∧
    (∀ b, b ∉ s.waitOrder → handle (.clrOfferTo b) s = (s, [])) ∧
    (∀ b, b ∈ s.waitOrder →
      (s.laneA.state = .free → may b .a → handle (.clrOfferTo b) s = grant .a b) ∧
      (s.laneA.state ≠ .free ∨ ¬ may b .a → s.laneB.state = .free → may b .b →
        handle (.clrOfferTo b) s = grant .b b) ∧
      (s.laneA.state ≠ .free ∨ ¬ may b .a → s.laneB.state ≠ .free ∨ ¬ may b .b →
        handle (.clrOfferTo b) s = (s, [])))) ∧
  (∀ (b : BayNo) (s : State), (s.clrAt b).state = .clearing →
    handle (.clrSuspend b) s = (s, [.hplAddClearing b]) ∧
    handle (.clrStartTimers b) s =
      (s.modClr b (fun c => { c with plugTimer := some (s.setting 14 * 1000), openWait := some 10000 }), []))

/-- In CLEARING with no request standing the open-wait timer reaches the contactor-open point; the plug timer revokes
a CLEARING in its order, the bay standing in PREPARING until it is settled last (log 18); a lane timer, or a passage
after at least 100 ms, on a lane in PASSAGE_WAIT releases it, FREE and offered or CLOSED where a close is pending,
then its former holder takes a free lane; a passage on any other lane raises GATE_UNEXPECTED and leaves the lane.
Timer rows act whatever time is left, and a timer that is not running, a gate that was not active, changes nothing
(logs 3, 4). A docked bay settles by R163's table, placed in the wait order by its key; a hold revokes a CLEARING,
recalls a CLEARED bay, takes a RECALLED one out of the order; a plug-out in CLEARING clears the bay. Model's choices:
a bay without an active departure holds no window point (log 7) and its key in the wait order is 0 (log 33); key and
preference are those of the record the DPM holds (log 43). -/
def Obligations.ClearanceTimersAndPassagesAct : Prop :=
  (∀ (b : BayNo) (s : State),
    (∃ t, exec (.openWaitTimer b) s = .next t ∧ t.given = s.given) ∧
    (∃ t, exec (.plugTimer b) s = .next t ∧ t.given = s.given) ∧
    ((s.clrAt b).openWait = none → exec (.openWaitTimer b) s = .next s) ∧
    ((s.clrAt b).openWait ≠ none → (s.clrAt b).state = .clearing → (s.clrAt b).openRequest = false →
      exec (.openWaitTimer b) s = .next
        (perform (s.modClr b (fun c => { c with openWait := none, openRequest := true }), [.contactor b]))) ∧
    ((s.clrAt b).plugTimer = none → exec (.plugTimer b) s = .next s) ∧
    ((s.clrAt b).plugTimer ≠ none → (s.clrAt b).state ≠ .clearing → exec (.plugTimer b) s =
      .next (s.modClr b (fun c => { c with plugTimer := none })))) ∧
  (∀ (b : BayNo) (s : State), (s.clrAt b).state = .clearing →
    let held := (s.dpmAt b).reported.held
    let out := (s.modClr b (fun c => { c with
      state := .preparing, plugTimer := none, openWait := none, openRequest := false, revoking := true })).modBfe b
        (fun f => { f with aspect := .red })
    let told := out.modClr b (fun c => { c with holds := (s.dpmAt b).reported })
    ((∀ l, (s.laneAt l).holder ≠ some b) →
      ((s.clrAt b).plugTimer ≠ none → exec (.plugTimer b) s = .next (perform
        (out, [.contactor b, .hplDropClearing b, .clrRevokeEnd b true]))) ∧
      (held = true → handle (.clrHolds b) s = (told, [.contactor b, .hplDropClearing b, .clrRevokeEnd b false]))) ∧
    (∀ l, (s.laneAt l).state = .granted → (s.laneAt l).holder = some b → (∀ k, k ≠ l → (s.laneAt k).holder ≠ some b) →
      let st : LaneState := if (s.laneAt l).closePending then .closed else .free
      let freed : List Notice := .raiseHall .lane (.lane l st) ::
        (if (s.laneAt l).closePending then [] else [.laneOffer l])
      ((s.clrAt b).plugTimer ≠ none → exec (.plugTimer b) s = .next (perform
        (out.modLane l (fun _ => ⟨st, none, false, none⟩),
          .contactor b :: freed ++ [.hplDropClearing b, .clrRevokeEnd b true]))) ∧
      (held = true → handle (.clrHolds b) s =
        (told.modLane l (fun _ => ⟨st, none, false, none⟩),
          .contactor b :: freed ++ [.hplDropClearing b, .clrRevokeEnd b false]))) ∧
    (held = false → handle (.clrHolds b) s =
      (s.modClr b (fun c => { c with holds := (s.dpmAt b).reported }), [])) ∧
    handle (.clrPlugOut b) s = ((s.modClr b (fun c => { c with
        state := .cleared, plugTimer := none, openWait := none, revoking := false })).modBfe b (fun f =>
          { f with aspect := .green }),
      [.raise b .clearance (.clearance .cleared) false, .tellReliance b, .tellFreeze b true, .hplPlugOut b,
        .dkuRetain b])) ∧
  (∀ (b : BayNo) (timeout : Bool) (s : State),
    let ends : List Notice :=
      [.tellReliance b, .raise b .clearance (if timeout then .plugTimeout else .revoked) false]
    ((s.clrAt b).revoking = false → handle (.clrRevokeEnd b timeout) s = (s, [])) ∧
    ((s.clrAt b).revoking = true → (s.clrAt b).holds.held = true → handle (.clrRevokeEnd b timeout) s =
      ((s.modClr b (fun c => { c with state := .preparing, revoking := false })).modBfe b (fun f =>
        { f with aspect := .red }), ends)) ∧
    ((s.clrAt b).revoking = true → (s.clrAt b).holds.held = false → handle (.clrRevokeEnd b timeout) s =
      ((s.modClr b (fun c => { c with state := .ready, revoking := false })).modBfe b (fun f =>
        { f with aspect := .amber }), .clrSettle b :: ends))) ∧
  (∀ (l : Lane) (s : State),
    let r := s.laneAt l
    let gate : Option Nat := match l with | .a => s.hallInputs.gateA | .b => s.hallInputs.gateB
    let still : State := match l with
      | .a => { s with hallInputs := { s.hallInputs with gateA := none } }
      | .b => { s with hallInputs := { s.hallInputs with gateB := none } }
    let st : LaneState := if r.closePending then .closed else .free
    let after : List Notice := (if r.closePending then [] else [.laneOffer l]) ++
      (match r.holder with | some h => [.clrOfferTo h] | none => [])
    (∃ t, exec (.laneTimer l) s = .next t ∧ t.given = s.given) ∧
    (∃ t, exec (.gatePassage l) s = .next t) ∧
    (r.state ≠ .passageWait → r.timer = none → exec (.laneTimer l) s = .next s) ∧
    (r.state = .passageWait → r.timer ≠ none → exec (.laneTimer l) s = .next (perform
      (s.modLane l (fun _ => ⟨st, none, false, none⟩), .raiseHall .lane (.laneTimeout l) :: after))) ∧
    (gate = none → exec (.gatePassage l) s = .next s) ∧
    (∀ n, gate = some n → 100 ≤ n → r.state = .passageWait → exec (.gatePassage l) s = .next (perform
      (still.modLane l (fun _ => ⟨st, none, false, none⟩), .raiseHall .lane (.lane l st) :: after))) ∧
    (∀ n, gate = some n → 100 ≤ n → r.state ≠ .passageWait →
      exec (.gatePassage l) s = .next (raiseHallFlag still .gateUnexpected (.gate l)))) ∧
  (∀ (b : BayNo) (s : State),
    let c := s.clrAt b
    let at_ := fun (held : Bool) => if held = true then ClearState.preparing else if c.windowOpen = false then .ready
      else if (s.frdAt b).scanDone = true then .queued else .scanning
    let st := at_ c.holds.held
    (c.state ∈ [ClearState.preparing, .ready, .scanning, .queued] → c.revoking = false →
      handle (.clrSettle b) s = (if st = c.state then (s, []) else moveTo b st s) ∧
      let s1 := s.modClr b (fun c => { c with holds := (s.dpmAt b).reported })
      handle (.clrHolds b) s = (if at_ (s.dpmAt b).reported.held = c.state then (s1, [])
        else moveTo b (at_ (s.dpmAt b).reported.held) s1)) ∧
    (c.state = .docking → handle (.clrDocked b) s = moveTo b st s) ∧
    (c.state = .scanning → handle (.clrScanCommitted b) s = if st = c.state then (s, []) else moveTo b st s) ∧
    let point := (s.activeOf b).map (fun d => d.time - 60 * d.lead)
    let open_ := decide (∃ p ∈ point, p ≤ s.clock.time)
    handle (.clrWindow b) s = (s.modClr b (fun c => { c with windowPoint := point, windowOpen := open_ }),
      if open_ = c.windowOpen then [] else [.clrSettle b])) ∧
  (∀ (b : BayNo) (st : ClearState) (s : State),
    let old := (s.clrAt b).state
    let rest := s.waitOrder.filter (fun x => x != b)
    moveTo b st s =
      ((({ s with waitOrder := if st = .queued then s.waitPlace b rest else if old = .queued then rest else s.waitOrder } :
          State).modClr b (fun c => { c with state := st, revoking := false })).modBfe b (fun f =>
          { f with aspect := st.aspect }),
        [.raise b .clearance (.clearance st) false] ++
          (if old = .queued ∨ st = .queued then [.tellReliance b] else []) ++
          (if st = .scanning then [.frdRequest b .departure] else []) ++
          (if st = .queued then [.clrOfferTo b] else []))) ∧
  (∀ (b : BayNo) (xs : List BayNo) (s : State),
    let key := fun x => match s.activeOf x with | some d => d.time | none => 0
    let ahead := fun (x y : BayNo) => key x < key y ∨ (key x = key y ∧ x.val < y.val)
    (s.waitPlace b xs).Perm (b :: xs) ∧
    (b ∉ xs → xs.Pairwise ahead → (s.waitPlace b xs).Pairwise ahead)) ∧
  (∀ (b : BayNo) (s : State),
    let h := (s.dpmAt b).reported
    let told := s.modClr b (fun c => { c with holds := h })
    let rest := s.waitOrder.filter (fun x => x != b)
    ((s.clrAt b).state = .recalled → h.held = true → handle (.clrHolds b) s = ({ told with waitOrder := rest }, [])) ∧
    ((s.clrAt b).state = .recalled → h.held = false →
      handle (.clrHolds b) s = ({ told with waitOrder := s.waitPlace b rest }, [.clrOfferTo b])) ∧
    ((s.clrAt b).state = .cleared → h.held = true → ∀ l, (s.laneAt l).state = .granted →
      (s.laneAt l).holder = some b → (∀ k, k ≠ l → (s.laneAt k).holder ≠ some b) →
      let st : LaneState := if (s.laneAt l).closePending then .closed else .free
      handle (.clrHolds b) s =
        (((told.modLane l (fun _ => ⟨st, none, false, none⟩)).modClr b (fun c =>
            { c with state := .recalled, revoking := false })).modBfe b (fun f => { f with aspect := .red }),
          .raiseHall .lane (.lane l st) :: (if (s.laneAt l).closePending then [] else [.laneOffer l]) ++
            [.raise b .clearance (.clearance .recalled) false])))

/-- RAW_INPUT_CHANGE records the level and starts the 2 s, 0.5 s or 0.5 s timer where it differs from the debounced
state, clears it where it agrees; a gate's activation begins, one shorter than 100 ms ends without a passage, and one
that has lasted 100 ms ends as GATE_PASSAGE does (log 4). PRESENCE_CHANGE, PLUG_CHANGE and SHED_LINE_CHANGE with their
timer running turn the debounced state and hand on what the rules say, in order (log 10 for a plug-out); without it
they change nothing (log 3). A presence makes an EMPTY bay ARRIVED, a vacancy an ARRIVED one EMPTY. A vacancy in
CLEARED or RECALLED takes the bay out of the wait order, withdraws the open request, makes it EMPTY and DARK, ends the
freeze, puts its GRANTED lane into PASSAGE_WAIT with the lane timer running, reports the departed event, CLEARED or
UNCLEARED, and discards the retained session; a plug-in there releases the lane and makes it DOCKING. The departed
event takes the active departure off the list, raises DEPARTED, has the active departure worked out and WRONG_BAY re-
evaluated in every bay. -/
def Obligations.FieldInputsAreDebounced : Prop :=
  (∀ (b : BayNo) (level : Bool) (s : State),
    exec (.rawInputChange (.presence b) level) s = .next (s.modBfe b (fun f => { f with
      rawPresence := level,
      presenceTimer := if level = f.presence then none else some (f.presenceTimer.getD 2000) })) ∧
    exec (.rawInputChange (.plug b) level) s = .next (s.modBfe b (fun f => { f with
      rawPlug := level, plugTimer := if level = f.plug then none else some (f.plugTimer.getD 500) })) ∧
    exec (.rawInputChange .shed level) s = .next { s with hallInputs := { s.hallInputs with
      rawShed := level,
      shedTimer := if level = s.hallInputs.shed then none else some (s.hallInputs.shedTimer.getD 500) } }) ∧
  (∀ s : State,
    exec (.rawInputChange (.gate .a) true) s = .next { s with hallInputs := { s.hallInputs with
      gateA := some (s.hallInputs.gateA.getD 0) } } ∧
    (s.hallInputs.gateA.getD 0 < 100 → exec (.rawInputChange (.gate .a) false) s =
      .next { s with hallInputs := { s.hallInputs with gateA := none } }) ∧
    exec (.rawInputChange (.gate .b) true) s = .next { s with hallInputs := { s.hallInputs with
      gateB := some (s.hallInputs.gateB.getD 0) } } ∧
    (s.hallInputs.gateB.getD 0 < 100 → exec (.rawInputChange (.gate .b) false) s =
      .next { s with hallInputs := { s.hallInputs with gateB := none } }) ∧
    (100 ≤ s.hallInputs.gateA.getD 0 →
      exec (.rawInputChange (.gate .a) false) s = exec (.gatePassage .a) s) ∧
    (100 ≤ s.hallInputs.gateB.getD 0 →
      exec (.rawInputChange (.gate .b) false) s = exec (.gatePassage .b) s)) ∧
  (∀ (b : BayNo) (s : State),
    let f := s.bfeAt b
    (f.presenceTimer = none → exec (.presenceChange b) s = .next s) ∧
    (f.presenceTimer ≠ none → exec (.presenceChange b) s = .next (perform
      (s.modBfe b (fun f => { f with presence := !f.presence, presenceTimer := none }),
        (if f.plug = true ∧ f.presence = true then [.raise b .sensor .plain false] else []) ++
        (if f.enabled = true ∧ f.plug = false then [.clrPresence b (!f.presence)] else [])))) ∧
    (f.plugTimer = none → exec (.plugChange b) s = .next s) ∧
    (f.plugTimer ≠ none → f.plug = false → exec (.plugChange b) s = .next (perform
      (s.modBfe b (fun f => { f with plug := true, plugTimer := none }),
        (if f.presence = false then [.raise b .sensor .plain false] else []) ++
        (if f.enabled = true then [.contactor b] ++ (if f.presence = false then [.clrPresence b true] else []) ++
          [.clcUp b, .dkuStart b, .falRecompute, .clrPlugIn b] else [])))) ∧
    (f.plugTimer ≠ none → f.plug = true → exec (.plugChange b) s = .next (perform
      (s.modBfe b (fun f => { f with plug := false, plugTimer := none }),
        if f.enabled = true then
          [.contactor b, .clrPlugOut b] ++
          (if (s.clrAt b).state = .clearing then [] else [.dkuUndock b .plugOut]) ++ [.clcDown b, .falRecompute] ++
          (if f.presence = false then [.clrPresence b false] else [])
        else [])))) ∧
  (∀ s : State,
    (s.hallInputs.shedTimer = none → exec .shedLineChange s = .next s) ∧
    (s.hallInputs.shedTimer ≠ none → exec .shedLineChange s = .next (perform
      ({ s with
        hallInputs := { s.hallInputs with shed := !s.hallInputs.shed, shedTimer := none },
        feeder := { s.feeder with shedLine := if s.hallInputs.shed then 0 else 1 } },
        [.raiseHall .shed (.shed true), .falRecompute])))) ∧
  (∀ (b : BayNo) (s : State),
    let state := (s.clrAt b).state
    let enter := fun (st : ClearState) (a : Aspect) (t : State) => (t.modClr b (fun c => { c with
      state := st, revoking := false })).modBfe b (fun f => { f with aspect := a })
    let out := ({ s with waitOrder := s.waitOrder.filter (fun x => x != b) } : State).modClr b (fun c =>
      { c with openRequest := false })
    let holds := fun l => (s.laneAt l).state = .granted ∧ (s.laneAt l).holder = some b
    (state = .empty → handle (.clrPresence b true) s =
      (enter .arrived .red s, [.raise b .clearance (.clearance .arrived) false])) ∧
    (state = .arrived → handle (.clrPresence b false) s =
      (enter .empty .dark s, [.raise b .clearance (.clearance .empty) false])) ∧
    (state ≠ .empty → handle (.clrPresence b true) s = (s, [])) ∧
    (state ∉ [ClearState.arrived, .cleared, .recalled] → handle (.clrPresence b false) s = (s, [])) ∧
    (state = .cleared ∨ state = .recalled →
      let wasCleared := decide (state = .cleared)
      (∀ l, holds l → (∀ k, k ≠ l → ¬ holds k) → handle (.clrPresence b false) s =
        (enter .empty .dark (out.modLane l (fun r => { r with
          state := .passageWait, timer := some (s.setting 15 * 1000) })),
          [.raise b .clearance (.clearance .empty) false, .contactor b, .tellFreeze b false,
            .raiseHall .lane (.lane l .passageWait), .departed b wasCleared, .dkuDiscard b])) ∧
      ((∀ l, ¬ holds l) → handle (.clrPresence b false) s = (enter .empty .dark out,
        [.raise b .clearance (.clearance .empty) false, .contactor b, .tellFreeze b false, .departed b wasCleared,
          .dkuDiscard b])) ∧
      (∀ l, holds l → (∀ k, k ≠ l → ¬ holds k) →
        let st : LaneState := if (s.laneAt l).closePending = true then .closed else .free
        handle (.clrPlugIn b) s = (enter .docking .red (out.modLane l (fun _ => ⟨st, none, false, none⟩)),
          [.contactor b, .raiseHall .lane (.lane l st)] ++
            (if (s.laneAt l).closePending = true then [] else [.laneOffer l]) ++
            [.raise b .clearance (.clearance .docking) false, .tellFreeze b false])) ∧
      ((∀ l, ¬ holds l) → handle (.clrPlugIn b) s = (enter .docking .red out,
        [.contactor b, .raise b .clearance (.clearance .docking) false, .tellFreeze b false]))) ∧
    (state = .arrived → handle (.clrPlugIn b) s = moveTo b .docking s) ∧
    (state ∉ [ClearState.arrived, .cleared, .recalled] → handle (.clrPlugIn b) s = (s, [])) ∧
    (state ∈ [ClearState.docking, .preparing, .ready, .scanning, .queued] →
      handle (.clrPlugOut b) s = moveTo b .arrived s) ∧
    (state ∈ [ClearState.outOfService, .empty, .arrived, .cleared, .recalled] →
      handle (.clrPlugOut b) s = (s, [])) ∧
    (∀ why, handle (.clrUndocked b why) s =
      if (why = .redock ∨ why = .identity) ∧ state ∈ [ClearState.preparing, .ready, .scanning, .queued] then
        moveTo b .docking s else (s, []))) ∧
  (∀ (b : BayNo) (cleared : Bool) (id : Nat) (s : State), (s.dpmAt b).active = some id →
    handle (.departed b cleared) s = ({ s with departures := s.departures.filter (fun d => d.id != id) },
      [.raise b .departed (.departure id) (!cleared), .workOut b] ++ allBays.map .dkuWrongBay))

/-- LINE_QUIET_SEND puts the request's frame on a free line that has been quiet for 2 ms, or after the 100 ms wait,
and else changes nothing; REQUEST_SENT opens the reply window for 100 ms, or only clears the line when the transaction
has gone, also with another one ready; REPLY_START with SYNC ends the wait, and any REPLY_START the line's quiet time
(one with another character in a window that waits fails the attempt: FailedAttemptsAreRepeatedAndCounted); on a LOST
link with nothing in flight the re-probe timer begins a STATUS of a DOCKED bay and an IDENT of any other; the poll
timer starts its next period and submits a POLL on an ACTIVE link with none pending or in flight, else drops the
expiry. An ACTIVE link with nothing in flight takes the pending request of the highest class, HEAT, LAMP, READ, POLL;
a HEAT submission replaces the pending one and is held on a LOST link; a LAMP or READ submission is refused unless the
link is ACTIVE and the slot empty. A DOWN link comes up empty; going down it empties everything but the attempt-error
count and tells the DPM, raising LINK where it was LOST; a session discard empties the work of an ACTIVE or LOST link;
the reported transaction gives way to the next; an undocking stops the poll timer. Rows that act whatever time is
left, rows without their condition that change nothing, the reply start that REPLY_START carries, the frame on the
line and the quiet time are the model's forms (logs 3, 4, 25, 36), and so is the phase reporting (log 11). A request's
frame is SYNC 0xA5, LEN, the request's code, its payload and CHECK, for each of the seven kinds; CHECK is the CRC-8
over LEN, KIND and payload, each byte most significant bit first from 0 with the polynomial 0x07, and over "123456789"
gives 0xF4. -/
def Obligations.LinkTimingEventsAct : Prop :=
  ((∀ (b : BayNo) (s : State) (f : InFlight), (s.clcAt b).inflight = some f →
    (∀ n, f.phase = .ready n → (s.clcAt b).lineOut = [] → 2 ≤ (s.clcAt b).quiet ∨ n = 0 →
      exec (.lineQuietSend b) s = .next (s.modClc b (fun c =>
        { c with inflight := some { f with phase := .sending }, lineOut := f.request.frame }))) ∧
    (∀ n, f.phase = .ready n → (s.clcAt b).lineOut ≠ [] ∨ ((s.clcAt b).quiet < 2 ∧ n ≠ 0) →
      exec (.lineQuietSend b) s = .next s) ∧
    ((∀ n, f.phase ≠ .ready n) → exec (.lineQuietSend b) s = .next s) ∧
    (f.phase = .sending → (s.clcAt b).lineOut ≠ [] → exec (.requestSent b) s = .next (s.modClc b (fun c =>
      { c with lineOut := [], inflight := some { f with phase := .waiting 100 } }))) ∧
    (∀ n, f.phase = .waiting n → exec (.replyStart ⟨b, 0xA5⟩) s = .next (s.modClc b (fun c =>
      { c with inflight := some { f with phase := .receiving }, quiet := 0 }))) ∧
    ((∀ n, f.phase ≠ .waiting n) → ∀ start : Byte,
      exec (.replyStart ⟨b, start⟩) s = .next (s.modClc b (fun c => { c with quiet := 0 }))) ∧
    (f.phase ≠ .sending → (s.clcAt b).lineOut ≠ [] →
      exec (.requestSent b) s = .next (s.modClc b (fun c => { c with lineOut := [] })))) ∧
  (∀ (b : BayNo) (s : State), (s.clcAt b).inflight = none →
    exec (.lineQuietSend b) s = .next s ∧
    (∀ start : Byte, exec (.replyStart ⟨b, start⟩) s = .next (s.modClc b (fun c => { c with quiet := 0 }))) ∧
    ((s.clcAt b).lineOut ≠ [] → exec (.requestSent b) s = .next (s.modClc b (fun c => { c with lineOut := [] }))) ∧
    ((s.clcAt b).link = .lost → (s.clcAt b).reprobe ≠ none →
      exec (.reprobeTimer b) s = .next (s.modClc b (fun c => { c with
        reprobe := none
        inflight := some ⟨if (s.dkuAt b).state = .docked then .status else .ident, none, 1, .ready 100⟩ })))) ∧
  (∀ (b : BayNo) (s : State),
    let c := s.clcAt b
    (c.lineOut = [] → exec (.requestSent b) s = .next s) ∧
    (c.link ≠ .lost ∨ c.reprobe = none → exec (.reprobeTimer b) s = .next s) ∧
    (c.poll = none → exec (.pollTimer b) s = .next s) ∧
    (c.poll ≠ none → c.link ≠ .active ∨ c.polling = true → exec (.pollTimer b) s = .next (s.modClc b (fun c =>
      { c with poll := some (s.setting 4 * 1000) }))) ∧
    (c.poll ≠ none → c.link = .active → c.polling = false → c.inflight ≠ none →
      exec (.pollTimer b) s = .next (s.modClc b (fun c =>
        { c with poll := some (s.setting 4 * 1000), pollSlot := true }))) ∧
    (c.poll ≠ none → c.link = .active → c.polling = false → c.inflight = none → c.heatSlot = none →
      c.lampSlot = none → c.readSlot = none → exec (.pollTimer b) s = .next (s.modClc b (fun c =>
        { c with poll := some (s.setting 4 * 1000), inflight := some ⟨.status, some .poll, 1, .ready 100⟩ }))))) ∧
  (∀ c : Clc,
    let begins := fun (r : BayRequest) (cls : TxClass) (c : Clc) => { c with inflight := some ⟨r, some cls, 1, .ready 100⟩ }
    (c.link ≠ .active ∨ c.inflight ≠ none → c.arbitrate = c) ∧
    (c.link = .active → c.inflight = none →
      (∀ n, c.heatSlot = some n → c.arbitrate = begins (.stage n) .heat { c with heatSlot := none }) ∧
      (c.heatSlot = none →
        (∀ k on, c.lampSlot = some (k, on) → c.arbitrate = begins (.lamp k on) .lamp { c with lampSlot := none }) ∧
        (c.lampSlot = none →
          (∀ r, c.readSlot = some r → c.arbitrate = begins r .read { c with readSlot := none }) ∧
          (c.readSlot = none → c.pollSlot = true → c.arbitrate = begins .status .poll { c with pollSlot := false }) ∧
          (c.readSlot = none → c.pollSlot = false → c.arbitrate = c)))) ∧
    (∀ n, c.submitHeat n = if c.link = .down then c else { c with heatSlot := some n }.arbitrate) ∧
    (∀ k on, c.submitLamp k on =
      if c.link = .active ∧ c.lampSlot = none then { c with lampSlot := some (k, on) }.arbitrate else c) ∧
    ∀ r, c.submitRead r = if c.link = .active ∧ c.readSlot = none then { c with readSlot := some r }.arbitrate else c) ∧
  (∀ (b : BayNo) (s : State),
    let c := s.clcAt b
    let bare := fun (c : Clc) => { c with
      heatSlot := none, lampSlot := none, readSlot := none, pollSlot := false, inflight := none, lastStatus := none }
    (c.link = .down → handle (.clcUp b) s =
      (s.modClc b (fun c => { bare c with link := .active, failures := 0 }), [])) ∧
    (c.link ≠ .down → handle (.clcUp b) s = (s, [])) ∧
    handle (.clcDown b) s =
      (s.modClc b (fun c => { bare c with link := .down, failures := 0, reprobe := none, poll := none }),
        .tellLink b :: if c.link = .lost then [.raise b .link (.link .down) false] else []) ∧
    (c.link = .down → handle (.clcDiscard b) s = (s, [])) ∧
    (c.link = .active → handle (.clcDiscard b) s =
      (s.modClc b (fun c => { bare c with failures := 0, poll := none }), [])) ∧
    (c.link = .lost → handle (.clcDiscard b) s = (s.modClc b (fun c => { bare c with
      poll := none, reprobe := if c.inflight.map InFlight.cls = some none then some 5000 else c.reprobe }), [])) ∧
    (c.inflight = none ∨ (∃ f, c.inflight = some f ∧ f.phase = .reporting) → handle (.clcNext b) s =
      (s.modClc b (fun c => { c with inflight := none }.arbitrate), [])) ∧
    (∀ f, c.inflight = some f → f.phase ≠ .reporting → handle (.clcNext b) s = (s, [])) ∧
    handle (.clcStopPoll b) s = (s.modClc b (fun c => { c with poll := none }), [])) ∧
  (∀ (i n k : Nat) (on : Bool),
    let num := fun (x : Nat) => BitVec.ofNat 8 x
    let frame := fun (kind : Byte) (payload : List Byte) =>
      let covered := num payload.length :: kind :: payload
      0xA5 :: covered ++ [crc8 covered]
    BayRequest.ident.frame = frame 0x10 [] ∧ (BayRequest.desc i).frame = frame 0x11 [num i] ∧
    BayRequest.fcount.frame = frame 0x12 [] ∧ (BayRequest.fread i).frame = frame 0x13 [num i] ∧
    BayRequest.status.frame = frame 0x14 [] ∧
    (BayRequest.lamp k on).frame = frame 0x15 [num k, if on = true then 1 else 0] ∧
    (BayRequest.stage n).frame = frame 0x16 [num n]) ∧
  crc8 [] = 0 ∧ crc8 [0x31, 0x32, 0x33, 0x34, 0x35, 0x36, 0x37, 0x38, 0x39] = 0xF4 ∧
  (∀ (xs : List Byte) (x : Byte), crc8 (xs ++ [x]) = (List.range 8).foldl
    (fun (c : Byte) _ => if c.getLsbD 7 = true then (c <<< 1) ^^^ 0x07 else c <<< 1) (crc8 xs ^^^ x))

/-- NO_REPLY, REPLY_GAP, REPLY_CHARACTER_ERROR, a REPLY_START whose character is not SYNC and a REPLY_FRAME that does
not begin with SYNC, is too long, has a bad CHECK or is a WRONG_REPLY act alike, those that carry characters ending
the line's quiet time: before the third attempt the same request is made ready again; at the third of a transaction
with no failure before it the count becomes 1 and FAILED is reported; with one before it the link enters LOST with its
reports and notices in order; a failed re-probe restarts the re-probe timer. The attempt-error count rises by 1 up to
65,535. NO_REPLY acts whatever time is left (log 3), and an ended transaction stands in the phase reporting until its
reports are made (log 11). That the rows carry the reply start, and the frame's characters again with it, is the
model's form (log 25). That a character received sets the line's quiet time (R17) to 0, a field of the model's own, is
its form of the quiet condition (log 36). What a good CHECK and a WRONG_REPLY are is pinned in LinkTimingEventsAct and
GoodReplyEndsTheTransaction. -/
def Obligations.FailedAttemptsAreRepeatedAndCounted : Prop :=
  ∀ (b : BayNo) (row : Instr) (s : State) (f : InFlight), (s.clcAt b).inflight = some f → FailsAttempt b f row →
    (s.clcAt b).attemptErrors ≤ 65535 →
    let errors := min ((s.clcAt b).attemptErrors + 1) 65535
    let quiet := if hearsCharacter row then 0 else (s.clcAt b).quiet
    (f.attempt < 3 → exec row s = .next (s.modClc b (fun c => { c with
      attemptErrors := errors, quiet := quiet, inflight := some { f with attempt := f.attempt + 1, phase := .ready 100 } }))) ∧
    (3 ≤ f.attempt → f.cls = none → exec row s = .next (s.modClc b (fun c => { c with
      attemptErrors := errors, quiet := quiet, inflight := none, reprobe := some 5000 }))) ∧
    (∀ cls, 3 ≤ f.attempt → f.cls = some cls → (s.clcAt b).failures = 0 → exec row s = .next (perform
      (s.modClc b (fun c => { c with
          attemptErrors := errors, quiet := quiet, failures := 1, inflight := some { f with phase := .reporting } }),
        reportOf b cls f.request .failed ++ [.clcNext b]))) ∧
    (∀ cls, 3 ≤ f.attempt → f.cls = some cls → (s.clcAt b).failures ≠ 0 → exec row s = .next (perform
      (s.modClc b (fun c => { c with
          attemptErrors := errors, quiet := quiet, link := .lost, failures := 0, reprobe := some 5000, heatSlot := none,
          lampSlot := none, readSlot := none, pollSlot := false, inflight := some { f with phase := .reporting } }),
        reportOf b cls f.request .failed ++ (s.clcAt b).failPending b ++
          [.tellLink b, .falLost b, .hplAddLink b, .lcsLost b, .frdLost b, .raise b .link (.link .lost) false,
            .clcNext b])))

/-- In an open reply window a frame that begins with SYNC (log 25), of at most 32 payload bytes, with a good CHECK
that the request may draw ends the transaction: the failure count becomes 0, the result is reported and the next
transaction is taken; a STATUS is recorded and its sample, heater stop, change notice and ignition handed on first; a
re-probe's reply makes the link ACTIVE, raises LINK and tells the DPM and the DKU, and the FRD unless the bay is
DOCKED. The ended transaction stands in the phase reporting until its reports are made (log 11). With no window open a
frame only ends the line's quiet time (log 4). That a character received sets the line's quiet time (R17) to 0 is the
model's form of the quiet condition (log 36). CHECK covers LEN, KIND and the payload. A reply is read by the request
it answers: its code is the request's with 0x80 more, a payload shorter than the fixed part or another code is a
WRONG_REPLY, and bytes after the parts read are ignored; an IDENT gives fleet number, type and fault memory and is a
WRONG_REPLY with fleet number 0; a DESC gives kind, next index and body unchecked, an FCOUNT its count, an FREAD its
record of 12 bytes or more; a STATUS gives a cabin temperature when its bit 0 is set and the value lies in -40.0 to
60.0, ignition, heater stop and change from bits 1 to 3, and the stages active, held at 8; a LAMP and a STAGE give an
acknowledgement, or a refusal for the code 0xEE, which no other request may draw. -/
def Obligations.GoodReplyEndsTheTransaction : Prop :=
  (∀ (b : BayNo) (kind check : Byte) (payload : List Byte) (s : State) (f : InFlight) (result : TxResult),
    (s.clcAt b).inflight = some f → (∃ n, f.phase = .waiting n) ∨ f.phase = .receiving → payload.length ≤ 32 →
    crc8 (checkedBytes kind payload) = check → readReply f.request kind payload = some result →
    let go := exec (.replyFrame ⟨b, 0xA5⟩ kind payload check) s
    (f.cls = none → go = .next (perform
      (s.modClc b (fun c => { c with
          link := .active, failures := 0, quiet := 0, reprobe := none, inflight := some { f with phase := .reporting } }),
        [.raise b .link (.link .recovered) false, .tellLink b, .dkuRecovered b] ++
          (if (s.dkuAt b).state = .docked then [] else [.frdRecovered b]) ++ [.clcNext b]))) ∧
    (∀ cls, f.cls = some cls → (∀ t i h c n, result ≠ .done (.status t i h c n)) → go = .next (perform
      (s.modClc b (fun c => { c with failures := 0, quiet := 0, inflight := some { f with phase := .reporting } }),
        reportOf b cls f.request result ++ [.clcNext b]))) ∧
    (∀ cls cabin ignition stop changed n, f.cls = some cls →
      result = .done (.status cabin ignition stop changed n) → go = .next (perform
        (s.modClc b (fun c => { c with
            failures := 0, quiet := 0, inflight := some { f with phase := .reporting },
            lastStatus := some ⟨s.clock.time, cabin, ignition, stop, changed, n⟩ }),
          (match cabin with | some t => [.hplSample b t] | none => []) ++ (if stop then [.hplCoachStop b] else []) ++
            (if changed then [.frdChange b] else []) ++ [.lcsIgnition b ignition] ++
            reportOf b cls f.request result ++ [.clcNext b])))) ∧
  (∀ (b : BayNo) (start kind check : Byte) (payload : List Byte) (s : State),
    (s.clcAt b).inflight = none ∨ (∃ f, (s.clcAt b).inflight = some f ∧ f.phase ≠ .receiving ∧
      ∀ n, f.phase ≠ .waiting n) →
    exec (.replyFrame ⟨b, start⟩ kind payload check) s = .next (s.modClc b (fun c => { c with quiet := 0 }))) ∧
  (∀ (kind : Byte) (payload : List Byte), checkedBytes kind payload = BitVec.ofNat 8 payload.length :: kind :: payload) ∧
  (∀ (f0 f1 t m : Byte) (rest : List Byte),
    let fleet := f0.toNat + 256 * f1.toNat
    readReply .ident 0x90 (f0 :: f1 :: t :: m :: rest) =
      if fleet = 0 then none else some (.done (.ident fleet t.toNat (decide (m ≠ 0))))) ∧
  (∀ (i : Nat) (k n : Byte) (body : List Byte),
    readReply (.desc i) 0x91 (k :: n :: body) = some (.done (.desc k.toNat n.toNat body))) ∧
  (∀ (n : Byte) (rest : List Byte), readReply .fcount 0x92 (n :: rest) = some (.done (.fcount n.toNat))) ∧
  (∀ (fl t0 t1 n : Byte) (rest : List Byte),
    let raw := t0.toNat + 256 * t1.toNat
    let t : Int := if raw < 32768 then raw else raw - 65536
    readReply .status 0x94 (fl :: t0 :: t1 :: n :: rest) = some (.done (.status
      (if fl.getLsbD 0 = true ∧ -400 ≤ t ∧ t ≤ 600 then some t else none)
      (fl.getLsbD 1) (fl.getLsbD 2) (fl.getLsbD 3) (min n.toNat 8)))) ∧
  (∀ (kind : Byte) (payload : List Byte) (i n k : Nat) (on : Bool),
    (kind ≠ 0x90 ∨ payload.length < 4 → readReply .ident kind payload = none) ∧
    (kind ≠ 0x91 ∨ payload.length < 2 → readReply (.desc i) kind payload = none) ∧
    (kind ≠ 0x92 ∨ payload.length < 1 → readReply .fcount kind payload = none) ∧
    readReply (.fread i) kind payload =
      (if kind = 0x93 ∧ 12 ≤ payload.length then some (.done (.fread payload)) else none) ∧
    (kind ≠ 0x94 ∨ payload.length < 4 → readReply .status kind payload = none) ∧
    readReply (.lamp k on) kind payload =
      (if kind = 0x95 then some (.done .done) else if kind = 0xEE then some .refused else none) ∧
    readReply (.stage n) kind payload =
      (if kind = 0x96 then some (.done .done) else if kind = 0xEE then some .refused else none))

/-- After RESTART everything given (settings, mask, clock, map, ambient, shed host part, hold sets and stacks, enable
states, debounced inputs, meter histories, buffer) and the departure list stand as before, the reply is OK and ATTN
stands with the flags; no bay is tripped, every contactor is open and every latch released; lamp, fault and heat
sessions are empty and every grant row is emptied; STAGE 0 is in flight on an ACTIVE link and held on a LOST one; an
enabled, plugged bay is PROBING with its IDENT submitted, every other UNDOCKED; channels are free, no stage-up is in
flight, the gate is open exactly while the ramp timer is stopped; CLEARED and RECALLED bays stay in these two states
and every other one is set from its enable state and sensors; RESET with kind RESTART, CLOCK_UNSET, SENSOR and LINK
are set where they hold, and no other flag but HOLDS, CLEARANCE and LANE; every bay's conditions, freeze and hold set
are derived anew. The attempt-error count of a docking start is 0 (R39). That a bay without an active departure holds
no window point is the model's choice (log 7; R164 gives that case the mark alone). CLEARED and RECALLED bays keep
their open requests, RECALLED ones that stay unheld their place in the wait order, CLEARED ones that stay so their
lane with its close-pending mark; a lane in PASSAGE_WAIT stands with its timer, and a CLOSED one, as they stood; the
lane of a CLEARING bay, and of a CLEARED bay that its set derived anew recalls, is released: CLOSED where a close was
pending, else FREE or granted to a RECALLED bay that waits (log 17). -/
def Obligations.RestartKeepsWhatItKeepsAndEmptiesTheRest : Prop :=
  ∀ s : State, ∃ t, exec .restart s = .next t ∧
    t.given = { s.given with sending := some ⟨0x82, [0]⟩ } ∧ t.hli.attn = t.anyEnabledFlag ∧
    t.departures = s.departures ∧ t.channelQueue = [] ∧ (∀ c : Fin 4, t.channels[c] = none) ∧
    t.feeder.stageUp = none ∧ t.feeder.ramp = s.feeder.ramp ∧ (t.feeder.gateOpen = true ↔ s.feeder.ramp = none) ∧
    t.feeder.plugged = s.feeder.plugged ∧ (∀ b ∈ t.waitOrder, (t.clrAt b).state = .recalled) ∧
    (∀ b : BayNo,
      let f := s.bfeAt b
      let c := s.clcAt b
      let docks := f.enabled = true ∧ f.plug = true
      let errors := if f.enabled = true ∧ f.plug = true then 0 else c.attemptErrors
      let d := s.activeOf b
      (t.bfeAt b).tripped = false ∧ (t.bfeAt b).overdraw = none ∧ (t.bfeAt b).contactor = false ∧
      (t.bfeAt b).latch = false ∧ t.lcsAt b = Lcs.reset ∧ t.frdAt b = Frd.reset ∧ t.hplAt b = Hpl.reset ∧
      t.rowAt b = { s.rowAt b with
        cls := .none, rankKey := none, planRequest := 0, requested := 0, granted := 0, power := 0, failures := 0
        linkHeldLost := false, quiet := false, inFlight := false
        commanded := if c.link = .down then (s.rowAt b).commanded else 0
        lastResult := if c.link = .down then (s.rowAt b).lastResult else .none } ∧
      (c.link = .down → t.clcAt b = { c with attemptErrors := errors }) ∧
      (c.link = .active → t.clcAt b = { c with
        attemptErrors := errors, failures := 0, inflight := some ⟨.stage 0, some .heat, 1, .ready 100⟩
        heatSlot := none, lampSlot := none, readSlot := if f.enabled = true ∧ f.plug = true then some .ident else none
        pollSlot := false, poll := none, lastStatus := none }) ∧
      (c.link = .lost → t.clcAt b = { c with
        attemptErrors := errors, inflight := none, heatSlot := some 0, lampSlot := none, readSlot := none
        pollSlot := false, poll := none, lastStatus := none
        reprobe := if c.reprobing then some 5000 else c.reprobe }) ∧
      (docks → t.dkuAt b = { Dku.reset with state := .probing, read := some (.ident, decide (c.link = .active)) }) ∧
      (¬ docks → t.dkuAt b = Dku.reset) ∧
      ((s.clrAt b).state = .cleared ∨ (s.clrAt b).state = .recalled →
        (t.clrAt b).state = .cleared ∨ (t.clrAt b).state = .recalled) ∧
      ((s.clrAt b).state ≠ .cleared → (s.clrAt b).state ≠ .recalled → (t.clrAt b).state =
        if f.enabled = false then .outOfService else if f.plug = true then .docking
        else if f.presence = true then .arrived else .empty) ∧
      ((s.clrAt b).state = .clearing → (t.clrAt b).plugTimer = none ∧ (t.clrAt b).openWait = none ∧
        (t.clrAt b).openRequest = false) ∧
      (t.clrAt b).windowPoint = d.map (fun d => d.time - 60 * d.lead) ∧
      ((t.clrAt b).windowOpen = true ↔ ∃ d', d = some d' ∧ d'.time - 60 * d'.lead ≤ s.clock.time) ∧
      (t.dpmAt b).active = (s.dpmAt b).active ∧ (t.dpmAt b).reliance = false ∧
      ((t.dpmAt b).frozen = true ↔ (s.dpmAt b).frozen = true ∧
        ((t.clrAt b).state = .cleared ∨ (t.clrAt b).state = .recalled)) ∧
      ((t.dpmAt b).frozen = true → (t.dpmAt b).frozenSet = (s.dpmAt b).frozenSet) ∧
      (t.dpmAt b).reported = t.effective b ∧
      (t.dpmAt b).conditions = { Conditions.reset with
        enabled := f.enabled, linkLost := c.link == .lost
        readiness := match d with
          | some d => if d.target = none then .ready else .notReady
          | none => .notReady
        noDeparture := d.isNone
        lampRequired := match d with | some d => d.lampCheck | none => false
        waivers := match d with | some d => d.waivers | none => .none } ∧
      t.flag b .sensor = (if f.plug = true ∧ f.presence = false then ⟨true, .plain, false, 1⟩ else .clear) ∧
      t.flag b .link = (if c.link = .lost then ⟨true, .link .lost, false, 1⟩ else .clear) ∧
      (∀ k, k ∉ [BayFlag.sensor, .link, .holds, .clearance] → t.flag b k = .clear)) ∧
    t.hallFlag .reset = ⟨true, .reset true, false, 1⟩ ∧
    t.hallFlag .clockUnset = (if s.clock.isSet = true then .clear else ⟨true, .plain, false, 1⟩) ∧
    (∀ k, k ∉ [HallFlag.reset, .clockUnset, .lane] → t.hallFlag k = .clear) ∧
    (∀ b, (s.clrAt b).state = .cleared ∨ (s.clrAt b).state = .recalled →
      (t.clrAt b).openRequest = (s.clrAt b).openRequest) ∧
    (∀ b ∈ t.waitOrder, (s.clrAt b).state = .recalled) ∧
    (∀ b ∈ s.waitOrder, (s.clrAt b).state = .recalled → (t.clrAt b).state = .recalled →
      (t.dpmAt b).reported.held = false → b ∈ t.waitOrder) ∧
    ((∀ b, (t.dpmAt b).reported = (s.dpmAt b).reported) → t.waitOrder.Sublist s.waitOrder) ∧
    (∀ l, (s.laneAt l).state = .passageWait ∨ (s.laneAt l).state = .closed → t.laneAt l = s.laneAt l) ∧
    ((∀ b, ¬ (s.laneA.holder = some b ∧ s.laneB.holder = some b)) → ∀ l,
      let offered := t.laneAt l = ⟨.free, none, false, none⟩ ∨
        ∃ x, (s.clrAt x).state = .recalled ∧ t.laneAt l = ⟨.granted, some x, false, none⟩
      let released := if (s.laneAt l).closePending = true then t.laneAt l = ⟨.closed, none, false, none⟩ else offered
      (s.laneAt l = ⟨.free, none, false, none⟩ → offered) ∧
      ∀ b, (s.laneAt l).state = .granted → (s.laneAt l).holder = some b →
        ((s.clrAt b).state = .clearing → released) ∧
        ((s.clrAt b).state = .cleared → (t.clrAt b).state = .cleared → t.laneAt l = s.laneAt l) ∧
        ((s.clrAt b).state = .cleared → (t.clrAt b).state = .recalled → released))
end

