-- ==== Sys2Proof/Laws/State.lean ====
section
/-! SUPPORT. One lemma per field per update of the state, true by unfolding, so that no proof unfolds a record update; and
reading back one bay's record after a write. -/

namespace Sys2Proof.Machine

@[simp] theorem bayAt_bayPut_same {α : Type} (v : Vector α 16) (b : BayNo) (x : α) : bayAt (bayPut v b x) b = x := by
  simp [bayAt, bayPut]

@[simp] theorem bayAt_bayPut_ne {α : Type} (v : Vector α 16) {b c : BayNo} (x : α) (h : c ≠ b) :
    bayAt (bayPut v b x) c = bayAt v c := by
  have : b.val ≠ c.val := fun e => h (Fin.ext e.symm)
  simp [bayAt, bayPut, this]

/-- Reading any bay after a write to one. -/
theorem bayAt_bayPut {α : Type} (v : Vector α 16) (b c : BayNo) (x : α) :
    bayAt (bayPut v b x) c = if c = b then x else bayAt v c := by
  by_cases h : c = b
  · subst h; simp
  · simp [h]

/-- Two sets of sixteen records that read alike are equal. -/
theorem bay_ext {α : Type} {v w : Vector α 16} (h : ∀ b, bayAt v b = bayAt w b) : v = w := by
  ext i hi; exact h ⟨i, hi⟩

/-- Writing back what stands there changes nothing. -/
@[simp] theorem bayPut_bayAt {α : Type} (v : Vector α 16) (b : BayNo) : bayPut v b (bayAt v b) = v := by
  apply bay_ext; intro c; by_cases h : c = b
  · subst h; simp
  · simp [h]

theorem mem_allBays (b : BayNo) : b ∈ allBays := by revert b; decide
theorem allBays_nodup : allBays.Nodup := by decide

/-! ### modBfe -/

@[simp] theorem State.modBfe_clc (s : State) (b : BayNo) (f : Bfe → Bfe) : (s.modBfe b f).clc = s.clc := rfl
@[simp] theorem State.modBfe_dku (s : State) (b : BayNo) (f : Bfe → Bfe) : (s.modBfe b f).dku = s.dku := rfl
@[simp] theorem State.modBfe_frd (s : State) (b : BayNo) (f : Bfe → Bfe) : (s.modBfe b f).frd = s.frd := rfl
@[simp] theorem State.modBfe_hpl (s : State) (b : BayNo) (f : Bfe → Bfe) : (s.modBfe b f).hpl = s.hpl := rfl
@[simp] theorem State.modBfe_row (s : State) (b : BayNo) (f : Bfe → Bfe) : (s.modBfe b f).row = s.row := rfl
@[simp] theorem State.modBfe_lcs (s : State) (b : BayNo) (f : Bfe → Bfe) : (s.modBfe b f).lcs = s.lcs := rfl
@[simp] theorem State.modBfe_dpm (s : State) (b : BayNo) (f : Bfe → Bfe) : (s.modBfe b f).dpm = s.dpm := rfl
@[simp] theorem State.modBfe_clr (s : State) (b : BayNo) (f : Bfe → Bfe) : (s.modBfe b f).clr = s.clr := rfl
@[simp] theorem State.modBfe_flags (s : State) (b : BayNo) (f : Bfe → Bfe) : (s.modBfe b f).flags = s.flags := rfl
@[simp] theorem State.modBfe_hallFlags (s : State) (b : BayNo) (f : Bfe → Bfe) : (s.modBfe b f).hallFlags = s.hallFlags := rfl
@[simp] theorem State.modBfe_clock (s : State) (b : BayNo) (f : Bfe → Bfe) : (s.modBfe b f).clock = s.clock := rfl
@[simp] theorem State.modBfe_hallInputs (s : State) (b : BayNo) (f : Bfe → Bfe) : (s.modBfe b f).hallInputs = s.hallInputs := rfl
@[simp] theorem State.modBfe_settings (s : State) (b : BayNo) (f : Bfe → Bfe) : (s.modBfe b f).settings = s.settings := rfl
@[simp] theorem State.modBfe_map (s : State) (b : BayNo) (f : Bfe → Bfe) : (s.modBfe b f).map = s.map := rfl
@[simp] theorem State.modBfe_ambient (s : State) (b : BayNo) (f : Bfe → Bfe) : (s.modBfe b f).ambient = s.ambient := rfl
@[simp] theorem State.modBfe_feeder (s : State) (b : BayNo) (f : Bfe → Bfe) : (s.modBfe b f).feeder = s.feeder := rfl
@[simp] theorem State.modBfe_channels (s : State) (b : BayNo) (f : Bfe → Bfe) : (s.modBfe b f).channels = s.channels := rfl
@[simp] theorem State.modBfe_channelQueue (s : State) (b : BayNo) (f : Bfe → Bfe) : (s.modBfe b f).channelQueue = s.channelQueue := rfl
@[simp] theorem State.modBfe_departures (s : State) (b : BayNo) (f : Bfe → Bfe) : (s.modBfe b f).departures = s.departures := rfl
@[simp] theorem State.modBfe_hallHold (s : State) (b : BayNo) (f : Bfe → Bfe) : (s.modBfe b f).hallHold = s.hallHold := rfl
@[simp] theorem State.modBfe_laneA (s : State) (b : BayNo) (f : Bfe → Bfe) : (s.modBfe b f).laneA = s.laneA := rfl
@[simp] theorem State.modBfe_laneB (s : State) (b : BayNo) (f : Bfe → Bfe) : (s.modBfe b f).laneB = s.laneB := rfl
@[simp] theorem State.modBfe_waitOrder (s : State) (b : BayNo) (f : Bfe → Bfe) : (s.modBfe b f).waitOrder = s.waitOrder := rfl
@[simp] theorem State.modBfe_hli (s : State) (b : BayNo) (f : Bfe → Bfe) : (s.modBfe b f).hli = s.hli := rfl
@[simp] theorem State.modBfe_unfinished (s : State) (b : BayNo) (f : Bfe → Bfe) : (s.modBfe b f).unfinished = s.unfinished := rfl
@[simp] theorem State.modBfe_pending (s : State) (b : BayNo) (f : Bfe → Bfe) : (s.modBfe b f).pending = s.pending := rfl
@[simp] theorem State.modBfe_bfeAt_same (s : State) (b : BayNo) (f : Bfe → Bfe) :
    (s.modBfe b f).bfeAt b = f (s.bfeAt b) := by simp [State.modBfe, State.bfeAt]
@[simp] theorem State.modBfe_bfeAt_ne (s : State) {b c : BayNo} (f : Bfe → Bfe) (h : c ≠ b) :
    (s.modBfe b f).bfeAt c = s.bfeAt c := by simp [State.modBfe, State.bfeAt, h]
@[simp] theorem State.modBfe_clcAt (s : State) (b c : BayNo) (f : Bfe → Bfe) :
    (s.modBfe b f).clcAt c = s.clcAt c := rfl
@[simp] theorem State.modBfe_dkuAt (s : State) (b c : BayNo) (f : Bfe → Bfe) :
    (s.modBfe b f).dkuAt c = s.dkuAt c := rfl
@[simp] theorem State.modBfe_frdAt (s : State) (b c : BayNo) (f : Bfe → Bfe) :
    (s.modBfe b f).frdAt c = s.frdAt c := rfl
@[simp] theorem State.modBfe_hplAt (s : State) (b c : BayNo) (f : Bfe → Bfe) :
    (s.modBfe b f).hplAt c = s.hplAt c := rfl
@[simp] theorem State.modBfe_rowAt (s : State) (b c : BayNo) (f : Bfe → Bfe) :
    (s.modBfe b f).rowAt c = s.rowAt c := rfl
@[simp] theorem State.modBfe_lcsAt (s : State) (b c : BayNo) (f : Bfe → Bfe) :
    (s.modBfe b f).lcsAt c = s.lcsAt c := rfl
@[simp] theorem State.modBfe_dpmAt (s : State) (b c : BayNo) (f : Bfe → Bfe) :
    (s.modBfe b f).dpmAt c = s.dpmAt c := rfl
@[simp] theorem State.modBfe_clrAt (s : State) (b c : BayNo) (f : Bfe → Bfe) :
    (s.modBfe b f).clrAt c = s.clrAt c := rfl
@[simp] theorem State.modBfe_flagsAt (s : State) (b c : BayNo) (f : Bfe → Bfe) :
    (s.modBfe b f).flagsAt c = s.flagsAt c := rfl

/-! ### modClc -/

@[simp] theorem State.modClc_bfe (s : State) (b : BayNo) (f : Clc → Clc) : (s.modClc b f).bfe = s.bfe := rfl
@[simp] theorem State.modClc_dku (s : State) (b : BayNo) (f : Clc → Clc) : (s.modClc b f).dku = s.dku := rfl
@[simp] theorem State.modClc_frd (s : State) (b : BayNo) (f : Clc → Clc) : (s.modClc b f).frd = s.frd := rfl
@[simp] theorem State.modClc_hpl (s : State) (b : BayNo) (f : Clc → Clc) : (s.modClc b f).hpl = s.hpl := rfl
@[simp] theorem State.modClc_row (s : State) (b : BayNo) (f : Clc → Clc) : (s.modClc b f).row = s.row := rfl
@[simp] theorem State.modClc_lcs (s : State) (b : BayNo) (f : Clc → Clc) : (s.modClc b f).lcs = s.lcs := rfl
@[simp] theorem State.modClc_dpm (s : State) (b : BayNo) (f : Clc → Clc) : (s.modClc b f).dpm = s.dpm := rfl
@[simp] theorem State.modClc_clr (s : State) (b : BayNo) (f : Clc → Clc) : (s.modClc b f).clr = s.clr := rfl
@[simp] theorem State.modClc_flags (s : State) (b : BayNo) (f : Clc → Clc) : (s.modClc b f).flags = s.flags := rfl
@[simp] theorem State.modClc_hallFlags (s : State) (b : BayNo) (f : Clc → Clc) : (s.modClc b f).hallFlags = s.hallFlags := rfl
@[simp] theorem State.modClc_clock (s : State) (b : BayNo) (f : Clc → Clc) : (s.modClc b f).clock = s.clock := rfl
@[simp] theorem State.modClc_hallInputs (s : State) (b : BayNo) (f : Clc → Clc) : (s.modClc b f).hallInputs = s.hallInputs := rfl
@[simp] theorem State.modClc_settings (s : State) (b : BayNo) (f : Clc → Clc) : (s.modClc b f).settings = s.settings := rfl
@[simp] theorem State.modClc_map (s : State) (b : BayNo) (f : Clc → Clc) : (s.modClc b f).map = s.map := rfl
@[simp] theorem State.modClc_ambient (s : State) (b : BayNo) (f : Clc → Clc) : (s.modClc b f).ambient = s.ambient := rfl
@[simp] theorem State.modClc_feeder (s : State) (b : BayNo) (f : Clc → Clc) : (s.modClc b f).feeder = s.feeder := rfl
@[simp] theorem State.modClc_channels (s : State) (b : BayNo) (f : Clc → Clc) : (s.modClc b f).channels = s.channels := rfl
@[simp] theorem State.modClc_channelQueue (s : State) (b : BayNo) (f : Clc → Clc) : (s.modClc b f).channelQueue = s.channelQueue := rfl
@[simp] theorem State.modClc_departures (s : State) (b : BayNo) (f : Clc → Clc) : (s.modClc b f).departures = s.departures := rfl
@[simp] theorem State.modClc_hallHold (s : State) (b : BayNo) (f : Clc → Clc) : (s.modClc b f).hallHold = s.hallHold := rfl
@[simp] theorem State.modClc_laneA (s : State) (b : BayNo) (f : Clc → Clc) : (s.modClc b f).laneA = s.laneA := rfl
@[simp] theorem State.modClc_laneB (s : State) (b : BayNo) (f : Clc → Clc) : (s.modClc b f).laneB = s.laneB := rfl
@[simp] theorem State.modClc_waitOrder (s : State) (b : BayNo) (f : Clc → Clc) : (s.modClc b f).waitOrder = s.waitOrder := rfl
@[simp] theorem State.modClc_hli (s : State) (b : BayNo) (f : Clc → Clc) : (s.modClc b f).hli = s.hli := rfl
@[simp] theorem State.modClc_unfinished (s : State) (b : BayNo) (f : Clc → Clc) : (s.modClc b f).unfinished = s.unfinished := rfl
@[simp] theorem State.modClc_pending (s : State) (b : BayNo) (f : Clc → Clc) : (s.modClc b f).pending = s.pending := rfl
@[simp] theorem State.modClc_bfeAt (s : State) (b c : BayNo) (f : Clc → Clc) :
    (s.modClc b f).bfeAt c = s.bfeAt c := rfl
@[simp] theorem State.modClc_clcAt_same (s : State) (b : BayNo) (f : Clc → Clc) :
    (s.modClc b f).clcAt b = f (s.clcAt b) := by simp [State.modClc, State.clcAt]
@[simp] theorem State.modClc_clcAt_ne (s : State) {b c : BayNo} (f : Clc → Clc) (h : c ≠ b) :
    (s.modClc b f).clcAt c = s.clcAt c := by simp [State.modClc, State.clcAt, h]
@[simp] theorem State.modClc_dkuAt (s : State) (b c : BayNo) (f : Clc → Clc) :
    (s.modClc b f).dkuAt c = s.dkuAt c := rfl
@[simp] theorem State.modClc_frdAt (s : State) (b c : BayNo) (f : Clc → Clc) :
    (s.modClc b f).frdAt c = s.frdAt c := rfl
@[simp] theorem State.modClc_hplAt (s : State) (b c : BayNo) (f : Clc → Clc) :
    (s.modClc b f).hplAt c = s.hplAt c := rfl
@[simp] theorem State.modClc_rowAt (s : State) (b c : BayNo) (f : Clc → Clc) :
    (s.modClc b f).rowAt c = s.rowAt c := rfl
@[simp] theorem State.modClc_lcsAt (s : State) (b c : BayNo) (f : Clc → Clc) :
    (s.modClc b f).lcsAt c = s.lcsAt c := rfl
@[simp] theorem State.modClc_dpmAt (s : State) (b c : BayNo) (f : Clc → Clc) :
    (s.modClc b f).dpmAt c = s.dpmAt c := rfl
@[simp] theorem State.modClc_clrAt (s : State) (b c : BayNo) (f : Clc → Clc) :
    (s.modClc b f).clrAt c = s.clrAt c := rfl
@[simp] theorem State.modClc_flagsAt (s : State) (b c : BayNo) (f : Clc → Clc) :
    (s.modClc b f).flagsAt c = s.flagsAt c := rfl

/-! ### modDku -/

@[simp] theorem State.modDku_bfe (s : State) (b : BayNo) (f : Dku → Dku) : (s.modDku b f).bfe = s.bfe := rfl
@[simp] theorem State.modDku_clc (s : State) (b : BayNo) (f : Dku → Dku) : (s.modDku b f).clc = s.clc := rfl
@[simp] theorem State.modDku_frd (s : State) (b : BayNo) (f : Dku → Dku) : (s.modDku b f).frd = s.frd := rfl
@[simp] theorem State.modDku_hpl (s : State) (b : BayNo) (f : Dku → Dku) : (s.modDku b f).hpl = s.hpl := rfl
@[simp] theorem State.modDku_row (s : State) (b : BayNo) (f : Dku → Dku) : (s.modDku b f).row = s.row := rfl
@[simp] theorem State.modDku_lcs (s : State) (b : BayNo) (f : Dku → Dku) : (s.modDku b f).lcs = s.lcs := rfl
@[simp] theorem State.modDku_dpm (s : State) (b : BayNo) (f : Dku → Dku) : (s.modDku b f).dpm = s.dpm := rfl
@[simp] theorem State.modDku_clr (s : State) (b : BayNo) (f : Dku → Dku) : (s.modDku b f).clr = s.clr := rfl
@[simp] theorem State.modDku_flags (s : State) (b : BayNo) (f : Dku → Dku) : (s.modDku b f).flags = s.flags := rfl
@[simp] theorem State.modDku_hallFlags (s : State) (b : BayNo) (f : Dku → Dku) : (s.modDku b f).hallFlags = s.hallFlags := rfl
@[simp] theorem State.modDku_clock (s : State) (b : BayNo) (f : Dku → Dku) : (s.modDku b f).clock = s.clock := rfl
@[simp] theorem State.modDku_hallInputs (s : State) (b : BayNo) (f : Dku → Dku) : (s.modDku b f).hallInputs = s.hallInputs := rfl
@[simp] theorem State.modDku_settings (s : State) (b : BayNo) (f : Dku → Dku) : (s.modDku b f).settings = s.settings := rfl
@[simp] theorem State.modDku_map (s : State) (b : BayNo) (f : Dku → Dku) : (s.modDku b f).map = s.map := rfl
@[simp] theorem State.modDku_ambient (s : State) (b : BayNo) (f : Dku → Dku) : (s.modDku b f).ambient = s.ambient := rfl
@[simp] theorem State.modDku_feeder (s : State) (b : BayNo) (f : Dku → Dku) : (s.modDku b f).feeder = s.feeder := rfl
@[simp] theorem State.modDku_channels (s : State) (b : BayNo) (f : Dku → Dku) : (s.modDku b f).channels = s.channels := rfl
@[simp] theorem State.modDku_channelQueue (s : State) (b : BayNo) (f : Dku → Dku) : (s.modDku b f).channelQueue = s.channelQueue := rfl
@[simp] theorem State.modDku_departures (s : State) (b : BayNo) (f : Dku → Dku) : (s.modDku b f).departures = s.departures := rfl
@[simp] theorem State.modDku_hallHold (s : State) (b : BayNo) (f : Dku → Dku) : (s.modDku b f).hallHold = s.hallHold := rfl
@[simp] theorem State.modDku_laneA (s : State) (b : BayNo) (f : Dku → Dku) : (s.modDku b f).laneA = s.laneA := rfl
@[simp] theorem State.modDku_laneB (s : State) (b : BayNo) (f : Dku → Dku) : (s.modDku b f).laneB = s.laneB := rfl
@[simp] theorem State.modDku_waitOrder (s : State) (b : BayNo) (f : Dku → Dku) : (s.modDku b f).waitOrder = s.waitOrder := rfl
@[simp] theorem State.modDku_hli (s : State) (b : BayNo) (f : Dku → Dku) : (s.modDku b f).hli = s.hli := rfl
@[simp] theorem State.modDku_unfinished (s : State) (b : BayNo) (f : Dku → Dku) : (s.modDku b f).unfinished = s.unfinished := rfl
@[simp] theorem State.modDku_pending (s : State) (b : BayNo) (f : Dku → Dku) : (s.modDku b f).pending = s.pending := rfl
@[simp] theorem State.modDku_bfeAt (s : State) (b c : BayNo) (f : Dku → Dku) :
    (s.modDku b f).bfeAt c = s.bfeAt c := rfl
@[simp] theorem State.modDku_clcAt (s : State) (b c : BayNo) (f : Dku → Dku) :
    (s.modDku b f).clcAt c = s.clcAt c := rfl
@[simp] theorem State.modDku_dkuAt_same (s : State) (b : BayNo) (f : Dku → Dku) :
    (s.modDku b f).dkuAt b = f (s.dkuAt b) := by simp [State.modDku, State.dkuAt]
@[simp] theorem State.modDku_dkuAt_ne (s : State) {b c : BayNo} (f : Dku → Dku) (h : c ≠ b) :
    (s.modDku b f).dkuAt c = s.dkuAt c := by simp [State.modDku, State.dkuAt, h]
@[simp] theorem State.modDku_frdAt (s : State) (b c : BayNo) (f : Dku → Dku) :
    (s.modDku b f).frdAt c = s.frdAt c := rfl
@[simp] theorem State.modDku_hplAt (s : State) (b c : BayNo) (f : Dku → Dku) :
    (s.modDku b f).hplAt c = s.hplAt c := rfl
@[simp] theorem State.modDku_rowAt (s : State) (b c : BayNo) (f : Dku → Dku) :
    (s.modDku b f).rowAt c = s.rowAt c := rfl
@[simp] theorem State.modDku_lcsAt (s : State) (b c : BayNo) (f : Dku → Dku) :
    (s.modDku b f).lcsAt c = s.lcsAt c := rfl
@[simp] theorem State.modDku_dpmAt (s : State) (b c : BayNo) (f : Dku → Dku) :
    (s.modDku b f).dpmAt c = s.dpmAt c := rfl
@[simp] theorem State.modDku_clrAt (s : State) (b c : BayNo) (f : Dku → Dku) :
    (s.modDku b f).clrAt c = s.clrAt c := rfl
@[simp] theorem State.modDku_flagsAt (s : State) (b c : BayNo) (f : Dku → Dku) :
    (s.modDku b f).flagsAt c = s.flagsAt c := rfl

/-! ### modFrd -/

@[simp] theorem State.modFrd_bfe (s : State) (b : BayNo) (f : Frd → Frd) : (s.modFrd b f).bfe = s.bfe := rfl
@[simp] theorem State.modFrd_clc (s : State) (b : BayNo) (f : Frd → Frd) : (s.modFrd b f).clc = s.clc := rfl
@[simp] theorem State.modFrd_dku (s : State) (b : BayNo) (f : Frd → Frd) : (s.modFrd b f).dku = s.dku := rfl
@[simp] theorem State.modFrd_hpl (s : State) (b : BayNo) (f : Frd → Frd) : (s.modFrd b f).hpl = s.hpl := rfl
@[simp] theorem State.modFrd_row (s : State) (b : BayNo) (f : Frd → Frd) : (s.modFrd b f).row = s.row := rfl
@[simp] theorem State.modFrd_lcs (s : State) (b : BayNo) (f : Frd → Frd) : (s.modFrd b f).lcs = s.lcs := rfl
@[simp] theorem State.modFrd_dpm (s : State) (b : BayNo) (f : Frd → Frd) : (s.modFrd b f).dpm = s.dpm := rfl
@[simp] theorem State.modFrd_clr (s : State) (b : BayNo) (f : Frd → Frd) : (s.modFrd b f).clr = s.clr := rfl
@[simp] theorem State.modFrd_flags (s : State) (b : BayNo) (f : Frd → Frd) : (s.modFrd b f).flags = s.flags := rfl
@[simp] theorem State.modFrd_hallFlags (s : State) (b : BayNo) (f : Frd → Frd) : (s.modFrd b f).hallFlags = s.hallFlags := rfl
@[simp] theorem State.modFrd_clock (s : State) (b : BayNo) (f : Frd → Frd) : (s.modFrd b f).clock = s.clock := rfl
@[simp] theorem State.modFrd_hallInputs (s : State) (b : BayNo) (f : Frd → Frd) : (s.modFrd b f).hallInputs = s.hallInputs := rfl
@[simp] theorem State.modFrd_settings (s : State) (b : BayNo) (f : Frd → Frd) : (s.modFrd b f).settings = s.settings := rfl
@[simp] theorem State.modFrd_map (s : State) (b : BayNo) (f : Frd → Frd) : (s.modFrd b f).map = s.map := rfl
@[simp] theorem State.modFrd_ambient (s : State) (b : BayNo) (f : Frd → Frd) : (s.modFrd b f).ambient = s.ambient := rfl
@[simp] theorem State.modFrd_feeder (s : State) (b : BayNo) (f : Frd → Frd) : (s.modFrd b f).feeder = s.feeder := rfl
@[simp] theorem State.modFrd_channels (s : State) (b : BayNo) (f : Frd → Frd) : (s.modFrd b f).channels = s.channels := rfl
@[simp] theorem State.modFrd_channelQueue (s : State) (b : BayNo) (f : Frd → Frd) : (s.modFrd b f).channelQueue = s.channelQueue := rfl
@[simp] theorem State.modFrd_departures (s : State) (b : BayNo) (f : Frd → Frd) : (s.modFrd b f).departures = s.departures := rfl
@[simp] theorem State.modFrd_hallHold (s : State) (b : BayNo) (f : Frd → Frd) : (s.modFrd b f).hallHold = s.hallHold := rfl
@[simp] theorem State.modFrd_laneA (s : State) (b : BayNo) (f : Frd → Frd) : (s.modFrd b f).laneA = s.laneA := rfl
@[simp] theorem State.modFrd_laneB (s : State) (b : BayNo) (f : Frd → Frd) : (s.modFrd b f).laneB = s.laneB := rfl
@[simp] theorem State.modFrd_waitOrder (s : State) (b : BayNo) (f : Frd → Frd) : (s.modFrd b f).waitOrder = s.waitOrder := rfl
@[simp] theorem State.modFrd_hli (s : State) (b : BayNo) (f : Frd → Frd) : (s.modFrd b f).hli = s.hli := rfl
@[simp] theorem State.modFrd_unfinished (s : State) (b : BayNo) (f : Frd → Frd) : (s.modFrd b f).unfinished = s.unfinished := rfl
@[simp] theorem State.modFrd_pending (s : State) (b : BayNo) (f : Frd → Frd) : (s.modFrd b f).pending = s.pending := rfl
@[simp] theorem State.modFrd_bfeAt (s : State) (b c : BayNo) (f : Frd → Frd) :
    (s.modFrd b f).bfeAt c = s.bfeAt c := rfl
@[simp] theorem State.modFrd_clcAt (s : State) (b c : BayNo) (f : Frd → Frd) :
    (s.modFrd b f).clcAt c = s.clcAt c := rfl
@[simp] theorem State.modFrd_dkuAt (s : State) (b c : BayNo) (f : Frd → Frd) :
    (s.modFrd b f).dkuAt c = s.dkuAt c := rfl
@[simp] theorem State.modFrd_frdAt_same (s : State) (b : BayNo) (f : Frd → Frd) :
    (s.modFrd b f).frdAt b = f (s.frdAt b) := by simp [State.modFrd, State.frdAt]
@[simp] theorem State.modFrd_frdAt_ne (s : State) {b c : BayNo} (f : Frd → Frd) (h : c ≠ b) :
    (s.modFrd b f).frdAt c = s.frdAt c := by simp [State.modFrd, State.frdAt, h]
@[simp] theorem State.modFrd_hplAt (s : State) (b c : BayNo) (f : Frd → Frd) :
    (s.modFrd b f).hplAt c = s.hplAt c := rfl
@[simp] theorem State.modFrd_rowAt (s : State) (b c : BayNo) (f : Frd → Frd) :
    (s.modFrd b f).rowAt c = s.rowAt c := rfl
@[simp] theorem State.modFrd_lcsAt (s : State) (b c : BayNo) (f : Frd → Frd) :
    (s.modFrd b f).lcsAt c = s.lcsAt c := rfl
@[simp] theorem State.modFrd_dpmAt (s : State) (b c : BayNo) (f : Frd → Frd) :
    (s.modFrd b f).dpmAt c = s.dpmAt c := rfl
@[simp] theorem State.modFrd_clrAt (s : State) (b c : BayNo) (f : Frd → Frd) :
    (s.modFrd b f).clrAt c = s.clrAt c := rfl
@[simp] theorem State.modFrd_flagsAt (s : State) (b c : BayNo) (f : Frd → Frd) :
    (s.modFrd b f).flagsAt c = s.flagsAt c := rfl

/-! ### modHpl -/

@[simp] theorem State.modHpl_bfe (s : State) (b : BayNo) (f : Hpl → Hpl) : (s.modHpl b f).bfe = s.bfe := rfl
@[simp] theorem State.modHpl_clc (s : State) (b : BayNo) (f : Hpl → Hpl) : (s.modHpl b f).clc = s.clc := rfl
@[simp] theorem State.modHpl_dku (s : State) (b : BayNo) (f : Hpl → Hpl) : (s.modHpl b f).dku = s.dku := rfl
@[simp] theorem State.modHpl_frd (s : State) (b : BayNo) (f : Hpl → Hpl) : (s.modHpl b f).frd = s.frd := rfl
@[simp] theorem State.modHpl_row (s : State) (b : BayNo) (f : Hpl → Hpl) : (s.modHpl b f).row = s.row := rfl
@[simp] theorem State.modHpl_lcs (s : State) (b : BayNo) (f : Hpl → Hpl) : (s.modHpl b f).lcs = s.lcs := rfl
@[simp] theorem State.modHpl_dpm (s : State) (b : BayNo) (f : Hpl → Hpl) : (s.modHpl b f).dpm = s.dpm := rfl
@[simp] theorem State.modHpl_clr (s : State) (b : BayNo) (f : Hpl → Hpl) : (s.modHpl b f).clr = s.clr := rfl
@[simp] theorem State.modHpl_flags (s : State) (b : BayNo) (f : Hpl → Hpl) : (s.modHpl b f).flags = s.flags := rfl
@[simp] theorem State.modHpl_hallFlags (s : State) (b : BayNo) (f : Hpl → Hpl) : (s.modHpl b f).hallFlags = s.hallFlags := rfl
@[simp] theorem State.modHpl_clock (s : State) (b : BayNo) (f : Hpl → Hpl) : (s.modHpl b f).clock = s.clock := rfl
@[simp] theorem State.modHpl_hallInputs (s : State) (b : BayNo) (f : Hpl → Hpl) : (s.modHpl b f).hallInputs = s.hallInputs := rfl
@[simp] theorem State.modHpl_settings (s : State) (b : BayNo) (f : Hpl → Hpl) : (s.modHpl b f).settings = s.settings := rfl
@[simp] theorem State.modHpl_map (s : State) (b : BayNo) (f : Hpl → Hpl) : (s.modHpl b f).map = s.map := rfl
@[simp] theorem State.modHpl_ambient (s : State) (b : BayNo) (f : Hpl → Hpl) : (s.modHpl b f).ambient = s.ambient := rfl
@[simp] theorem State.modHpl_feeder (s : State) (b : BayNo) (f : Hpl → Hpl) : (s.modHpl b f).feeder = s.feeder := rfl
@[simp] theorem State.modHpl_channels (s : State) (b : BayNo) (f : Hpl → Hpl) : (s.modHpl b f).channels = s.channels := rfl
@[simp] theorem State.modHpl_channelQueue (s : State) (b : BayNo) (f : Hpl → Hpl) : (s.modHpl b f).channelQueue = s.channelQueue := rfl
@[simp] theorem State.modHpl_departures (s : State) (b : BayNo) (f : Hpl → Hpl) : (s.modHpl b f).departures = s.departures := rfl
@[simp] theorem State.modHpl_hallHold (s : State) (b : BayNo) (f : Hpl → Hpl) : (s.modHpl b f).hallHold = s.hallHold := rfl
@[simp] theorem State.modHpl_laneA (s : State) (b : BayNo) (f : Hpl → Hpl) : (s.modHpl b f).laneA = s.laneA := rfl
@[simp] theorem State.modHpl_laneB (s : State) (b : BayNo) (f : Hpl → Hpl) : (s.modHpl b f).laneB = s.laneB := rfl
@[simp] theorem State.modHpl_waitOrder (s : State) (b : BayNo) (f : Hpl → Hpl) : (s.modHpl b f).waitOrder = s.waitOrder := rfl
@[simp] theorem State.modHpl_hli (s : State) (b : BayNo) (f : Hpl → Hpl) : (s.modHpl b f).hli = s.hli := rfl
@[simp] theorem State.modHpl_unfinished (s : State) (b : BayNo) (f : Hpl → Hpl) : (s.modHpl b f).unfinished = s.unfinished := rfl
@[simp] theorem State.modHpl_pending (s : State) (b : BayNo) (f : Hpl → Hpl) : (s.modHpl b f).pending = s.pending := rfl
@[simp] theorem State.modHpl_bfeAt (s : State) (b c : BayNo) (f : Hpl → Hpl) :
    (s.modHpl b f).bfeAt c = s.bfeAt c := rfl
@[simp] theorem State.modHpl_clcAt (s : State) (b c : BayNo) (f : Hpl → Hpl) :
    (s.modHpl b f).clcAt c = s.clcAt c := rfl
@[simp] theorem State.modHpl_dkuAt (s : State) (b c : BayNo) (f : Hpl → Hpl) :
    (s.modHpl b f).dkuAt c = s.dkuAt c := rfl
@[simp] theorem State.modHpl_frdAt (s : State) (b c : BayNo) (f : Hpl → Hpl) :
    (s.modHpl b f).frdAt c = s.frdAt c := rfl
@[simp] theorem State.modHpl_hplAt_same (s : State) (b : BayNo) (f : Hpl → Hpl) :
    (s.modHpl b f).hplAt b = f (s.hplAt b) := by simp [State.modHpl, State.hplAt]
@[simp] theorem State.modHpl_hplAt_ne (s : State) {b c : BayNo} (f : Hpl → Hpl) (h : c ≠ b) :
    (s.modHpl b f).hplAt c = s.hplAt c := by simp [State.modHpl, State.hplAt, h]
@[simp] theorem State.modHpl_rowAt (s : State) (b c : BayNo) (f : Hpl → Hpl) :
    (s.modHpl b f).rowAt c = s.rowAt c := rfl
@[simp] theorem State.modHpl_lcsAt (s : State) (b c : BayNo) (f : Hpl → Hpl) :
    (s.modHpl b f).lcsAt c = s.lcsAt c := rfl
@[simp] theorem State.modHpl_dpmAt (s : State) (b c : BayNo) (f : Hpl → Hpl) :
    (s.modHpl b f).dpmAt c = s.dpmAt c := rfl
@[simp] theorem State.modHpl_clrAt (s : State) (b c : BayNo) (f : Hpl → Hpl) :
    (s.modHpl b f).clrAt c = s.clrAt c := rfl
@[simp] theorem State.modHpl_flagsAt (s : State) (b c : BayNo) (f : Hpl → Hpl) :
    (s.modHpl b f).flagsAt c = s.flagsAt c := rfl

/-! ### modRow -/

@[simp] theorem State.modRow_bfe (s : State) (b : BayNo) (f : GrantRow → GrantRow) : (s.modRow b f).bfe = s.bfe := rfl
@[simp] theorem State.modRow_clc (s : State) (b : BayNo) (f : GrantRow → GrantRow) : (s.modRow b f).clc = s.clc := rfl
@[simp] theorem State.modRow_dku (s : State) (b : BayNo) (f : GrantRow → GrantRow) : (s.modRow b f).dku = s.dku := rfl
@[simp] theorem State.modRow_frd (s : State) (b : BayNo) (f : GrantRow → GrantRow) : (s.modRow b f).frd = s.frd := rfl
@[simp] theorem State.modRow_hpl (s : State) (b : BayNo) (f : GrantRow → GrantRow) : (s.modRow b f).hpl = s.hpl := rfl
@[simp] theorem State.modRow_lcs (s : State) (b : BayNo) (f : GrantRow → GrantRow) : (s.modRow b f).lcs = s.lcs := rfl
@[simp] theorem State.modRow_dpm (s : State) (b : BayNo) (f : GrantRow → GrantRow) : (s.modRow b f).dpm = s.dpm := rfl
@[simp] theorem State.modRow_clr (s : State) (b : BayNo) (f : GrantRow → GrantRow) : (s.modRow b f).clr = s.clr := rfl
@[simp] theorem State.modRow_flags (s : State) (b : BayNo) (f : GrantRow → GrantRow) : (s.modRow b f).flags = s.flags := rfl
@[simp] theorem State.modRow_hallFlags (s : State) (b : BayNo) (f : GrantRow → GrantRow) : (s.modRow b f).hallFlags = s.hallFlags := rfl
@[simp] theorem State.modRow_clock (s : State) (b : BayNo) (f : GrantRow → GrantRow) : (s.modRow b f).clock = s.clock := rfl
@[simp] theorem State.modRow_hallInputs (s : State) (b : BayNo) (f : GrantRow → GrantRow) : (s.modRow b f).hallInputs = s.hallInputs := rfl
@[simp] theorem State.modRow_settings (s : State) (b : BayNo) (f : GrantRow → GrantRow) : (s.modRow b f).settings = s.settings := rfl
@[simp] theorem State.modRow_map (s : State) (b : BayNo) (f : GrantRow → GrantRow) : (s.modRow b f).map = s.map := rfl
@[simp] theorem State.modRow_ambient (s : State) (b : BayNo) (f : GrantRow → GrantRow) : (s.modRow b f).ambient = s.ambient := rfl
@[simp] theorem State.modRow_feeder (s : State) (b : BayNo) (f : GrantRow → GrantRow) : (s.modRow b f).feeder = s.feeder := rfl
@[simp] theorem State.modRow_channels (s : State) (b : BayNo) (f : GrantRow → GrantRow) : (s.modRow b f).channels = s.channels := rfl
@[simp] theorem State.modRow_channelQueue (s : State) (b : BayNo) (f : GrantRow → GrantRow) : (s.modRow b f).channelQueue = s.channelQueue := rfl
@[simp] theorem State.modRow_departures (s : State) (b : BayNo) (f : GrantRow → GrantRow) : (s.modRow b f).departures = s.departures := rfl
@[simp] theorem State.modRow_hallHold (s : State) (b : BayNo) (f : GrantRow → GrantRow) : (s.modRow b f).hallHold = s.hallHold := rfl
@[simp] theorem State.modRow_laneA (s : State) (b : BayNo) (f : GrantRow → GrantRow) : (s.modRow b f).laneA = s.laneA := rfl
@[simp] theorem State.modRow_laneB (s : State) (b : BayNo) (f : GrantRow → GrantRow) : (s.modRow b f).laneB = s.laneB := rfl
@[simp] theorem State.modRow_waitOrder (s : State) (b : BayNo) (f : GrantRow → GrantRow) : (s.modRow b f).waitOrder = s.waitOrder := rfl
@[simp] theorem State.modRow_hli (s : State) (b : BayNo) (f : GrantRow → GrantRow) : (s.modRow b f).hli = s.hli := rfl
@[simp] theorem State.modRow_unfinished (s : State) (b : BayNo) (f : GrantRow → GrantRow) : (s.modRow b f).unfinished = s.unfinished := rfl
@[simp] theorem State.modRow_pending (s : State) (b : BayNo) (f : GrantRow → GrantRow) : (s.modRow b f).pending = s.pending := rfl
@[simp] theorem State.modRow_bfeAt (s : State) (b c : BayNo) (f : GrantRow → GrantRow) :
    (s.modRow b f).bfeAt c = s.bfeAt c := rfl
@[simp] theorem State.modRow_clcAt (s : State) (b c : BayNo) (f : GrantRow → GrantRow) :
    (s.modRow b f).clcAt c = s.clcAt c := rfl
@[simp] theorem State.modRow_dkuAt (s : State) (b c : BayNo) (f : GrantRow → GrantRow) :
    (s.modRow b f).dkuAt c = s.dkuAt c := rfl
@[simp] theorem State.modRow_frdAt (s : State) (b c : BayNo) (f : GrantRow → GrantRow) :
    (s.modRow b f).frdAt c = s.frdAt c := rfl
@[simp] theorem State.modRow_hplAt (s : State) (b c : BayNo) (f : GrantRow → GrantRow) :
    (s.modRow b f).hplAt c = s.hplAt c := rfl
@[simp] theorem State.modRow_rowAt_same (s : State) (b : BayNo) (f : GrantRow → GrantRow) :
    (s.modRow b f).rowAt b = f (s.rowAt b) := by simp [State.modRow, State.rowAt]
@[simp] theorem State.modRow_rowAt_ne (s : State) {b c : BayNo} (f : GrantRow → GrantRow) (h : c ≠ b) :
    (s.modRow b f).rowAt c = s.rowAt c := by simp [State.modRow, State.rowAt, h]
@[simp] theorem State.modRow_lcsAt (s : State) (b c : BayNo) (f : GrantRow → GrantRow) :
    (s.modRow b f).lcsAt c = s.lcsAt c := rfl
@[simp] theorem State.modRow_dpmAt (s : State) (b c : BayNo) (f : GrantRow → GrantRow) :
    (s.modRow b f).dpmAt c = s.dpmAt c := rfl
@[simp] theorem State.modRow_clrAt (s : State) (b c : BayNo) (f : GrantRow → GrantRow) :
    (s.modRow b f).clrAt c = s.clrAt c := rfl
@[simp] theorem State.modRow_flagsAt (s : State) (b c : BayNo) (f : GrantRow → GrantRow) :
    (s.modRow b f).flagsAt c = s.flagsAt c := rfl

/-! ### modLcs -/

@[simp] theorem State.modLcs_bfe (s : State) (b : BayNo) (f : Lcs → Lcs) : (s.modLcs b f).bfe = s.bfe := rfl
@[simp] theorem State.modLcs_clc (s : State) (b : BayNo) (f : Lcs → Lcs) : (s.modLcs b f).clc = s.clc := rfl
@[simp] theorem State.modLcs_dku (s : State) (b : BayNo) (f : Lcs → Lcs) : (s.modLcs b f).dku = s.dku := rfl
@[simp] theorem State.modLcs_frd (s : State) (b : BayNo) (f : Lcs → Lcs) : (s.modLcs b f).frd = s.frd := rfl
@[simp] theorem State.modLcs_hpl (s : State) (b : BayNo) (f : Lcs → Lcs) : (s.modLcs b f).hpl = s.hpl := rfl
@[simp] theorem State.modLcs_row (s : State) (b : BayNo) (f : Lcs → Lcs) : (s.modLcs b f).row = s.row := rfl
@[simp] theorem State.modLcs_dpm (s : State) (b : BayNo) (f : Lcs → Lcs) : (s.modLcs b f).dpm = s.dpm := rfl
@[simp] theorem State.modLcs_clr (s : State) (b : BayNo) (f : Lcs → Lcs) : (s.modLcs b f).clr = s.clr := rfl
@[simp] theorem State.modLcs_flags (s : State) (b : BayNo) (f : Lcs → Lcs) : (s.modLcs b f).flags = s.flags := rfl
@[simp] theorem State.modLcs_hallFlags (s : State) (b : BayNo) (f : Lcs → Lcs) : (s.modLcs b f).hallFlags = s.hallFlags := rfl
@[simp] theorem State.modLcs_clock (s : State) (b : BayNo) (f : Lcs → Lcs) : (s.modLcs b f).clock = s.clock := rfl
@[simp] theorem State.modLcs_hallInputs (s : State) (b : BayNo) (f : Lcs → Lcs) : (s.modLcs b f).hallInputs = s.hallInputs := rfl
@[simp] theorem State.modLcs_settings (s : State) (b : BayNo) (f : Lcs → Lcs) : (s.modLcs b f).settings = s.settings := rfl
@[simp] theorem State.modLcs_map (s : State) (b : BayNo) (f : Lcs → Lcs) : (s.modLcs b f).map = s.map := rfl
@[simp] theorem State.modLcs_ambient (s : State) (b : BayNo) (f : Lcs → Lcs) : (s.modLcs b f).ambient = s.ambient := rfl
@[simp] theorem State.modLcs_feeder (s : State) (b : BayNo) (f : Lcs → Lcs) : (s.modLcs b f).feeder = s.feeder := rfl
@[simp] theorem State.modLcs_channels (s : State) (b : BayNo) (f : Lcs → Lcs) : (s.modLcs b f).channels = s.channels := rfl
@[simp] theorem State.modLcs_channelQueue (s : State) (b : BayNo) (f : Lcs → Lcs) : (s.modLcs b f).channelQueue = s.channelQueue := rfl
@[simp] theorem State.modLcs_departures (s : State) (b : BayNo) (f : Lcs → Lcs) : (s.modLcs b f).departures = s.departures := rfl
@[simp] theorem State.modLcs_hallHold (s : State) (b : BayNo) (f : Lcs → Lcs) : (s.modLcs b f).hallHold = s.hallHold := rfl
@[simp] theorem State.modLcs_laneA (s : State) (b : BayNo) (f : Lcs → Lcs) : (s.modLcs b f).laneA = s.laneA := rfl
@[simp] theorem State.modLcs_laneB (s : State) (b : BayNo) (f : Lcs → Lcs) : (s.modLcs b f).laneB = s.laneB := rfl
@[simp] theorem State.modLcs_waitOrder (s : State) (b : BayNo) (f : Lcs → Lcs) : (s.modLcs b f).waitOrder = s.waitOrder := rfl
@[simp] theorem State.modLcs_hli (s : State) (b : BayNo) (f : Lcs → Lcs) : (s.modLcs b f).hli = s.hli := rfl
@[simp] theorem State.modLcs_unfinished (s : State) (b : BayNo) (f : Lcs → Lcs) : (s.modLcs b f).unfinished = s.unfinished := rfl
@[simp] theorem State.modLcs_pending (s : State) (b : BayNo) (f : Lcs → Lcs) : (s.modLcs b f).pending = s.pending := rfl
@[simp] theorem State.modLcs_bfeAt (s : State) (b c : BayNo) (f : Lcs → Lcs) :
    (s.modLcs b f).bfeAt c = s.bfeAt c := rfl
@[simp] theorem State.modLcs_clcAt (s : State) (b c : BayNo) (f : Lcs → Lcs) :
    (s.modLcs b f).clcAt c = s.clcAt c := rfl
@[simp] theorem State.modLcs_dkuAt (s : State) (b c : BayNo) (f : Lcs → Lcs) :
    (s.modLcs b f).dkuAt c = s.dkuAt c := rfl
@[simp] theorem State.modLcs_frdAt (s : State) (b c : BayNo) (f : Lcs → Lcs) :
    (s.modLcs b f).frdAt c = s.frdAt c := rfl
@[simp] theorem State.modLcs_hplAt (s : State) (b c : BayNo) (f : Lcs → Lcs) :
    (s.modLcs b f).hplAt c = s.hplAt c := rfl
@[simp] theorem State.modLcs_rowAt (s : State) (b c : BayNo) (f : Lcs → Lcs) :
    (s.modLcs b f).rowAt c = s.rowAt c := rfl
@[simp] theorem State.modLcs_lcsAt_same (s : State) (b : BayNo) (f : Lcs → Lcs) :
    (s.modLcs b f).lcsAt b = f (s.lcsAt b) := by simp [State.modLcs, State.lcsAt]
@[simp] theorem State.modLcs_lcsAt_ne (s : State) {b c : BayNo} (f : Lcs → Lcs) (h : c ≠ b) :
    (s.modLcs b f).lcsAt c = s.lcsAt c := by simp [State.modLcs, State.lcsAt, h]
@[simp] theorem State.modLcs_dpmAt (s : State) (b c : BayNo) (f : Lcs → Lcs) :
    (s.modLcs b f).dpmAt c = s.dpmAt c := rfl
@[simp] theorem State.modLcs_clrAt (s : State) (b c : BayNo) (f : Lcs → Lcs) :
    (s.modLcs b f).clrAt c = s.clrAt c := rfl
@[simp] theorem State.modLcs_flagsAt (s : State) (b c : BayNo) (f : Lcs → Lcs) :
    (s.modLcs b f).flagsAt c = s.flagsAt c := rfl

/-! ### modDpm -/

@[simp] theorem State.modDpm_bfe (s : State) (b : BayNo) (f : Dpm → Dpm) : (s.modDpm b f).bfe = s.bfe := rfl
@[simp] theorem State.modDpm_clc (s : State) (b : BayNo) (f : Dpm → Dpm) : (s.modDpm b f).clc = s.clc := rfl
@[simp] theorem State.modDpm_dku (s : State) (b : BayNo) (f : Dpm → Dpm) : (s.modDpm b f).dku = s.dku := rfl
@[simp] theorem State.modDpm_frd (s : State) (b : BayNo) (f : Dpm → Dpm) : (s.modDpm b f).frd = s.frd := rfl
@[simp] theorem State.modDpm_hpl (s : State) (b : BayNo) (f : Dpm → Dpm) : (s.modDpm b f).hpl = s.hpl := rfl
@[simp] theorem State.modDpm_row (s : State) (b : BayNo) (f : Dpm → Dpm) : (s.modDpm b f).row = s.row := rfl
@[simp] theorem State.modDpm_lcs (s : State) (b : BayNo) (f : Dpm → Dpm) : (s.modDpm b f).lcs = s.lcs := rfl
@[simp] theorem State.modDpm_clr (s : State) (b : BayNo) (f : Dpm → Dpm) : (s.modDpm b f).clr = s.clr := rfl
@[simp] theorem State.modDpm_flags (s : State) (b : BayNo) (f : Dpm → Dpm) : (s.modDpm b f).flags = s.flags := rfl
@[simp] theorem State.modDpm_hallFlags (s : State) (b : BayNo) (f : Dpm → Dpm) : (s.modDpm b f).hallFlags = s.hallFlags := rfl
@[simp] theorem State.modDpm_clock (s : State) (b : BayNo) (f : Dpm → Dpm) : (s.modDpm b f).clock = s.clock := rfl
@[simp] theorem State.modDpm_hallInputs (s : State) (b : BayNo) (f : Dpm → Dpm) : (s.modDpm b f).hallInputs = s.hallInputs := rfl
@[simp] theorem State.modDpm_settings (s : State) (b : BayNo) (f : Dpm → Dpm) : (s.modDpm b f).settings = s.settings := rfl
@[simp] theorem State.modDpm_map (s : State) (b : BayNo) (f : Dpm → Dpm) : (s.modDpm b f).map = s.map := rfl
@[simp] theorem State.modDpm_ambient (s : State) (b : BayNo) (f : Dpm → Dpm) : (s.modDpm b f).ambient = s.ambient := rfl
@[simp] theorem State.modDpm_feeder (s : State) (b : BayNo) (f : Dpm → Dpm) : (s.modDpm b f).feeder = s.feeder := rfl
@[simp] theorem State.modDpm_channels (s : State) (b : BayNo) (f : Dpm → Dpm) : (s.modDpm b f).channels = s.channels := rfl
@[simp] theorem State.modDpm_channelQueue (s : State) (b : BayNo) (f : Dpm → Dpm) : (s.modDpm b f).channelQueue = s.channelQueue := rfl
@[simp] theorem State.modDpm_departures (s : State) (b : BayNo) (f : Dpm → Dpm) : (s.modDpm b f).departures = s.departures := rfl
@[simp] theorem State.modDpm_hallHold (s : State) (b : BayNo) (f : Dpm → Dpm) : (s.modDpm b f).hallHold = s.hallHold := rfl
@[simp] theorem State.modDpm_laneA (s : State) (b : BayNo) (f : Dpm → Dpm) : (s.modDpm b f).laneA = s.laneA := rfl
@[simp] theorem State.modDpm_laneB (s : State) (b : BayNo) (f : Dpm → Dpm) : (s.modDpm b f).laneB = s.laneB := rfl
@[simp] theorem State.modDpm_waitOrder (s : State) (b : BayNo) (f : Dpm → Dpm) : (s.modDpm b f).waitOrder = s.waitOrder := rfl
@[simp] theorem State.modDpm_hli (s : State) (b : BayNo) (f : Dpm → Dpm) : (s.modDpm b f).hli = s.hli := rfl
@[simp] theorem State.modDpm_unfinished (s : State) (b : BayNo) (f : Dpm → Dpm) : (s.modDpm b f).unfinished = s.unfinished := rfl
@[simp] theorem State.modDpm_pending (s : State) (b : BayNo) (f : Dpm → Dpm) : (s.modDpm b f).pending = s.pending := rfl
@[simp] theorem State.modDpm_bfeAt (s : State) (b c : BayNo) (f : Dpm → Dpm) :
    (s.modDpm b f).bfeAt c = s.bfeAt c := rfl
@[simp] theorem State.modDpm_clcAt (s : State) (b c : BayNo) (f : Dpm → Dpm) :
    (s.modDpm b f).clcAt c = s.clcAt c := rfl
@[simp] theorem State.modDpm_dkuAt (s : State) (b c : BayNo) (f : Dpm → Dpm) :
    (s.modDpm b f).dkuAt c = s.dkuAt c := rfl
@[simp] theorem State.modDpm_frdAt (s : State) (b c : BayNo) (f : Dpm → Dpm) :
    (s.modDpm b f).frdAt c = s.frdAt c := rfl
@[simp] theorem State.modDpm_hplAt (s : State) (b c : BayNo) (f : Dpm → Dpm) :
    (s.modDpm b f).hplAt c = s.hplAt c := rfl
@[simp] theorem State.modDpm_rowAt (s : State) (b c : BayNo) (f : Dpm → Dpm) :
    (s.modDpm b f).rowAt c = s.rowAt c := rfl
@[simp] theorem State.modDpm_lcsAt (s : State) (b c : BayNo) (f : Dpm → Dpm) :
    (s.modDpm b f).lcsAt c = s.lcsAt c := rfl
@[simp] theorem State.modDpm_dpmAt_same (s : State) (b : BayNo) (f : Dpm → Dpm) :
    (s.modDpm b f).dpmAt b = f (s.dpmAt b) := by simp [State.modDpm, State.dpmAt]
@[simp] theorem State.modDpm_dpmAt_ne (s : State) {b c : BayNo} (f : Dpm → Dpm) (h : c ≠ b) :
    (s.modDpm b f).dpmAt c = s.dpmAt c := by simp [State.modDpm, State.dpmAt, h]
@[simp] theorem State.modDpm_clrAt (s : State) (b c : BayNo) (f : Dpm → Dpm) :
    (s.modDpm b f).clrAt c = s.clrAt c := rfl
@[simp] theorem State.modDpm_flagsAt (s : State) (b c : BayNo) (f : Dpm → Dpm) :
    (s.modDpm b f).flagsAt c = s.flagsAt c := rfl

/-! ### modClr -/

@[simp] theorem State.modClr_bfe (s : State) (b : BayNo) (f : Clr → Clr) : (s.modClr b f).bfe = s.bfe := rfl
@[simp] theorem State.modClr_clc (s : State) (b : BayNo) (f : Clr → Clr) : (s.modClr b f).clc = s.clc := rfl
@[simp] theorem State.modClr_dku (s : State) (b : BayNo) (f : Clr → Clr) : (s.modClr b f).dku = s.dku := rfl
@[simp] theorem State.modClr_frd (s : State) (b : BayNo) (f : Clr → Clr) : (s.modClr b f).frd = s.frd := rfl
@[simp] theorem State.modClr_hpl (s : State) (b : BayNo) (f : Clr → Clr) : (s.modClr b f).hpl = s.hpl := rfl
@[simp] theorem State.modClr_row (s : State) (b : BayNo) (f : Clr → Clr) : (s.modClr b f).row = s.row := rfl
@[simp] theorem State.modClr_lcs (s : State) (b : BayNo) (f : Clr → Clr) : (s.modClr b f).lcs = s.lcs := rfl
@[simp] theorem State.modClr_dpm (s : State) (b : BayNo) (f : Clr → Clr) : (s.modClr b f).dpm = s.dpm := rfl
@[simp] theorem State.modClr_flags (s : State) (b : BayNo) (f : Clr → Clr) : (s.modClr b f).flags = s.flags := rfl
@[simp] theorem State.modClr_hallFlags (s : State) (b : BayNo) (f : Clr → Clr) : (s.modClr b f).hallFlags = s.hallFlags := rfl
@[simp] theorem State.modClr_clock (s : State) (b : BayNo) (f : Clr → Clr) : (s.modClr b f).clock = s.clock := rfl
@[simp] theorem State.modClr_hallInputs (s : State) (b : BayNo) (f : Clr → Clr) : (s.modClr b f).hallInputs = s.hallInputs := rfl
@[simp] theorem State.modClr_settings (s : State) (b : BayNo) (f : Clr → Clr) : (s.modClr b f).settings = s.settings := rfl
@[simp] theorem State.modClr_map (s : State) (b : BayNo) (f : Clr → Clr) : (s.modClr b f).map = s.map := rfl
@[simp] theorem State.modClr_ambient (s : State) (b : BayNo) (f : Clr → Clr) : (s.modClr b f).ambient = s.ambient := rfl
@[simp] theorem State.modClr_feeder (s : State) (b : BayNo) (f : Clr → Clr) : (s.modClr b f).feeder = s.feeder := rfl
@[simp] theorem State.modClr_channels (s : State) (b : BayNo) (f : Clr → Clr) : (s.modClr b f).channels = s.channels := rfl
@[simp] theorem State.modClr_channelQueue (s : State) (b : BayNo) (f : Clr → Clr) : (s.modClr b f).channelQueue = s.channelQueue := rfl
@[simp] theorem State.modClr_departures (s : State) (b : BayNo) (f : Clr → Clr) : (s.modClr b f).departures = s.departures := rfl
@[simp] theorem State.modClr_hallHold (s : State) (b : BayNo) (f : Clr → Clr) : (s.modClr b f).hallHold = s.hallHold := rfl
@[simp] theorem State.modClr_laneA (s : State) (b : BayNo) (f : Clr → Clr) : (s.modClr b f).laneA = s.laneA := rfl
@[simp] theorem State.modClr_laneB (s : State) (b : BayNo) (f : Clr → Clr) : (s.modClr b f).laneB = s.laneB := rfl
@[simp] theorem State.modClr_waitOrder (s : State) (b : BayNo) (f : Clr → Clr) : (s.modClr b f).waitOrder = s.waitOrder := rfl
@[simp] theorem State.modClr_hli (s : State) (b : BayNo) (f : Clr → Clr) : (s.modClr b f).hli = s.hli := rfl
@[simp] theorem State.modClr_unfinished (s : State) (b : BayNo) (f : Clr → Clr) : (s.modClr b f).unfinished = s.unfinished := rfl
@[simp] theorem State.modClr_pending (s : State) (b : BayNo) (f : Clr → Clr) : (s.modClr b f).pending = s.pending := rfl
@[simp] theorem State.modClr_bfeAt (s : State) (b c : BayNo) (f : Clr → Clr) :
    (s.modClr b f).bfeAt c = s.bfeAt c := rfl
@[simp] theorem State.modClr_clcAt (s : State) (b c : BayNo) (f : Clr → Clr) :
    (s.modClr b f).clcAt c = s.clcAt c := rfl
@[simp] theorem State.modClr_dkuAt (s : State) (b c : BayNo) (f : Clr → Clr) :
    (s.modClr b f).dkuAt c = s.dkuAt c := rfl
@[simp] theorem State.modClr_frdAt (s : State) (b c : BayNo) (f : Clr → Clr) :
    (s.modClr b f).frdAt c = s.frdAt c := rfl
@[simp] theorem State.modClr_hplAt (s : State) (b c : BayNo) (f : Clr → Clr) :
    (s.modClr b f).hplAt c = s.hplAt c := rfl
@[simp] theorem State.modClr_rowAt (s : State) (b c : BayNo) (f : Clr → Clr) :
    (s.modClr b f).rowAt c = s.rowAt c := rfl
@[simp] theorem State.modClr_lcsAt (s : State) (b c : BayNo) (f : Clr → Clr) :
    (s.modClr b f).lcsAt c = s.lcsAt c := rfl
@[simp] theorem State.modClr_dpmAt (s : State) (b c : BayNo) (f : Clr → Clr) :
    (s.modClr b f).dpmAt c = s.dpmAt c := rfl
@[simp] theorem State.modClr_clrAt_same (s : State) (b : BayNo) (f : Clr → Clr) :
    (s.modClr b f).clrAt b = f (s.clrAt b) := by simp [State.modClr, State.clrAt]
@[simp] theorem State.modClr_clrAt_ne (s : State) {b c : BayNo} (f : Clr → Clr) (h : c ≠ b) :
    (s.modClr b f).clrAt c = s.clrAt c := by simp [State.modClr, State.clrAt, h]
@[simp] theorem State.modClr_flagsAt (s : State) (b c : BayNo) (f : Clr → Clr) :
    (s.modClr b f).flagsAt c = s.flagsAt c := rfl

/-! ### modFlags -/

@[simp] theorem State.modFlags_bfe (s : State) (b : BayNo) (f : Vector Flag 13 → Vector Flag 13) : (s.modFlags b f).bfe = s.bfe := rfl
@[simp] theorem State.modFlags_clc (s : State) (b : BayNo) (f : Vector Flag 13 → Vector Flag 13) : (s.modFlags b f).clc = s.clc := rfl
@[simp] theorem State.modFlags_dku (s : State) (b : BayNo) (f : Vector Flag 13 → Vector Flag 13) : (s.modFlags b f).dku = s.dku := rfl
@[simp] theorem State.modFlags_frd (s : State) (b : BayNo) (f : Vector Flag 13 → Vector Flag 13) : (s.modFlags b f).frd = s.frd := rfl
@[simp] theorem State.modFlags_hpl (s : State) (b : BayNo) (f : Vector Flag 13 → Vector Flag 13) : (s.modFlags b f).hpl = s.hpl := rfl
@[simp] theorem State.modFlags_row (s : State) (b : BayNo) (f : Vector Flag 13 → Vector Flag 13) : (s.modFlags b f).row = s.row := rfl
@[simp] theorem State.modFlags_lcs (s : State) (b : BayNo) (f : Vector Flag 13 → Vector Flag 13) : (s.modFlags b f).lcs = s.lcs := rfl
@[simp] theorem State.modFlags_dpm (s : State) (b : BayNo) (f : Vector Flag 13 → Vector Flag 13) : (s.modFlags b f).dpm = s.dpm := rfl
@[simp] theorem State.modFlags_clr (s : State) (b : BayNo) (f : Vector Flag 13 → Vector Flag 13) : (s.modFlags b f).clr = s.clr := rfl
@[simp] theorem State.modFlags_hallFlags (s : State) (b : BayNo) (f : Vector Flag 13 → Vector Flag 13) : (s.modFlags b f).hallFlags = s.hallFlags := rfl
@[simp] theorem State.modFlags_clock (s : State) (b : BayNo) (f : Vector Flag 13 → Vector Flag 13) : (s.modFlags b f).clock = s.clock := rfl
@[simp] theorem State.modFlags_hallInputs (s : State) (b : BayNo) (f : Vector Flag 13 → Vector Flag 13) : (s.modFlags b f).hallInputs = s.hallInputs := rfl
@[simp] theorem State.modFlags_settings (s : State) (b : BayNo) (f : Vector Flag 13 → Vector Flag 13) : (s.modFlags b f).settings = s.settings := rfl
@[simp] theorem State.modFlags_map (s : State) (b : BayNo) (f : Vector Flag 13 → Vector Flag 13) : (s.modFlags b f).map = s.map := rfl
@[simp] theorem State.modFlags_ambient (s : State) (b : BayNo) (f : Vector Flag 13 → Vector Flag 13) : (s.modFlags b f).ambient = s.ambient := rfl
@[simp] theorem State.modFlags_feeder (s : State) (b : BayNo) (f : Vector Flag 13 → Vector Flag 13) : (s.modFlags b f).feeder = s.feeder := rfl
@[simp] theorem State.modFlags_channels (s : State) (b : BayNo) (f : Vector Flag 13 → Vector Flag 13) : (s.modFlags b f).channels = s.channels := rfl
@[simp] theorem State.modFlags_channelQueue (s : State) (b : BayNo) (f : Vector Flag 13 → Vector Flag 13) : (s.modFlags b f).channelQueue = s.channelQueue := rfl
@[simp] theorem State.modFlags_departures (s : State) (b : BayNo) (f : Vector Flag 13 → Vector Flag 13) : (s.modFlags b f).departures = s.departures := rfl
@[simp] theorem State.modFlags_hallHold (s : State) (b : BayNo) (f : Vector Flag 13 → Vector Flag 13) : (s.modFlags b f).hallHold = s.hallHold := rfl
@[simp] theorem State.modFlags_laneA (s : State) (b : BayNo) (f : Vector Flag 13 → Vector Flag 13) : (s.modFlags b f).laneA = s.laneA := rfl
@[simp] theorem State.modFlags_laneB (s : State) (b : BayNo) (f : Vector Flag 13 → Vector Flag 13) : (s.modFlags b f).laneB = s.laneB := rfl
@[simp] theorem State.modFlags_waitOrder (s : State) (b : BayNo) (f : Vector Flag 13 → Vector Flag 13) : (s.modFlags b f).waitOrder = s.waitOrder := rfl
@[simp] theorem State.modFlags_hli (s : State) (b : BayNo) (f : Vector Flag 13 → Vector Flag 13) : (s.modFlags b f).hli = s.hli := rfl
@[simp] theorem State.modFlags_unfinished (s : State) (b : BayNo) (f : Vector Flag 13 → Vector Flag 13) : (s.modFlags b f).unfinished = s.unfinished := rfl
@[simp] theorem State.modFlags_pending (s : State) (b : BayNo) (f : Vector Flag 13 → Vector Flag 13) : (s.modFlags b f).pending = s.pending := rfl
@[simp] theorem State.modFlags_bfeAt (s : State) (b c : BayNo) (f : Vector Flag 13 → Vector Flag 13) :
    (s.modFlags b f).bfeAt c = s.bfeAt c := rfl
@[simp] theorem State.modFlags_clcAt (s : State) (b c : BayNo) (f : Vector Flag 13 → Vector Flag 13) :
    (s.modFlags b f).clcAt c = s.clcAt c := rfl
@[simp] theorem State.modFlags_dkuAt (s : State) (b c : BayNo) (f : Vector Flag 13 → Vector Flag 13) :
    (s.modFlags b f).dkuAt c = s.dkuAt c := rfl
@[simp] theorem State.modFlags_frdAt (s : State) (b c : BayNo) (f : Vector Flag 13 → Vector Flag 13) :
    (s.modFlags b f).frdAt c = s.frdAt c := rfl
@[simp] theorem State.modFlags_hplAt (s : State) (b c : BayNo) (f : Vector Flag 13 → Vector Flag 13) :
    (s.modFlags b f).hplAt c = s.hplAt c := rfl
@[simp] theorem State.modFlags_rowAt (s : State) (b c : BayNo) (f : Vector Flag 13 → Vector Flag 13) :
    (s.modFlags b f).rowAt c = s.rowAt c := rfl
@[simp] theorem State.modFlags_lcsAt (s : State) (b c : BayNo) (f : Vector Flag 13 → Vector Flag 13) :
    (s.modFlags b f).lcsAt c = s.lcsAt c := rfl
@[simp] theorem State.modFlags_dpmAt (s : State) (b c : BayNo) (f : Vector Flag 13 → Vector Flag 13) :
    (s.modFlags b f).dpmAt c = s.dpmAt c := rfl
@[simp] theorem State.modFlags_clrAt (s : State) (b c : BayNo) (f : Vector Flag 13 → Vector Flag 13) :
    (s.modFlags b f).clrAt c = s.clrAt c := rfl
@[simp] theorem State.modFlags_flagsAt_same (s : State) (b : BayNo) (f : Vector Flag 13 → Vector Flag 13) :
    (s.modFlags b f).flagsAt b = f (s.flagsAt b) := by simp [State.modFlags, State.flagsAt]
@[simp] theorem State.modFlags_flagsAt_ne (s : State) {b c : BayNo} (f : Vector Flag 13 → Vector Flag 13) (h : c ≠ b) :
    (s.modFlags b f).flagsAt c = s.flagsAt c := by simp [State.modFlags, State.flagsAt, h]

/-! ### modHli -/

@[simp] theorem State.modHli_bfe (s : State) (f : HostLink → HostLink) : (s.modHli f).bfe = s.bfe := rfl
@[simp] theorem State.modHli_clc (s : State) (f : HostLink → HostLink) : (s.modHli f).clc = s.clc := rfl
@[simp] theorem State.modHli_dku (s : State) (f : HostLink → HostLink) : (s.modHli f).dku = s.dku := rfl
@[simp] theorem State.modHli_frd (s : State) (f : HostLink → HostLink) : (s.modHli f).frd = s.frd := rfl
@[simp] theorem State.modHli_hpl (s : State) (f : HostLink → HostLink) : (s.modHli f).hpl = s.hpl := rfl
@[simp] theorem State.modHli_row (s : State) (f : HostLink → HostLink) : (s.modHli f).row = s.row := rfl
@[simp] theorem State.modHli_lcs (s : State) (f : HostLink → HostLink) : (s.modHli f).lcs = s.lcs := rfl
@[simp] theorem State.modHli_dpm (s : State) (f : HostLink → HostLink) : (s.modHli f).dpm = s.dpm := rfl
@[simp] theorem State.modHli_clr (s : State) (f : HostLink → HostLink) : (s.modHli f).clr = s.clr := rfl
@[simp] theorem State.modHli_flags (s : State) (f : HostLink → HostLink) : (s.modHli f).flags = s.flags := rfl
@[simp] theorem State.modHli_hallFlags (s : State) (f : HostLink → HostLink) : (s.modHli f).hallFlags = s.hallFlags := rfl
@[simp] theorem State.modHli_clock (s : State) (f : HostLink → HostLink) : (s.modHli f).clock = s.clock := rfl
@[simp] theorem State.modHli_hallInputs (s : State) (f : HostLink → HostLink) : (s.modHli f).hallInputs = s.hallInputs := rfl
@[simp] theorem State.modHli_settings (s : State) (f : HostLink → HostLink) : (s.modHli f).settings = s.settings := rfl
@[simp] theorem State.modHli_map (s : State) (f : HostLink → HostLink) : (s.modHli f).map = s.map := rfl
@[simp] theorem State.modHli_ambient (s : State) (f : HostLink → HostLink) : (s.modHli f).ambient = s.ambient := rfl
@[simp] theorem State.modHli_feeder (s : State) (f : HostLink → HostLink) : (s.modHli f).feeder = s.feeder := rfl
@[simp] theorem State.modHli_channels (s : State) (f : HostLink → HostLink) : (s.modHli f).channels = s.channels := rfl
@[simp] theorem State.modHli_channelQueue (s : State) (f : HostLink → HostLink) : (s.modHli f).channelQueue = s.channelQueue := rfl
@[simp] theorem State.modHli_departures (s : State) (f : HostLink → HostLink) : (s.modHli f).departures = s.departures := rfl
@[simp] theorem State.modHli_hallHold (s : State) (f : HostLink → HostLink) : (s.modHli f).hallHold = s.hallHold := rfl
@[simp] theorem State.modHli_laneA (s : State) (f : HostLink → HostLink) : (s.modHli f).laneA = s.laneA := rfl
@[simp] theorem State.modHli_laneB (s : State) (f : HostLink → HostLink) : (s.modHli f).laneB = s.laneB := rfl
@[simp] theorem State.modHli_waitOrder (s : State) (f : HostLink → HostLink) : (s.modHli f).waitOrder = s.waitOrder := rfl
@[simp] theorem State.modHli_hli (s : State) (f : HostLink → HostLink) : (s.modHli f).hli = f s.hli := rfl
@[simp] theorem State.modHli_unfinished (s : State) (f : HostLink → HostLink) : (s.modHli f).unfinished = s.unfinished := rfl
@[simp] theorem State.modHli_pending (s : State) (f : HostLink → HostLink) : (s.modHli f).pending = s.pending := rfl
@[simp] theorem State.modHli_bfeAt (s : State) (c : BayNo) (f : HostLink → HostLink) :
    (s.modHli f).bfeAt c = s.bfeAt c := rfl
@[simp] theorem State.modHli_clcAt (s : State) (c : BayNo) (f : HostLink → HostLink) :
    (s.modHli f).clcAt c = s.clcAt c := rfl
@[simp] theorem State.modHli_dkuAt (s : State) (c : BayNo) (f : HostLink → HostLink) :
    (s.modHli f).dkuAt c = s.dkuAt c := rfl
@[simp] theorem State.modHli_frdAt (s : State) (c : BayNo) (f : HostLink → HostLink) :
    (s.modHli f).frdAt c = s.frdAt c := rfl
@[simp] theorem State.modHli_hplAt (s : State) (c : BayNo) (f : HostLink → HostLink) :
    (s.modHli f).hplAt c = s.hplAt c := rfl
@[simp] theorem State.modHli_rowAt (s : State) (c : BayNo) (f : HostLink → HostLink) :
    (s.modHli f).rowAt c = s.rowAt c := rfl
@[simp] theorem State.modHli_lcsAt (s : State) (c : BayNo) (f : HostLink → HostLink) :
    (s.modHli f).lcsAt c = s.lcsAt c := rfl
@[simp] theorem State.modHli_dpmAt (s : State) (c : BayNo) (f : HostLink → HostLink) :
    (s.modHli f).dpmAt c = s.dpmAt c := rfl
@[simp] theorem State.modHli_clrAt (s : State) (c : BayNo) (f : HostLink → HostLink) :
    (s.modHli f).clrAt c = s.clrAt c := rfl
@[simp] theorem State.modHli_flagsAt (s : State) (c : BayNo) (f : HostLink → HostLink) :
    (s.modHli f).flagsAt c = s.flagsAt c := rfl

/-! ### modClock -/

@[simp] theorem State.modClock_bfe (s : State) (f : Clock → Clock) : (s.modClock f).bfe = s.bfe := rfl
@[simp] theorem State.modClock_clc (s : State) (f : Clock → Clock) : (s.modClock f).clc = s.clc := rfl
@[simp] theorem State.modClock_dku (s : State) (f : Clock → Clock) : (s.modClock f).dku = s.dku := rfl
@[simp] theorem State.modClock_frd (s : State) (f : Clock → Clock) : (s.modClock f).frd = s.frd := rfl
@[simp] theorem State.modClock_hpl (s : State) (f : Clock → Clock) : (s.modClock f).hpl = s.hpl := rfl
@[simp] theorem State.modClock_row (s : State) (f : Clock → Clock) : (s.modClock f).row = s.row := rfl
@[simp] theorem State.modClock_lcs (s : State) (f : Clock → Clock) : (s.modClock f).lcs = s.lcs := rfl
@[simp] theorem State.modClock_dpm (s : State) (f : Clock → Clock) : (s.modClock f).dpm = s.dpm := rfl
@[simp] theorem State.modClock_clr (s : State) (f : Clock → Clock) : (s.modClock f).clr = s.clr := rfl
@[simp] theorem State.modClock_flags (s : State) (f : Clock → Clock) : (s.modClock f).flags = s.flags := rfl
@[simp] theorem State.modClock_hallFlags (s : State) (f : Clock → Clock) : (s.modClock f).hallFlags = s.hallFlags := rfl
@[simp] theorem State.modClock_clock (s : State) (f : Clock → Clock) : (s.modClock f).clock = f s.clock := rfl
@[simp] theorem State.modClock_hallInputs (s : State) (f : Clock → Clock) : (s.modClock f).hallInputs = s.hallInputs := rfl
@[simp] theorem State.modClock_settings (s : State) (f : Clock → Clock) : (s.modClock f).settings = s.settings := rfl
@[simp] theorem State.modClock_map (s : State) (f : Clock → Clock) : (s.modClock f).map = s.map := rfl
@[simp] theorem State.modClock_ambient (s : State) (f : Clock → Clock) : (s.modClock f).ambient = s.ambient := rfl
@[simp] theorem State.modClock_feeder (s : State) (f : Clock → Clock) : (s.modClock f).feeder = s.feeder := rfl
@[simp] theorem State.modClock_channels (s : State) (f : Clock → Clock) : (s.modClock f).channels = s.channels := rfl
@[simp] theorem State.modClock_channelQueue (s : State) (f : Clock → Clock) : (s.modClock f).channelQueue = s.channelQueue := rfl
@[simp] theorem State.modClock_departures (s : State) (f : Clock → Clock) : (s.modClock f).departures = s.departures := rfl
@[simp] theorem State.modClock_hallHold (s : State) (f : Clock → Clock) : (s.modClock f).hallHold = s.hallHold := rfl
@[simp] theorem State.modClock_laneA (s : State) (f : Clock → Clock) : (s.modClock f).laneA = s.laneA := rfl
@[simp] theorem State.modClock_laneB (s : State) (f : Clock → Clock) : (s.modClock f).laneB = s.laneB := rfl
@[simp] theorem State.modClock_waitOrder (s : State) (f : Clock → Clock) : (s.modClock f).waitOrder = s.waitOrder := rfl
@[simp] theorem State.modClock_hli (s : State) (f : Clock → Clock) : (s.modClock f).hli = s.hli := rfl
@[simp] theorem State.modClock_unfinished (s : State) (f : Clock → Clock) : (s.modClock f).unfinished = s.unfinished := rfl
@[simp] theorem State.modClock_pending (s : State) (f : Clock → Clock) : (s.modClock f).pending = s.pending := rfl
@[simp] theorem State.modClock_bfeAt (s : State) (c : BayNo) (f : Clock → Clock) :
    (s.modClock f).bfeAt c = s.bfeAt c := rfl
@[simp] theorem State.modClock_clcAt (s : State) (c : BayNo) (f : Clock → Clock) :
    (s.modClock f).clcAt c = s.clcAt c := rfl
@[simp] theorem State.modClock_dkuAt (s : State) (c : BayNo) (f : Clock → Clock) :
    (s.modClock f).dkuAt c = s.dkuAt c := rfl
@[simp] theorem State.modClock_frdAt (s : State) (c : BayNo) (f : Clock → Clock) :
    (s.modClock f).frdAt c = s.frdAt c := rfl
@[simp] theorem State.modClock_hplAt (s : State) (c : BayNo) (f : Clock → Clock) :
    (s.modClock f).hplAt c = s.hplAt c := rfl
@[simp] theorem State.modClock_rowAt (s : State) (c : BayNo) (f : Clock → Clock) :
    (s.modClock f).rowAt c = s.rowAt c := rfl
@[simp] theorem State.modClock_lcsAt (s : State) (c : BayNo) (f : Clock → Clock) :
    (s.modClock f).lcsAt c = s.lcsAt c := rfl
@[simp] theorem State.modClock_dpmAt (s : State) (c : BayNo) (f : Clock → Clock) :
    (s.modClock f).dpmAt c = s.dpmAt c := rfl
@[simp] theorem State.modClock_clrAt (s : State) (c : BayNo) (f : Clock → Clock) :
    (s.modClock f).clrAt c = s.clrAt c := rfl
@[simp] theorem State.modClock_flagsAt (s : State) (c : BayNo) (f : Clock → Clock) :
    (s.modClock f).flagsAt c = s.flagsAt c := rfl

/-! ### modInputs -/

@[simp] theorem State.modInputs_bfe (s : State) (f : HallInputs → HallInputs) : (s.modInputs f).bfe = s.bfe := rfl
@[simp] theorem State.modInputs_clc (s : State) (f : HallInputs → HallInputs) : (s.modInputs f).clc = s.clc := rfl
@[simp] theorem State.modInputs_dku (s : State) (f : HallInputs → HallInputs) : (s.modInputs f).dku = s.dku := rfl
@[simp] theorem State.modInputs_frd (s : State) (f : HallInputs → HallInputs) : (s.modInputs f).frd = s.frd := rfl
@[simp] theorem State.modInputs_hpl (s : State) (f : HallInputs → HallInputs) : (s.modInputs f).hpl = s.hpl := rfl
@[simp] theorem State.modInputs_row (s : State) (f : HallInputs → HallInputs) : (s.modInputs f).row = s.row := rfl
@[simp] theorem State.modInputs_lcs (s : State) (f : HallInputs → HallInputs) : (s.modInputs f).lcs = s.lcs := rfl
@[simp] theorem State.modInputs_dpm (s : State) (f : HallInputs → HallInputs) : (s.modInputs f).dpm = s.dpm := rfl
@[simp] theorem State.modInputs_clr (s : State) (f : HallInputs → HallInputs) : (s.modInputs f).clr = s.clr := rfl
@[simp] theorem State.modInputs_flags (s : State) (f : HallInputs → HallInputs) : (s.modInputs f).flags = s.flags := rfl
@[simp] theorem State.modInputs_hallFlags (s : State) (f : HallInputs → HallInputs) : (s.modInputs f).hallFlags = s.hallFlags := rfl
@[simp] theorem State.modInputs_clock (s : State) (f : HallInputs → HallInputs) : (s.modInputs f).clock = s.clock := rfl
@[simp] theorem State.modInputs_hallInputs (s : State) (f : HallInputs → HallInputs) : (s.modInputs f).hallInputs = f s.hallInputs := rfl
@[simp] theorem State.modInputs_settings (s : State) (f : HallInputs → HallInputs) : (s.modInputs f).settings = s.settings := rfl
@[simp] theorem State.modInputs_map (s : State) (f : HallInputs → HallInputs) : (s.modInputs f).map = s.map := rfl
@[simp] theorem State.modInputs_ambient (s : State) (f : HallInputs → HallInputs) : (s.modInputs f).ambient = s.ambient := rfl
@[simp] theorem State.modInputs_feeder (s : State) (f : HallInputs → HallInputs) : (s.modInputs f).feeder = s.feeder := rfl
@[simp] theorem State.modInputs_channels (s : State) (f : HallInputs → HallInputs) : (s.modInputs f).channels = s.channels := rfl
@[simp] theorem State.modInputs_channelQueue (s : State) (f : HallInputs → HallInputs) : (s.modInputs f).channelQueue = s.channelQueue := rfl
@[simp] theorem State.modInputs_departures (s : State) (f : HallInputs → HallInputs) : (s.modInputs f).departures = s.departures := rfl
@[simp] theorem State.modInputs_hallHold (s : State) (f : HallInputs → HallInputs) : (s.modInputs f).hallHold = s.hallHold := rfl
@[simp] theorem State.modInputs_laneA (s : State) (f : HallInputs → HallInputs) : (s.modInputs f).laneA = s.laneA := rfl
@[simp] theorem State.modInputs_laneB (s : State) (f : HallInputs → HallInputs) : (s.modInputs f).laneB = s.laneB := rfl
@[simp] theorem State.modInputs_waitOrder (s : State) (f : HallInputs → HallInputs) : (s.modInputs f).waitOrder = s.waitOrder := rfl
@[simp] theorem State.modInputs_hli (s : State) (f : HallInputs → HallInputs) : (s.modInputs f).hli = s.hli := rfl
@[simp] theorem State.modInputs_unfinished (s : State) (f : HallInputs → HallInputs) : (s.modInputs f).unfinished = s.unfinished := rfl
@[simp] theorem State.modInputs_pending (s : State) (f : HallInputs → HallInputs) : (s.modInputs f).pending = s.pending := rfl
@[simp] theorem State.modInputs_bfeAt (s : State) (c : BayNo) (f : HallInputs → HallInputs) :
    (s.modInputs f).bfeAt c = s.bfeAt c := rfl
@[simp] theorem State.modInputs_clcAt (s : State) (c : BayNo) (f : HallInputs → HallInputs) :
    (s.modInputs f).clcAt c = s.clcAt c := rfl
@[simp] theorem State.modInputs_dkuAt (s : State) (c : BayNo) (f : HallInputs → HallInputs) :
    (s.modInputs f).dkuAt c = s.dkuAt c := rfl
@[simp] theorem State.modInputs_frdAt (s : State) (c : BayNo) (f : HallInputs → HallInputs) :
    (s.modInputs f).frdAt c = s.frdAt c := rfl
@[simp] theorem State.modInputs_hplAt (s : State) (c : BayNo) (f : HallInputs → HallInputs) :
    (s.modInputs f).hplAt c = s.hplAt c := rfl
@[simp] theorem State.modInputs_rowAt (s : State) (c : BayNo) (f : HallInputs → HallInputs) :
    (s.modInputs f).rowAt c = s.rowAt c := rfl
@[simp] theorem State.modInputs_lcsAt (s : State) (c : BayNo) (f : HallInputs → HallInputs) :
    (s.modInputs f).lcsAt c = s.lcsAt c := rfl
@[simp] theorem State.modInputs_dpmAt (s : State) (c : BayNo) (f : HallInputs → HallInputs) :
    (s.modInputs f).dpmAt c = s.dpmAt c := rfl
@[simp] theorem State.modInputs_clrAt (s : State) (c : BayNo) (f : HallInputs → HallInputs) :
    (s.modInputs f).clrAt c = s.clrAt c := rfl
@[simp] theorem State.modInputs_flagsAt (s : State) (c : BayNo) (f : HallInputs → HallInputs) :
    (s.modInputs f).flagsAt c = s.flagsAt c := rfl

/-! ### modFeeder -/

@[simp] theorem State.modFeeder_bfe (s : State) (f : Feeder → Feeder) : (s.modFeeder f).bfe = s.bfe := rfl
@[simp] theorem State.modFeeder_clc (s : State) (f : Feeder → Feeder) : (s.modFeeder f).clc = s.clc := rfl
@[simp] theorem State.modFeeder_dku (s : State) (f : Feeder → Feeder) : (s.modFeeder f).dku = s.dku := rfl
@[simp] theorem State.modFeeder_frd (s : State) (f : Feeder → Feeder) : (s.modFeeder f).frd = s.frd := rfl
@[simp] theorem State.modFeeder_hpl (s : State) (f : Feeder → Feeder) : (s.modFeeder f).hpl = s.hpl := rfl
@[simp] theorem State.modFeeder_row (s : State) (f : Feeder → Feeder) : (s.modFeeder f).row = s.row := rfl
@[simp] theorem State.modFeeder_lcs (s : State) (f : Feeder → Feeder) : (s.modFeeder f).lcs = s.lcs := rfl
@[simp] theorem State.modFeeder_dpm (s : State) (f : Feeder → Feeder) : (s.modFeeder f).dpm = s.dpm := rfl
@[simp] theorem State.modFeeder_clr (s : State) (f : Feeder → Feeder) : (s.modFeeder f).clr = s.clr := rfl
@[simp] theorem State.modFeeder_flags (s : State) (f : Feeder → Feeder) : (s.modFeeder f).flags = s.flags := rfl
@[simp] theorem State.modFeeder_hallFlags (s : State) (f : Feeder → Feeder) : (s.modFeeder f).hallFlags = s.hallFlags := rfl
@[simp] theorem State.modFeeder_clock (s : State) (f : Feeder → Feeder) : (s.modFeeder f).clock = s.clock := rfl
@[simp] theorem State.modFeeder_hallInputs (s : State) (f : Feeder → Feeder) : (s.modFeeder f).hallInputs = s.hallInputs := rfl
@[simp] theorem State.modFeeder_settings (s : State) (f : Feeder → Feeder) : (s.modFeeder f).settings = s.settings := rfl
@[simp] theorem State.modFeeder_map (s : State) (f : Feeder → Feeder) : (s.modFeeder f).map = s.map := rfl
@[simp] theorem State.modFeeder_ambient (s : State) (f : Feeder → Feeder) : (s.modFeeder f).ambient = s.ambient := rfl
@[simp] theorem State.modFeeder_feeder (s : State) (f : Feeder → Feeder) : (s.modFeeder f).feeder = f s.feeder := rfl
@[simp] theorem State.modFeeder_channels (s : State) (f : Feeder → Feeder) : (s.modFeeder f).channels = s.channels := rfl
@[simp] theorem State.modFeeder_channelQueue (s : State) (f : Feeder → Feeder) : (s.modFeeder f).channelQueue = s.channelQueue := rfl
@[simp] theorem State.modFeeder_departures (s : State) (f : Feeder → Feeder) : (s.modFeeder f).departures = s.departures := rfl
@[simp] theorem State.modFeeder_hallHold (s : State) (f : Feeder → Feeder) : (s.modFeeder f).hallHold = s.hallHold := rfl
@[simp] theorem State.modFeeder_laneA (s : State) (f : Feeder → Feeder) : (s.modFeeder f).laneA = s.laneA := rfl
@[simp] theorem State.modFeeder_laneB (s : State) (f : Feeder → Feeder) : (s.modFeeder f).laneB = s.laneB := rfl
@[simp] theorem State.modFeeder_waitOrder (s : State) (f : Feeder → Feeder) : (s.modFeeder f).waitOrder = s.waitOrder := rfl
@[simp] theorem State.modFeeder_hli (s : State) (f : Feeder → Feeder) : (s.modFeeder f).hli = s.hli := rfl
@[simp] theorem State.modFeeder_unfinished (s : State) (f : Feeder → Feeder) : (s.modFeeder f).unfinished = s.unfinished := rfl
@[simp] theorem State.modFeeder_pending (s : State) (f : Feeder → Feeder) : (s.modFeeder f).pending = s.pending := rfl
@[simp] theorem State.modFeeder_bfeAt (s : State) (c : BayNo) (f : Feeder → Feeder) :
    (s.modFeeder f).bfeAt c = s.bfeAt c := rfl
@[simp] theorem State.modFeeder_clcAt (s : State) (c : BayNo) (f : Feeder → Feeder) :
    (s.modFeeder f).clcAt c = s.clcAt c := rfl
@[simp] theorem State.modFeeder_dkuAt (s : State) (c : BayNo) (f : Feeder → Feeder) :
    (s.modFeeder f).dkuAt c = s.dkuAt c := rfl
@[simp] theorem State.modFeeder_frdAt (s : State) (c : BayNo) (f : Feeder → Feeder) :
    (s.modFeeder f).frdAt c = s.frdAt c := rfl
@[simp] theorem State.modFeeder_hplAt (s : State) (c : BayNo) (f : Feeder → Feeder) :
    (s.modFeeder f).hplAt c = s.hplAt c := rfl
@[simp] theorem State.modFeeder_rowAt (s : State) (c : BayNo) (f : Feeder → Feeder) :
    (s.modFeeder f).rowAt c = s.rowAt c := rfl
@[simp] theorem State.modFeeder_lcsAt (s : State) (c : BayNo) (f : Feeder → Feeder) :
    (s.modFeeder f).lcsAt c = s.lcsAt c := rfl
@[simp] theorem State.modFeeder_dpmAt (s : State) (c : BayNo) (f : Feeder → Feeder) :
    (s.modFeeder f).dpmAt c = s.dpmAt c := rfl
@[simp] theorem State.modFeeder_clrAt (s : State) (c : BayNo) (f : Feeder → Feeder) :
    (s.modFeeder f).clrAt c = s.clrAt c := rfl
@[simp] theorem State.modFeeder_flagsAt (s : State) (c : BayNo) (f : Feeder → Feeder) :
    (s.modFeeder f).flagsAt c = s.flagsAt c := rfl

/-! ### modLane, setChannel, modHallFlag -/

@[simp] theorem State.modLane_bfe (s : State) (l : Lane) (f : LaneRecord → LaneRecord) : (s.modLane l f).bfe = s.bfe := by
  cases l <;> rfl
@[simp] theorem State.modLane_clc (s : State) (l : Lane) (f : LaneRecord → LaneRecord) : (s.modLane l f).clc = s.clc := by
  cases l <;> rfl
@[simp] theorem State.modLane_dku (s : State) (l : Lane) (f : LaneRecord → LaneRecord) : (s.modLane l f).dku = s.dku := by
  cases l <;> rfl
@[simp] theorem State.modLane_frd (s : State) (l : Lane) (f : LaneRecord → LaneRecord) : (s.modLane l f).frd = s.frd := by
  cases l <;> rfl
@[simp] theorem State.modLane_hpl (s : State) (l : Lane) (f : LaneRecord → LaneRecord) : (s.modLane l f).hpl = s.hpl := by
  cases l <;> rfl
@[simp] theorem State.modLane_row (s : State) (l : Lane) (f : LaneRecord → LaneRecord) : (s.modLane l f).row = s.row := by
  cases l <;> rfl
@[simp] theorem State.modLane_lcs (s : State) (l : Lane) (f : LaneRecord → LaneRecord) : (s.modLane l f).lcs = s.lcs := by
  cases l <;> rfl
@[simp] theorem State.modLane_dpm (s : State) (l : Lane) (f : LaneRecord → LaneRecord) : (s.modLane l f).dpm = s.dpm := by
  cases l <;> rfl
@[simp] theorem State.modLane_clr (s : State) (l : Lane) (f : LaneRecord → LaneRecord) : (s.modLane l f).clr = s.clr := by
  cases l <;> rfl
@[simp] theorem State.modLane_flags (s : State) (l : Lane) (f : LaneRecord → LaneRecord) : (s.modLane l f).flags = s.flags := by
  cases l <;> rfl
@[simp] theorem State.modLane_hallFlags (s : State) (l : Lane) (f : LaneRecord → LaneRecord) : (s.modLane l f).hallFlags = s.hallFlags := by
  cases l <;> rfl
@[simp] theorem State.modLane_clock (s : State) (l : Lane) (f : LaneRecord → LaneRecord) : (s.modLane l f).clock = s.clock := by
  cases l <;> rfl
@[simp] theorem State.modLane_hallInputs (s : State) (l : Lane) (f : LaneRecord → LaneRecord) : (s.modLane l f).hallInputs = s.hallInputs := by
  cases l <;> rfl
@[simp] theorem State.modLane_settings (s : State) (l : Lane) (f : LaneRecord → LaneRecord) : (s.modLane l f).settings = s.settings := by
  cases l <;> rfl
@[simp] theorem State.modLane_map (s : State) (l : Lane) (f : LaneRecord → LaneRecord) : (s.modLane l f).map = s.map := by
  cases l <;> rfl
@[simp] theorem State.modLane_ambient (s : State) (l : Lane) (f : LaneRecord → LaneRecord) : (s.modLane l f).ambient = s.ambient := by
  cases l <;> rfl
@[simp] theorem State.modLane_feeder (s : State) (l : Lane) (f : LaneRecord → LaneRecord) : (s.modLane l f).feeder = s.feeder := by
  cases l <;> rfl
@[simp] theorem State.modLane_channels (s : State) (l : Lane) (f : LaneRecord → LaneRecord) : (s.modLane l f).channels = s.channels := by
  cases l <;> rfl
@[simp] theorem State.modLane_channelQueue (s : State) (l : Lane) (f : LaneRecord → LaneRecord) : (s.modLane l f).channelQueue = s.channelQueue := by
  cases l <;> rfl
@[simp] theorem State.modLane_departures (s : State) (l : Lane) (f : LaneRecord → LaneRecord) : (s.modLane l f).departures = s.departures := by
  cases l <;> rfl
@[simp] theorem State.modLane_hallHold (s : State) (l : Lane) (f : LaneRecord → LaneRecord) : (s.modLane l f).hallHold = s.hallHold := by
  cases l <;> rfl
@[simp] theorem State.modLane_waitOrder (s : State) (l : Lane) (f : LaneRecord → LaneRecord) : (s.modLane l f).waitOrder = s.waitOrder := by
  cases l <;> rfl
@[simp] theorem State.modLane_hli (s : State) (l : Lane) (f : LaneRecord → LaneRecord) : (s.modLane l f).hli = s.hli := by
  cases l <;> rfl
@[simp] theorem State.modLane_unfinished (s : State) (l : Lane) (f : LaneRecord → LaneRecord) : (s.modLane l f).unfinished = s.unfinished := by
  cases l <;> rfl
@[simp] theorem State.modLane_pending (s : State) (l : Lane) (f : LaneRecord → LaneRecord) : (s.modLane l f).pending = s.pending := by
  cases l <;> rfl
@[simp] theorem State.modLane_bfeAt (s : State) (c : BayNo) (l : Lane) (f : LaneRecord → LaneRecord) :
    (s.modLane l f).bfeAt c = s.bfeAt c := by cases l <;> rfl
@[simp] theorem State.modLane_clcAt (s : State) (c : BayNo) (l : Lane) (f : LaneRecord → LaneRecord) :
    (s.modLane l f).clcAt c = s.clcAt c := by cases l <;> rfl
@[simp] theorem State.modLane_dkuAt (s : State) (c : BayNo) (l : Lane) (f : LaneRecord → LaneRecord) :
    (s.modLane l f).dkuAt c = s.dkuAt c := by cases l <;> rfl
@[simp] theorem State.modLane_frdAt (s : State) (c : BayNo) (l : Lane) (f : LaneRecord → LaneRecord) :
    (s.modLane l f).frdAt c = s.frdAt c := by cases l <;> rfl
@[simp] theorem State.modLane_hplAt (s : State) (c : BayNo) (l : Lane) (f : LaneRecord → LaneRecord) :
    (s.modLane l f).hplAt c = s.hplAt c := by cases l <;> rfl
@[simp] theorem State.modLane_rowAt (s : State) (c : BayNo) (l : Lane) (f : LaneRecord → LaneRecord) :
    (s.modLane l f).rowAt c = s.rowAt c := by cases l <;> rfl
@[simp] theorem State.modLane_lcsAt (s : State) (c : BayNo) (l : Lane) (f : LaneRecord → LaneRecord) :
    (s.modLane l f).lcsAt c = s.lcsAt c := by cases l <;> rfl
@[simp] theorem State.modLane_dpmAt (s : State) (c : BayNo) (l : Lane) (f : LaneRecord → LaneRecord) :
    (s.modLane l f).dpmAt c = s.dpmAt c := by cases l <;> rfl
@[simp] theorem State.modLane_clrAt (s : State) (c : BayNo) (l : Lane) (f : LaneRecord → LaneRecord) :
    (s.modLane l f).clrAt c = s.clrAt c := by cases l <;> rfl
@[simp] theorem State.modLane_flagsAt (s : State) (c : BayNo) (l : Lane) (f : LaneRecord → LaneRecord) :
    (s.modLane l f).flagsAt c = s.flagsAt c := by cases l <;> rfl
@[simp] theorem State.modLane_laneAt (s : State) (l : Lane) (f : LaneRecord → LaneRecord) :
    (s.modLane l f).laneAt l = f (s.laneAt l) := by cases l <;> rfl
theorem State.modLane_laneAt_ne (s : State) {l m : Lane} (f : LaneRecord → LaneRecord) (h : m ≠ l) :
    (s.modLane l f).laneAt m = s.laneAt m := by cases l <;> cases m <;> first | rfl | exact absurd rfl h
@[simp] theorem State.setChannel_bfe (s : State) (c : Fin 4) (h : Option BayNo) : (s.setChannel c h).bfe = s.bfe := rfl
@[simp] theorem State.modHallFlag_bfe (s : State) (k : HallFlag) (f : Flag → Flag) : (s.modHallFlag k f).bfe = s.bfe := rfl
@[simp] theorem State.setChannel_clc (s : State) (c : Fin 4) (h : Option BayNo) : (s.setChannel c h).clc = s.clc := rfl
@[simp] theorem State.modHallFlag_clc (s : State) (k : HallFlag) (f : Flag → Flag) : (s.modHallFlag k f).clc = s.clc := rfl
@[simp] theorem State.setChannel_dku (s : State) (c : Fin 4) (h : Option BayNo) : (s.setChannel c h).dku = s.dku := rfl
@[simp] theorem State.modHallFlag_dku (s : State) (k : HallFlag) (f : Flag → Flag) : (s.modHallFlag k f).dku = s.dku := rfl
@[simp] theorem State.setChannel_frd (s : State) (c : Fin 4) (h : Option BayNo) : (s.setChannel c h).frd = s.frd := rfl
@[simp] theorem State.modHallFlag_frd (s : State) (k : HallFlag) (f : Flag → Flag) : (s.modHallFlag k f).frd = s.frd := rfl
@[simp] theorem State.setChannel_hpl (s : State) (c : Fin 4) (h : Option BayNo) : (s.setChannel c h).hpl = s.hpl := rfl
@[simp] theorem State.modHallFlag_hpl (s : State) (k : HallFlag) (f : Flag → Flag) : (s.modHallFlag k f).hpl = s.hpl := rfl
@[simp] theorem State.setChannel_row (s : State) (c : Fin 4) (h : Option BayNo) : (s.setChannel c h).row = s.row := rfl
@[simp] theorem State.modHallFlag_row (s : State) (k : HallFlag) (f : Flag → Flag) : (s.modHallFlag k f).row = s.row := rfl
@[simp] theorem State.setChannel_lcs (s : State) (c : Fin 4) (h : Option BayNo) : (s.setChannel c h).lcs = s.lcs := rfl
@[simp] theorem State.modHallFlag_lcs (s : State) (k : HallFlag) (f : Flag → Flag) : (s.modHallFlag k f).lcs = s.lcs := rfl
@[simp] theorem State.setChannel_dpm (s : State) (c : Fin 4) (h : Option BayNo) : (s.setChannel c h).dpm = s.dpm := rfl
@[simp] theorem State.modHallFlag_dpm (s : State) (k : HallFlag) (f : Flag → Flag) : (s.modHallFlag k f).dpm = s.dpm := rfl
@[simp] theorem State.setChannel_clr (s : State) (c : Fin 4) (h : Option BayNo) : (s.setChannel c h).clr = s.clr := rfl
@[simp] theorem State.modHallFlag_clr (s : State) (k : HallFlag) (f : Flag → Flag) : (s.modHallFlag k f).clr = s.clr := rfl
@[simp] theorem State.setChannel_flags (s : State) (c : Fin 4) (h : Option BayNo) : (s.setChannel c h).flags = s.flags := rfl
@[simp] theorem State.modHallFlag_flags (s : State) (k : HallFlag) (f : Flag → Flag) : (s.modHallFlag k f).flags = s.flags := rfl
@[simp] theorem State.setChannel_hallFlags (s : State) (c : Fin 4) (h : Option BayNo) : (s.setChannel c h).hallFlags = s.hallFlags := rfl
@[simp] theorem State.setChannel_clock (s : State) (c : Fin 4) (h : Option BayNo) : (s.setChannel c h).clock = s.clock := rfl
@[simp] theorem State.modHallFlag_clock (s : State) (k : HallFlag) (f : Flag → Flag) : (s.modHallFlag k f).clock = s.clock := rfl
@[simp] theorem State.setChannel_hallInputs (s : State) (c : Fin 4) (h : Option BayNo) : (s.setChannel c h).hallInputs = s.hallInputs := rfl
@[simp] theorem State.modHallFlag_hallInputs (s : State) (k : HallFlag) (f : Flag → Flag) : (s.modHallFlag k f).hallInputs = s.hallInputs := rfl
@[simp] theorem State.setChannel_settings (s : State) (c : Fin 4) (h : Option BayNo) : (s.setChannel c h).settings = s.settings := rfl
@[simp] theorem State.modHallFlag_settings (s : State) (k : HallFlag) (f : Flag → Flag) : (s.modHallFlag k f).settings = s.settings := rfl
@[simp] theorem State.setChannel_map (s : State) (c : Fin 4) (h : Option BayNo) : (s.setChannel c h).map = s.map := rfl
@[simp] theorem State.modHallFlag_map (s : State) (k : HallFlag) (f : Flag → Flag) : (s.modHallFlag k f).map = s.map := rfl
@[simp] theorem State.setChannel_ambient (s : State) (c : Fin 4) (h : Option BayNo) : (s.setChannel c h).ambient = s.ambient := rfl
@[simp] theorem State.modHallFlag_ambient (s : State) (k : HallFlag) (f : Flag → Flag) : (s.modHallFlag k f).ambient = s.ambient := rfl
@[simp] theorem State.setChannel_feeder (s : State) (c : Fin 4) (h : Option BayNo) : (s.setChannel c h).feeder = s.feeder := rfl
@[simp] theorem State.modHallFlag_feeder (s : State) (k : HallFlag) (f : Flag → Flag) : (s.modHallFlag k f).feeder = s.feeder := rfl
@[simp] theorem State.modHallFlag_channels (s : State) (k : HallFlag) (f : Flag → Flag) : (s.modHallFlag k f).channels = s.channels := rfl
@[simp] theorem State.setChannel_channelQueue (s : State) (c : Fin 4) (h : Option BayNo) : (s.setChannel c h).channelQueue = s.channelQueue := rfl
@[simp] theorem State.modHallFlag_channelQueue (s : State) (k : HallFlag) (f : Flag → Flag) : (s.modHallFlag k f).channelQueue = s.channelQueue := rfl
@[simp] theorem State.setChannel_departures (s : State) (c : Fin 4) (h : Option BayNo) : (s.setChannel c h).departures = s.departures := rfl
@[simp] theorem State.modHallFlag_departures (s : State) (k : HallFlag) (f : Flag → Flag) : (s.modHallFlag k f).departures = s.departures := rfl
@[simp] theorem State.setChannel_hallHold (s : State) (c : Fin 4) (h : Option BayNo) : (s.setChannel c h).hallHold = s.hallHold := rfl
@[simp] theorem State.modHallFlag_hallHold (s : State) (k : HallFlag) (f : Flag → Flag) : (s.modHallFlag k f).hallHold = s.hallHold := rfl
@[simp] theorem State.setChannel_laneA (s : State) (c : Fin 4) (h : Option BayNo) : (s.setChannel c h).laneA = s.laneA := rfl
@[simp] theorem State.modHallFlag_laneA (s : State) (k : HallFlag) (f : Flag → Flag) : (s.modHallFlag k f).laneA = s.laneA := rfl
@[simp] theorem State.setChannel_laneB (s : State) (c : Fin 4) (h : Option BayNo) : (s.setChannel c h).laneB = s.laneB := rfl
@[simp] theorem State.modHallFlag_laneB (s : State) (k : HallFlag) (f : Flag → Flag) : (s.modHallFlag k f).laneB = s.laneB := rfl
@[simp] theorem State.setChannel_waitOrder (s : State) (c : Fin 4) (h : Option BayNo) : (s.setChannel c h).waitOrder = s.waitOrder := rfl
@[simp] theorem State.modHallFlag_waitOrder (s : State) (k : HallFlag) (f : Flag → Flag) : (s.modHallFlag k f).waitOrder = s.waitOrder := rfl
@[simp] theorem State.setChannel_hli (s : State) (c : Fin 4) (h : Option BayNo) : (s.setChannel c h).hli = s.hli := rfl
@[simp] theorem State.modHallFlag_hli (s : State) (k : HallFlag) (f : Flag → Flag) : (s.modHallFlag k f).hli = s.hli := rfl
@[simp] theorem State.setChannel_unfinished (s : State) (c : Fin 4) (h : Option BayNo) : (s.setChannel c h).unfinished = s.unfinished := rfl
@[simp] theorem State.modHallFlag_unfinished (s : State) (k : HallFlag) (f : Flag → Flag) : (s.modHallFlag k f).unfinished = s.unfinished := rfl
@[simp] theorem State.setChannel_pending (s : State) (c : Fin 4) (h : Option BayNo) : (s.setChannel c h).pending = s.pending := rfl
@[simp] theorem State.modHallFlag_pending (s : State) (k : HallFlag) (f : Flag → Flag) : (s.modHallFlag k f).pending = s.pending := rfl
@[simp] theorem State.setChannel_bfeAt (s : State) (x : BayNo) (c : Fin 4) (h : Option BayNo) :
    (s.setChannel c h).bfeAt x = s.bfeAt x := rfl
@[simp] theorem State.modHallFlag_bfeAt (s : State) (x : BayNo) (k : HallFlag) (f : Flag → Flag) :
    (s.modHallFlag k f).bfeAt x = s.bfeAt x := rfl
@[simp] theorem State.setChannel_clcAt (s : State) (x : BayNo) (c : Fin 4) (h : Option BayNo) :
    (s.setChannel c h).clcAt x = s.clcAt x := rfl
@[simp] theorem State.modHallFlag_clcAt (s : State) (x : BayNo) (k : HallFlag) (f : Flag → Flag) :
    (s.modHallFlag k f).clcAt x = s.clcAt x := rfl
@[simp] theorem State.setChannel_dkuAt (s : State) (x : BayNo) (c : Fin 4) (h : Option BayNo) :
    (s.setChannel c h).dkuAt x = s.dkuAt x := rfl
@[simp] theorem State.modHallFlag_dkuAt (s : State) (x : BayNo) (k : HallFlag) (f : Flag → Flag) :
    (s.modHallFlag k f).dkuAt x = s.dkuAt x := rfl
@[simp] theorem State.setChannel_frdAt (s : State) (x : BayNo) (c : Fin 4) (h : Option BayNo) :
    (s.setChannel c h).frdAt x = s.frdAt x := rfl
@[simp] theorem State.modHallFlag_frdAt (s : State) (x : BayNo) (k : HallFlag) (f : Flag → Flag) :
    (s.modHallFlag k f).frdAt x = s.frdAt x := rfl
@[simp] theorem State.setChannel_hplAt (s : State) (x : BayNo) (c : Fin 4) (h : Option BayNo) :
    (s.setChannel c h).hplAt x = s.hplAt x := rfl
@[simp] theorem State.modHallFlag_hplAt (s : State) (x : BayNo) (k : HallFlag) (f : Flag → Flag) :
    (s.modHallFlag k f).hplAt x = s.hplAt x := rfl
@[simp] theorem State.setChannel_rowAt (s : State) (x : BayNo) (c : Fin 4) (h : Option BayNo) :
    (s.setChannel c h).rowAt x = s.rowAt x := rfl
@[simp] theorem State.modHallFlag_rowAt (s : State) (x : BayNo) (k : HallFlag) (f : Flag → Flag) :
    (s.modHallFlag k f).rowAt x = s.rowAt x := rfl
@[simp] theorem State.setChannel_lcsAt (s : State) (x : BayNo) (c : Fin 4) (h : Option BayNo) :
    (s.setChannel c h).lcsAt x = s.lcsAt x := rfl
@[simp] theorem State.modHallFlag_lcsAt (s : State) (x : BayNo) (k : HallFlag) (f : Flag → Flag) :
    (s.modHallFlag k f).lcsAt x = s.lcsAt x := rfl
@[simp] theorem State.setChannel_dpmAt (s : State) (x : BayNo) (c : Fin 4) (h : Option BayNo) :
    (s.setChannel c h).dpmAt x = s.dpmAt x := rfl
@[simp] theorem State.modHallFlag_dpmAt (s : State) (x : BayNo) (k : HallFlag) (f : Flag → Flag) :
    (s.modHallFlag k f).dpmAt x = s.dpmAt x := rfl
@[simp] theorem State.setChannel_clrAt (s : State) (x : BayNo) (c : Fin 4) (h : Option BayNo) :
    (s.setChannel c h).clrAt x = s.clrAt x := rfl
@[simp] theorem State.modHallFlag_clrAt (s : State) (x : BayNo) (k : HallFlag) (f : Flag → Flag) :
    (s.modHallFlag k f).clrAt x = s.clrAt x := rfl
@[simp] theorem State.setChannel_flagsAt (s : State) (x : BayNo) (c : Fin 4) (h : Option BayNo) :
    (s.setChannel c h).flagsAt x = s.flagsAt x := rfl
@[simp] theorem State.modHallFlag_flagsAt (s : State) (x : BayNo) (k : HallFlag) (f : Flag → Flag) :
    (s.modHallFlag k f).flagsAt x = s.flagsAt x := rfl

end Sys2Proof.Machine
end

