-- ==== Sys2Proof/Laws/Inner.lean ====
section
/-! SUPPORT. What the inner blocks leave alone. The functions of the CLC, FRD, HPL, FAL, LCS, DKU and DPM write their own
records only: `State.fixed` is everything they never write, and there is one lemma per function. -/

namespace Sys2Proof.Machine

/-- What no function of the inner blocks writes. -/
structure Fixed where
  bfe : Vector Bfe 16
  clr : Vector Clr 16
  operator : BayNo → HoldStack
  clock : Clock
  hallInputs : HallInputs
  settings : Vector Nat 17
  map : List MapEntry
  ambient : Int
  shedHost : Nat
  shedLine : Nat
  hallHold : HoldStack
  hli : HostLink
  pending : List Instr
  unfinished : List Notice
  flags : Vector (Vector Flag 13) 16
  hallFlags : Vector Flag 7
  departures : List Departure
  laneA : LaneRecord
  laneB : LaneRecord
  waitOrder : List BayNo

/-- What no function of the inner blocks writes, read from a state. -/
def State.fixed (s : State) : Fixed :=
  { bfe := s.bfe, clr := s.clr, operator := fun b => (s.dpmAt b).operator, clock := s.clock, hallInputs := s.hallInputs
    settings := s.settings, map := s.map, ambient := s.ambient, shedHost := s.feeder.shedHost
    shedLine := s.feeder.shedLine, hallHold := s.hallHold, hli := s.hli, pending := s.pending, unfinished := s.unfinished
    flags := s.flags, hallFlags := s.hallFlags, departures := s.departures, laneA := s.laneA, laneB := s.laneB
    waitOrder := s.waitOrder }

@[simp] theorem done_fst (s : State) : (done s).1 = s := rfl
@[simp] theorem done_snd (s : State) : (done s).2 = [] := rfl
@[simp] theorem Reaction.then_fst (r : Reaction) (f : State → Reaction) : (r.then f).1 = (f r.1).1 := rfl
@[simp] theorem Reaction.also_fst (r : Reaction) (ns : List Notice) : (r.also ns).1 = r.1 := rfl
@[simp] theorem Reaction.also_snd (r : Reaction) (ns : List Notice) : (r.also ns).2 = r.2 ++ ns := rfl

@[simp] theorem State.modClc_fixed (s : State) (b : BayNo) (f : Clc → Clc) : (s.modClc b f).fixed = s.fixed := rfl
@[simp] theorem State.modDku_fixed (s : State) (b : BayNo) (f : Dku → Dku) : (s.modDku b f).fixed = s.fixed := rfl
@[simp] theorem State.modFrd_fixed (s : State) (b : BayNo) (f : Frd → Frd) : (s.modFrd b f).fixed = s.fixed := rfl
@[simp] theorem State.modHpl_fixed (s : State) (b : BayNo) (f : Hpl → Hpl) : (s.modHpl b f).fixed = s.fixed := rfl
@[simp] theorem State.modRow_fixed (s : State) (b : BayNo) (f : GrantRow → GrantRow) : (s.modRow b f).fixed = s.fixed := rfl
@[simp] theorem State.modLcs_fixed (s : State) (b : BayNo) (f : Lcs → Lcs) : (s.modLcs b f).fixed = s.fixed := rfl
@[simp] theorem State.setChannel_fixed (s : State) (c : Fin 4) (h : Option BayNo) : (s.setChannel c h).fixed = s.fixed := rfl
@[simp] theorem State.channelQueue_fixed (s : State) (q : List BayNo) :
    ({ s with channelQueue := q } : State).fixed = s.fixed := rfl

@[simp] theorem State.modDpm_fixed (s : State) (b : BayNo) (f : Dpm → Dpm) (h : ∀ d, (f d).operator = d.operator) :
    (s.modDpm b f).fixed = s.fixed := by
  have e : (fun c => ((s.modDpm b f).dpmAt c).operator) = fun c => (s.dpmAt c).operator := by
    funext c
    by_cases hc : c = b
    · subst hc; simp [h]
    · simp [hc]
  show ({ s.fixed with operator := fun c => ((s.modDpm b f).dpmAt c).operator } : Fixed) = s.fixed
  rw [e]; rfl

@[simp] theorem State.modFeeder_fixed (s : State) (f : Feeder → Feeder) (h : (f s.feeder).shedHost = s.feeder.shedHost)
    (h' : (f s.feeder).shedLine = s.feeder.shedLine) : (s.modFeeder f).fixed = s.fixed := by
  show ({ s.fixed with shedHost := (f s.feeder).shedHost, shedLine := (f s.feeder).shedLine } : Fixed) = s.fixed
  rw [h, h']; rfl

/-! ### Link -/

@[simp] theorem transactionGood_fixed (b : BayNo) (f : InFlight) (cls : TxClass) (result : TxResult) (s : State) :
    (transactionGood b f cls result s).1.fixed = s.fixed := by
  unfold transactionGood
  try dsimp only
  repeat' (first | (simp; done) | split | rfl)

@[simp] theorem enterLost_fixed (b : BayNo) (f : InFlight) (cls : TxClass) (s : State) :
    (enterLost b f cls s).1.fixed = s.fixed := by
  unfold enterLost
  try dsimp only
  repeat' (first | (simp; done) | split | rfl)

@[simp] theorem transactionFailed_fixed (b : BayNo) (f : InFlight) (cls : TxClass) (s : State) :
    (transactionFailed b f cls s).1.fixed = s.fixed := by
  unfold transactionFailed
  try dsimp only
  repeat' (first | (simp; done) | split | rfl)

@[simp] theorem linkRecovers_fixed (b : BayNo) (f : InFlight) (s : State) :
    (linkRecovers b f s).1.fixed = s.fixed := by
  unfold linkRecovers
  try dsimp only
  repeat' (first | (simp; done) | split | rfl)

@[simp] theorem attemptSucceeds_fixed (b : BayNo) (f : InFlight) (result : TxResult) (s : State) :
    (attemptSucceeds b f result s).1.fixed = s.fixed := by
  unfold attemptSucceeds
  try dsimp only
  repeat' (first | (simp; done) | split | rfl)

@[simp] theorem attemptFails_fixed (b : BayNo) (f : InFlight) (s : State) :
    (attemptFails b f s).1.fixed = s.fixed := by
  unfold attemptFails
  try dsimp only
  repeat' (first | (simp; done) | split | rfl)

@[simp] theorem clcNext_fixed (b : BayNo) (s : State) :
    (clcNext b s).1.fixed = s.fixed := by
  unfold clcNext
  try dsimp only
  repeat' (first | (simp; done) | split | rfl)

@[simp] theorem clcUp_fixed (b : BayNo) (s : State) :
    (clcUp b s).1.fixed = s.fixed := by
  unfold clcUp
  try dsimp only
  repeat' (first | (simp; done) | split | rfl)

@[simp] theorem clcDown_fixed (b : BayNo) (s : State) :
    (clcDown b s).1.fixed = s.fixed := by
  unfold clcDown
  try dsimp only
  repeat' (first | (simp; done) | split | rfl)

@[simp] theorem clcDiscard_fixed (b : BayNo) (s : State) :
    (clcDiscard b s).1.fixed = s.fixed := by
  unfold clcDiscard
  try dsimp only
  repeat' (first | (simp; done) | split | rfl)

@[simp] theorem clcStopPoll_fixed (b : BayNo) (s : State) :
    (clcStopPoll b s).1.fixed = s.fixed := by
  unfold clcStopPoll
  try dsimp only
  repeat' (first | (simp; done) | split | rfl)

@[simp] theorem clcHeard_fixed (b : BayNo) (s : State) : (clcHeard b s).fixed = s.fixed := rfl

@[simp] theorem clcSend_fixed (b : BayNo) (s : State) :
    (clcSend b s).1.fixed = s.fixed := by
  unfold clcSend
  try dsimp only
  repeat' (first | (simp; done) | split | rfl)

@[simp] theorem clcSent_fixed (b : BayNo) (s : State) :
    (clcSent b s).1.fixed = s.fixed := by
  unfold clcSent
  try dsimp only
  repeat' (first | (simp; done) | split | rfl)

@[simp] theorem clcReplyStart_fixed (b : BayNo) (start : Byte) (s : State) :
    (clcReplyStart b start s).1.fixed = s.fixed := by
  unfold clcReplyStart
  try dsimp only
  repeat' (first | (simp; done) | split | rfl)

@[simp] theorem clcReply_fixed (b : BayNo) (start kind : Byte) (payload : List Byte) (check : Byte) (s : State) :
    (clcReply b start kind payload check s).1.fixed = s.fixed := by
  unfold clcReply
  try dsimp only
  repeat' (first | (simp; done) | split | rfl)

@[simp] theorem clcFailure_fixed (b : BayNo) (p : AttemptPhase → Bool) (s : State) :
    (clcFailure b p s).1.fixed = s.fixed := by
  unfold clcFailure
  try dsimp only
  repeat' (first | (simp; done) | split | rfl)

@[simp] theorem clcReprobe_fixed (b : BayNo) (s : State) :
    (clcReprobe b s).1.fixed = s.fixed := by
  unfold clcReprobe
  try dsimp only
  repeat' (first | (simp; done) | split | rfl)

@[simp] theorem clcPoll_fixed (b : BayNo) (s : State) :
    (clcPoll b s).1.fixed = s.fixed := by
  unfold clcPoll
  try dsimp only
  repeat' (first | (simp; done) | split | rfl)

/-! ### Faults -/

@[simp] theorem frdSubmit_fixed (b : BayNo) (r : BayRequest) (s : State) :
    (frdSubmit b r s).fixed = s.fixed := by
  unfold frdSubmit
  try dsimp only
  repeat' (first | (simp; done) | split | rfl)

@[simp] theorem frdBegin_fixed (b : BayNo) (kinds : KindSet) (s : State) :
    (frdBegin b kinds s).1.fixed = s.fixed := by
  unfold frdBegin
  try dsimp only
  repeat' (first | (simp; done) | split | rfl)

@[simp] theorem frdCommit_fixed (b : BayNo) (shadow : List FaultEntry) (m : TableMarks) (kinds : KindSet) (s : State) :
    (frdCommit b shadow m kinds s).1.fixed = s.fixed := by
  unfold frdCommit
  try dsimp only
  repeat' (first | (simp; done) | split | rfl)

@[simp] theorem frdRequest_fixed (b : BayNo) (kind : ScanKind) (s : State) :
    (frdRequest b kind s).1.fixed = s.fixed := by
  unfold frdRequest
  try dsimp only
  repeat' (first | (simp; done) | split | rfl)

@[simp] theorem frdTakeRescan_fixed (b : BayNo) (s : State) :
    (frdTakeRescan b s).1.fixed = s.fixed := by
  unfold frdTakeRescan
  try dsimp only
  repeat' (first | (simp; done) | split | rfl)

@[simp] theorem frdFail_fixed (b : BayNo) (s : State) :
    (frdFail b s).1.fixed = s.fixed := by
  unfold frdFail
  try dsimp only
  repeat' (first | (simp; done) | split | rfl)

@[simp] theorem frdRepeat_fixed (b : BayNo) (r : BayRequest) (s : State) :
    (frdRepeat b r s).1.fixed = s.fixed := by
  unfold frdRepeat
  try dsimp only
  repeat' (first | (simp; done) | split | rfl)

@[simp] theorem frdNextRecord_fixed (b : BayNo) (sc : Scan) (i : Nat) (s : State) :
    (frdNextRecord b sc i s).1.fixed = s.fixed := by
  unfold frdNextRecord
  try dsimp only
  repeat' (first | (simp; done) | split | rfl)

@[simp] theorem frdCounted_fixed (b : BayNo) (n : Nat) (s : State) :
    (frdCounted b n s).1.fixed = s.fixed := by
  unfold frdCounted
  try dsimp only
  repeat' (first | (simp; done) | split | rfl)

@[simp] theorem frdReadFailed_fixed (b : BayNo) (r : BayRequest) (s : State) :
    (frdReadFailed b r s).1.fixed = s.fixed := by
  unfold frdReadFailed
  try dsimp only
  repeat' (first | (simp; done) | split | rfl)

@[simp] theorem frdResult_fixed (b : BayNo) (r : BayRequest) (result : TxResult) (s : State) :
    (frdResult b r result s).1.fixed = s.fixed := by
  unfold frdResult
  try dsimp only
  repeat' (first | (simp; done) | split | rfl)

@[simp] theorem frdLost_fixed (b : BayNo) (s : State) :
    (frdLost b s).1.fixed = s.fixed := by
  unfold frdLost
  try dsimp only
  repeat' (first | (simp; done) | split | rfl)

@[simp] theorem frdRecovered_fixed (b : BayNo) (s : State) :
    (frdRecovered b s).1.fixed = s.fixed := by
  unfold frdRecovered
  try dsimp only
  repeat' (first | (simp; done) | split | rfl)

@[simp] theorem frdChange_fixed (b : BayNo) (s : State) :
    (frdChange b s).1.fixed = s.fixed := by
  unfold frdChange
  try dsimp only
  repeat' (first | (simp; done) | split | rfl)

@[simp] theorem frdSplit_fixed (b : BayNo) (s : State) :
    (frdSplit b s).1.fixed = s.fixed := by
  unfold frdSplit
  try dsimp only
  repeat' (first | (simp; done) | split | rfl)

@[simp] theorem frdActiveChanged_fixed (b : BayNo) (s : State) :
    (frdActiveChanged b s).1.fixed = s.fixed := by
  unfold frdActiveChanged
  try dsimp only
  repeat' (first | (simp; done) | split | rfl)

@[simp] theorem frdHeatStop_fixed (b : BayNo) (s : State) :
    (frdHeatStop b s).1.fixed = s.fixed := by
  unfold frdHeatStop
  try dsimp only
  repeat' (first | (simp; done) | split | rfl)

@[simp] theorem frdReclassify_fixed (b : BayNo) (s : State) :
    (frdReclassify b s).1.fixed = s.fixed := by
  unfold frdReclassify
  try dsimp only
  repeat' (first | (simp; done) | split | rfl)

@[simp] theorem frdReshadow_fixed (b : BayNo) (s : State) :
    (frdReshadow b s).1.fixed = s.fixed := by
  unfold frdReshadow
  try dsimp only
  repeat' (first | (simp; done) | split | rfl)

@[simp] theorem frdClear_fixed (b : BayNo) (s : State) :
    (frdClear b s).1.fixed = s.fixed := by
  unfold frdClear
  try dsimp only
  repeat' (first | (simp; done) | split | rfl)

@[simp] theorem frdRetain_fixed (b : BayNo) (s : State) :
    (frdRetain b s).1.fixed = s.fixed := by
  unfold frdRetain
  try dsimp only
  repeat' (first | (simp; done) | split | rfl)

/-! ### Heat -/

@[simp] theorem carryCourse_fixed (b : BayNo) (hands : Bool) (c : Course) (s : State) :
    (carryCourse b hands c s).1.fixed = s.fixed := by
  unfold carryCourse
  try dsimp only
  repeat' (first | (simp; done) | split | rfl)

@[simp] theorem takeCourse_fixed (b : BayNo) (c : Course) (s : State) :
    (takeCourse b c s).1.fixed = s.fixed := carryCourse_fixed b _ c s

@[simp] theorem formCourse_fixed (b : BayNo) (c : Course) (s : State) :
    (formCourse b c s).1.fixed = s.fixed := carryCourse_fixed b true c s

@[simp] theorem hplForm_fixed (b : BayNo) (atDocked : Bool) (s : State) :
    (hplForm b atDocked s).1.fixed = s.fixed := by
  unfold hplForm
  try dsimp only
  repeat' (first | (simp; done) | split | rfl)

@[simp] theorem hplNone_fixed (b : BayNo) (s : State) :
    (hplNone b s).1.fixed = s.fixed := by
  unfold hplNone
  try dsimp only
  repeat' (first | (simp; done) | split | rfl)

@[simp] theorem hplAmended_fixed (b : BayNo) (s : State) :
    (hplAmended b s).1.fixed = s.fixed := by
  unfold hplAmended
  try dsimp only
  repeat' (first | (simp; done) | split | rfl)

@[simp] theorem hplRecompute_fixed (b : BayNo) (s : State) :
    (hplRecompute b s).1.fixed = s.fixed := by
  unfold hplRecompute
  try dsimp only
  repeat' (first | (simp; done) | split | rfl)

@[simp] theorem hplStart_fixed (b : BayNo) (s : State) :
    (hplStart b s).1.fixed = s.fixed := by
  unfold hplStart
  try dsimp only
  repeat' (first | (simp; done) | split | rfl)

@[simp] theorem hplPoint_fixed (b : BayNo) (s : State) :
    (hplPoint b s).1.fixed = s.fixed := by
  unfold hplPoint
  try dsimp only
  repeat' (first | (simp; done) | split | rfl)

@[simp] theorem hplSample_fixed (b : BayNo) (t : Int) (s : State) :
    (hplSample b t s).1.fixed = s.fixed := by
  unfold hplSample
  try dsimp only
  repeat' (first | (simp; done) | split | rfl)

@[simp] theorem hplCoachStop_fixed (b : BayNo) (s : State) :
    (hplCoachStop b s).1.fixed = s.fixed := by
  unfold hplCoachStop
  try dsimp only
  repeat' (first | (simp; done) | split | rfl)

@[simp] theorem hplEnd_fixed (b : BayNo) (code : EndCode) (s : State) :
    (hplEnd b code s).1.fixed = s.fixed := by
  unfold hplEnd
  try dsimp only
  repeat' (first | (simp; done) | split | rfl)

@[simp] theorem hplCauseAdded_fixed (b : BayNo) (s : State) :
    (hplCauseAdded b s).1.fixed = s.fixed := by
  unfold hplCauseAdded
  try dsimp only
  repeat' (first | (simp; done) | split | rfl)

@[simp] theorem hplCauseDropped_fixed (b : BayNo) (s : State) :
    (hplCauseDropped b s).1.fixed = s.fixed := by
  unfold hplCauseDropped
  try dsimp only
  repeat' (first | (simp; done) | split | rfl)

@[simp] theorem hplAddLink_fixed (b : BayNo) (s : State) :
    (hplAddLink b s).1.fixed = s.fixed := by
  unfold hplAddLink
  try dsimp only
  repeat' (first | (simp; done) | split | rfl)

@[simp] theorem hplDropLink_fixed (b : BayNo) (s : State) :
    (hplDropLink b s).1.fixed = s.fixed := by
  unfold hplDropLink
  try dsimp only
  repeat' (first | (simp; done) | split | rfl)

@[simp] theorem hplAddClearing_fixed (b : BayNo) (s : State) :
    (hplAddClearing b s).1.fixed = s.fixed := by
  unfold hplAddClearing
  try dsimp only
  repeat' (first | (simp; done) | split | rfl)

@[simp] theorem hplDropClearing_fixed (b : BayNo) (s : State) :
    (hplDropClearing b s).1.fixed = s.fixed := by
  unfold hplDropClearing
  try dsimp only
  repeat' (first | (simp; done) | split | rfl)

@[simp] theorem hplDocked_fixed (b : BayNo) (s : State) :
    (hplDocked b s).1.fixed = s.fixed := by
  unfold hplDocked
  try dsimp only
  repeat' (first | (simp; done) | split | rfl)

@[simp] theorem hplSessionStart_fixed (b : BayNo) (s : State) :
    (hplSessionStart b s).1.fixed = s.fixed := by
  unfold hplSessionStart
  try dsimp only
  repeat' (first | (simp; done) | split | rfl)

@[simp] theorem hplUndock_fixed (b : BayNo) (s : State) :
    (hplUndock b s).1.fixed = s.fixed := by
  unfold hplUndock
  try dsimp only
  repeat' (first | (simp; done) | split | rfl)

@[simp] theorem hplPlugOut_fixed (b : BayNo) (s : State) :
    (hplPlugOut b s).1.fixed = s.fixed := by
  unfold hplPlugOut
  try dsimp only
  repeat' (first | (simp; done) | split | rfl)

@[simp] theorem hplForget_fixed (b : BayNo) (s : State) :
    (hplForget b s).1.fixed = s.fixed := by
  unfold hplForget
  try dsimp only
  repeat' (first | (simp; done) | split | rfl)

@[simp] theorem hplStale_fixed (b : BayNo) (s : State) :
    (hplStale b s).1.fixed = s.fixed := by
  unfold hplStale
  try dsimp only
  repeat' (first | (simp; done) | split | rfl)

/-! ### Budget -/

@[simp] theorem submitStage_fixed (b : BayNo) (n : Nat) (s : State) :
    (submitStage b n s).fixed = s.fixed := by
  unfold submitStage
  try dsimp only
  repeat' (first | (simp; done) | split | rfl)

@[simp] theorem startRamp_fixed (s : State) :
    (startRamp s).fixed = s.fixed := by
  unfold startRamp
  try dsimp only
  repeat' (first | (simp; done) | split | rfl)

@[simp] theorem lcsStageEnded_fixed (b : BayNo) (s : State) :
    (lcsStageEnded b s).fixed = s.fixed := by
  unfold lcsStageEnded
  try dsimp only
  repeat' (first | (simp; done) | split | rfl)

@[simp] theorem endStageUp_fixed (b : BayNo) (s : State) :
    (endStageUp b s).fixed = s.fixed := by
  unfold endStageUp
  try dsimp only
  repeat' (first | (simp; done) | split | rfl)

@[simp] theorem cancelStageUp_fixed (b : BayNo) (s : State) :
    (cancelStageUp b s).fixed = s.fixed := by
  unfold cancelStageUp
  try dsimp only
  repeat' (first | (simp; done) | split | rfl)

@[simp] theorem submitStages_fixed (bs : List BayNo) (s : State) : (submitStages bs s).fixed = s.fixed := by
  unfold submitStages
  induction bs generalizing s with
  | nil => rfl
  | cons b bs ih => rw [List.foldl_cons, ih]; rfl

@[simp] theorem stripRows_fixed (bs : List BayNo) (n : Nat) (s : State) : (stripRows bs n s).fixed = s.fixed := by
  induction bs generalizing n s with
  | nil => rfl
  | cons b bs ih =>
    simp only [stripRows, ih]
    split <;> simp

@[simp] theorem forcedRemoval_fixed (s : State) :
    (forcedRemoval s).fixed = s.fixed := by
  unfold forcedRemoval
  try dsimp only
  repeat' (first | (simp; done) | split | rfl)

@[simp] theorem commitStageUp_fixed (b : BayNo) (s : State) :
    (commitStageUp b s).fixed = s.fixed := by
  unfold commitStageUp
  try dsimp only
  repeat' (first | (simp; done) | split | rfl)

@[simp] theorem preempt_fixed (b : BayNo) (s : State) :
    (preempt b s).fixed = s.fixed := by
  unfold preempt
  try dsimp only
  repeat' (first | (simp; done) | split | rfl)

@[simp] theorem selection_fixed (s : State) :
    (selection s).fixed = s.fixed := by
  unfold selection
  try dsimp only
  repeat' (first | (simp; done) | split | rfl)

@[simp] theorem falSelect_fixed (s : State) :
    (falSelect s).1.fixed = s.fixed := by
  unfold falSelect
  try dsimp only
  repeat' (first | (simp; done) | split | rfl)

@[simp] theorem cutGrant_fixed (b : BayNo) (s : State) :
    (cutGrant b s).1.fixed = s.fixed := by
  unfold cutGrant
  try dsimp only
  repeat' (first | (simp; done) | split | rfl)

@[simp] theorem setRequested_fixed (b : BayNo) (s : State) :
    (setRequested b s).1.fixed = s.fixed := by
  unfold setRequested
  try dsimp only
  repeat' (first | (simp; done) | split | rfl)

@[simp] theorem falTake_fixed (b : BayNo) (s : State) :
    (falTake b s).1.fixed = s.fixed := by
  unfold falTake
  try dsimp only
  repeat' (first | (simp; done) | split | rfl)

@[simp] theorem falContactor_fixed (b : BayNo) (s : State) :
    (falContactor b s).1.fixed = s.fixed := by
  unfold falContactor
  try dsimp only
  repeat' (first | (simp; done) | split | rfl)

@[simp] theorem falLost_fixed (b : BayNo) (s : State) :
    (falLost b s).1.fixed = s.fixed := by
  unfold falLost
  try dsimp only
  repeat' (first | (simp; done) | split | rfl)

@[simp] theorem falRecovered_fixed (b : BayNo) (s : State) :
    (falRecovered b s).1.fixed = s.fixed := by
  unfold falRecovered
  try dsimp only
  repeat' (first | (simp; done) | split | rfl)

@[simp] theorem falDocked_fixed (b : BayNo) (s : State) :
    (falDocked b s).1.fixed = s.fixed := by
  unfold falDocked
  try dsimp only
  repeat' (first | (simp; done) | split | rfl)

@[simp] theorem falEmpty_fixed (b : BayNo) (s : State) :
    (falEmpty b s).1.fixed = s.fixed := by
  unfold falEmpty
  try dsimp only
  repeat' (first | (simp; done) | split | rfl)

@[simp] theorem falUndock_fixed (b : BayNo) (s : State) :
    (falUndock b s).1.fixed = s.fixed := by
  unfold falUndock
  try dsimp only
  repeat' (first | (simp; done) | split | rfl)

@[simp] theorem falRecompute_fixed (s : State) :
    (falRecompute s).1.fixed = s.fixed := by
  unfold falRecompute
  try dsimp only
  repeat' (first | (simp; done) | split | rfl)

@[simp] theorem stageUpFails_fixed (b : BayNo) (why : CommandResult) (s : State) :
    (stageUpFails b why s).1.fixed = s.fixed := by
  unfold stageUpFails
  try dsimp only
  repeat' (first | (simp; done) | split | rfl)

@[simp] theorem stageUpLost_fixed (b : BayNo) (s : State) :
    (stageUpLost b s).1.fixed = s.fixed := by
  unfold stageUpLost
  try dsimp only
  repeat' (first | (simp; done) | split | rfl)

@[simp] theorem stageUpResult_fixed (b : BayNo) (u : StageUp) (result : TxResult) (s : State) :
    (stageUpResult b u result s).1.fixed = s.fixed := by
  unfold stageUpResult
  try dsimp only
  repeat' (first | (simp; done) | split | rfl)

@[simp] theorem commandResult_fixed (b : BayNo) (result : TxResult) (s : State) :
    (commandResult b result s).1.fixed = s.fixed := by
  unfold commandResult
  try dsimp only
  repeat' (first | (simp; done) | split | rfl)

@[simp] theorem falResult_fixed (b : BayNo) (count : Nat) (result : TxResult) (s : State) :
    (falResult b count result s).1.fixed = s.fixed := by
  unfold falResult
  try dsimp only
  repeat' (first | (simp; done) | split | rfl)

@[simp] theorem falMeter_fixed (b : BayNo) (s : State) :
    (falMeter b s).fixed = s.fixed := by
  unfold falMeter
  try dsimp only
  repeat' (first | (simp; done) | split | rfl)

@[simp] theorem falConfirmExpired_fixed (s : State) :
    (falConfirmExpired s).1.fixed = s.fixed := by
  unfold falConfirmExpired
  try dsimp only
  repeat' (first | (simp; done) | split | rfl)

@[simp] theorem falRampExpired_fixed (s : State) :
    (falRampExpired s).1.fixed = s.fixed := by
  unfold falRampExpired
  try dsimp only
  repeat' (first | (simp; done) | split | rfl)

/-! ### Lamps -/

@[simp] theorem takeChannel_fixed (b : BayNo) (c : Fin 4) (s : State) :
    (takeChannel b c s).fixed = s.fixed := by
  unfold takeChannel
  try dsimp only
  repeat' (first | (simp; done) | split | rfl)

@[simp] theorem askChannel_fixed (b : BayNo) (s : State) :
    (askChannel b s).fixed = s.fixed := by
  unfold askChannel
  try dsimp only
  repeat' (first | (simp; done) | split | rfl)

@[simp] theorem freeChannelOf_fixed (b : BayNo) (s : State) :
    (freeChannelOf b s).fixed = s.fixed := by
  unfold freeChannelOf
  try dsimp only
  repeat' (first | (simp; done) | split | rfl)

@[simp] theorem releaseStep_fixed (b : BayNo) (s : State) :
    (releaseStep b s).1.fixed = s.fixed := by
  unfold releaseStep
  try dsimp only
  repeat' (first | (simp; done) | split | rfl)

@[simp] theorem submitLampOf_fixed (b : BayNo) (circuit : Nat) (on : Bool) (s : State) :
    (submitLampOf b circuit on s).1.fixed = s.fixed := by
  unfold submitLampOf
  try dsimp only
  repeat' (first | (simp; done) | split | rfl)

@[simp] theorem submitOwed_fixed (b : BayNo) (circuit : Nat) (s : State) :
    (submitOwed b circuit s).fixed = s.fixed := by
  unfold submitOwed
  try dsimp only
  repeat' (first | (simp; done) | split | rfl)

@[simp] theorem goOff_fixed (b : BayNo) (s : State) :
    (goOff b s).1.fixed = s.fixed := by
  unfold goOff
  try dsimp only
  repeat' (first | (simp; done) | split | rfl)

@[simp] theorem abandonStep_fixed (b : BayNo) (s : State) :
    (abandonStep b s).1.fixed = s.fixed := by
  unfold abandonStep
  try dsimp only
  repeat' (first | (simp; done) | split | rfl)

@[simp] theorem lcsSwitchOff_fixed (b : BayNo) (s : State) :
    (lcsSwitchOff b s).1.fixed = s.fixed := by
  unfold lcsSwitchOff
  try dsimp only
  repeat' (first | (simp; done) | split | rfl)

@[simp] theorem pauseRun_fixed (b : BayNo) (add : PauseReasons → PauseReasons) (s : State) :
    (pauseRun b add s).1.fixed = s.fixed := by
  unfold pauseRun
  try dsimp only
  repeat' (first | (simp; done) | split | rfl)

@[simp] theorem addReason_fixed (b : BayNo) (add : PauseReasons → PauseReasons) (s : State) :
    (addReason b add s).1.fixed = s.fixed := by
  unfold addReason
  try dsimp only
  repeat' (first | (simp; done) | split | rfl)

@[simp] theorem dropReason_fixed (b : BayNo) (drop : PauseReasons → PauseReasons) (s : State) :
    (dropReason b drop s).1.fixed = s.fixed := by
  unfold dropReason
  try dsimp only
  repeat' (first | (simp; done) | split | rfl)

@[simp] theorem lcsStart_fixed (b : BayNo) (mode : LampMode) (passes : Nat) (s : State) :
    (lcsStart b mode passes s).1.fixed = s.fixed := by
  unfold lcsStart
  try dsimp only
  repeat' (first | (simp; done) | split | rfl)

@[simp] theorem lcsAutomatic_fixed (b : BayNo) (s : State) :
    (lcsAutomatic b s).1.fixed = s.fixed := by
  unfold lcsAutomatic
  split <;> simp

@[simp] theorem lcsNext_fixed (b : BayNo) (s : State) :
    (lcsNext b s).1.fixed = s.fixed := by
  unfold lcsNext
  try dsimp only
  repeat' (first | (simp; done) | split | rfl)

@[simp] theorem lcsStepEnd_fixed (b : BayNo) (s : State) :
    (lcsStepEnd b s).1.fixed = s.fixed := by
  unfold lcsStepEnd
  try dsimp only
  repeat' (first | (simp; done) | split | rfl)

@[simp] theorem handOutcomes_fixed (b : BayNo) (s : State) :
    (handOutcomes b s).1.fixed = s.fixed := by
  unfold handOutcomes
  try dsimp only
  repeat' (first | (simp; done) | split | rfl)

@[simp] theorem lcsRunEnd_fixed (b : BayNo) (s : State) :
    (lcsRunEnd b s).1.fixed = s.fixed := by
  unfold lcsRunEnd
  try dsimp only
  repeat' (first | (simp; done) | split | rfl)

@[simp] theorem lcsAbort_fixed (b : BayNo) (s : State) :
    (lcsAbort b s).1.fixed = s.fixed := by
  unfold lcsAbort
  try dsimp only
  repeat' (first | (simp; done) | split | rfl)

@[simp] theorem lampOnResult_fixed (b : BayNo) (result : TxResult) (s : State) :
    (lampOnResult b result s).1.fixed = s.fixed := by
  unfold lampOnResult
  try dsimp only
  repeat' (first | (simp; done) | split | rfl)

@[simp] theorem lampOffResult_fixed (b : BayNo) (circuit : Nat) (result : TxResult) (s : State) :
    (lampOffResult b circuit result s).1.fixed = s.fixed := by
  unfold lampOffResult
  try dsimp only
  repeat' (first | (simp; done) | split | rfl)

@[simp] theorem lampOwedResult_fixed (b : BayNo) (circuit : Nat) (on : Bool) (result : TxResult) (s : State) :
    (lampOwedResult b circuit on result s).1.fixed = s.fixed := by
  unfold lampOwedResult
  try dsimp only
  repeat' (first | (simp; done) | split | rfl)

@[simp] theorem lcsResult_fixed (b : BayNo) (circuit : Nat) (on : Bool) (result : TxResult) (s : State) :
    (lcsResult b circuit on result s).1.fixed = s.fixed := by
  unfold lcsResult
  try dsimp only
  repeat' (first | (simp; done) | split | rfl)

@[simp] theorem lcsRemoved_fixed (b : BayNo) (s : State) :
    (lcsRemoved b s).1.fixed = s.fixed := by
  unfold lcsRemoved
  try dsimp only
  repeat' (first | (simp; done) | split | rfl)

@[simp] theorem lcsIgnition_fixed (b : BayNo) (on : Bool) (s : State) :
    (lcsIgnition b on s).1.fixed = s.fixed := by
  unfold lcsIgnition
  try dsimp only
  repeat' (first | (simp; done) | split | rfl)

@[simp] theorem lcsLost_fixed (b : BayNo) (s : State) :
    (lcsLost b s).1.fixed = s.fixed := by
  unfold lcsLost
  try dsimp only
  repeat' (first | (simp; done) | split | rfl)

@[simp] theorem lcsRecovered_fixed (b : BayNo) (s : State) :
    (lcsRecovered b s).1.fixed = s.fixed := by
  unfold lcsRecovered
  try dsimp only
  repeat' (first | (simp; done) | split | rfl)

@[simp] theorem lcsDocked_fixed (b : BayNo) (s : State) :
    (lcsDocked b s).1.fixed = s.fixed := by
  unfold lcsDocked
  try dsimp only
  repeat' (first | (simp; done) | split | rfl)

@[simp] theorem lcsAbandonRun_fixed (b : BayNo) (s : State) :
    (lcsAbandonRun b s).1.fixed = s.fixed := by
  unfold lcsAbandonRun
  try dsimp only
  repeat' (first | (simp; done) | split | rfl)

@[simp] theorem lcsUndock_fixed (b : BayNo) (s : State) :
    (lcsUndock b s).1.fixed = s.fixed := by
  unfold lcsUndock
  try dsimp only
  repeat' (first | (simp; done) | split | rfl)

@[simp] theorem lcsRetain_fixed (b : BayNo) (s : State) :
    (lcsRetain b s).1.fixed = s.fixed := by
  unfold lcsRetain
  try dsimp only
  repeat' (first | (simp; done) | split | rfl)

@[simp] theorem lcsSessionStart_fixed (b : BayNo) (s : State) :
    (lcsSessionStart b s).1.fixed = s.fixed := by
  unfold lcsSessionStart
  try dsimp only
  repeat' (first | (simp; done) | split | rfl)

@[simp] theorem lcsBaseline_fixed (b : BayNo) (amps : FourSamples) (s : State) :
    (lcsBaseline b amps s).1.fixed = s.fixed := by
  unfold lcsBaseline
  try dsimp only
  repeat' (first | (simp; done) | split | rfl)

@[simp] theorem lcsSettled_fixed (b : BayNo) (s : State) :
    (lcsSettled b s).1.fixed = s.fixed := by
  unfold lcsSettled
  try dsimp only
  repeat' (first | (simp; done) | split | rfl)

@[simp] theorem lcsLit_fixed (b : BayNo) (amps volts : FourSamples) (s : State) :
    (lcsLit b amps volts s).1.fixed = s.fixed := by
  unfold lcsLit
  try dsimp only
  repeat' (first | (simp; done) | split | rfl)

@[simp] theorem lcsExpired_fixed (b : BayNo) (s : State) :
    (lcsExpired b s).1.fixed = s.fixed := by
  unfold lcsExpired
  try dsimp only
  repeat' (first | (simp; done) | split | rfl)

/-! ### Docking -/

@[simp] theorem dkuWrongBay_fixed (b : BayNo) (s : State) :
    (dkuWrongBay b s).1.fixed = s.fixed := by
  unfold dkuWrongBay
  try dsimp only
  repeat' (first | (simp; done) | split | rfl)

@[simp] theorem dkuMatch_fixed (b : BayNo) (s : State) :
    (dkuMatch b s).1.fixed = s.fixed := by
  unfold dkuMatch
  try dsimp only
  repeat' (first | (simp; done) | split | rfl)

@[simp] theorem dkuDiscard_fixed (b : BayNo) (s : State) :
    (dkuDiscard b s).1.fixed = s.fixed := by
  unfold dkuDiscard
  try dsimp only
  repeat' (first | (simp; done) | split | rfl)

@[simp] theorem dkuStart_fixed (b : BayNo) (s : State) :
    (dkuStart b s).1.fixed = s.fixed := by
  unfold dkuStart
  try dsimp only
  repeat' (first | (simp; done) | split | rfl)

@[simp] theorem dkuBegin_fixed (b : BayNo) (s : State) :
    (dkuBegin b s).1.fixed = s.fixed := by
  unfold dkuBegin
  try dsimp only
  repeat' (first | (simp; done) | split | rfl)

@[simp] theorem dkuSubmit_fixed (b : BayNo) (r : BayRequest) (s : State) :
    (dkuSubmit b r s).1.fixed = s.fixed := by
  unfold dkuSubmit
  try dsimp only
  repeat' (first | (simp; done) | split | rfl)

@[simp] theorem dkuIdentified_fixed (b : BayNo) (i : Identity) (s : State) :
    (dkuIdentified b i s).1.fixed = s.fixed := by
  unfold dkuIdentified
  try dsimp only
  repeat' (first | (simp; done) | split | rfl)

@[simp] theorem dkuDescribed_fixed (b : BayNo) (i kind n : Nat) (body : List Byte) (s : State) :
    (dkuDescribed b i kind n body s).1.fixed = s.fixed := by
  unfold dkuDescribed
  try dsimp only
  repeat' (first | (simp; done) | split | rfl)

@[simp] theorem dkuDocked_fixed (b : BayNo) (s : State) :
    (dkuDocked b s).1.fixed = s.fixed := by
  unfold dkuDocked
  try dsimp only
  repeat' (first | (simp; done) | split | rfl)

@[simp] theorem dkuReidentified_fixed (b : BayNo) (fleet : Nat) (s : State) :
    (dkuReidentified b fleet s).1.fixed = s.fixed := by
  unfold dkuReidentified
  try dsimp only
  repeat' (first | (simp; done) | split | rfl)

@[simp] theorem dkuReadFailed_fixed (b : BayNo) (r : BayRequest) (s : State) :
    (dkuReadFailed b r s).1.fixed = s.fixed := by
  unfold dkuReadFailed
  try dsimp only
  repeat' (first | (simp; done) | split | rfl)

@[simp] theorem dkuResult_fixed (b : BayNo) (r : BayRequest) (result : TxResult) (s : State) :
    (dkuResult b r result s).1.fixed = s.fixed := by
  unfold dkuResult
  try dsimp only
  repeat' (first | (simp; done) | split | rfl)

@[simp] theorem dkuScanCommitted_fixed (b : BayNo) (s : State) :
    (dkuScanCommitted b s).1.fixed = s.fixed := by
  unfold dkuScanCommitted
  try dsimp only
  repeat' (first | (simp; done) | split | rfl)

@[simp] theorem dkuRecovered_fixed (b : BayNo) (s : State) :
    (dkuRecovered b s).1.fixed = s.fixed := by
  unfold dkuRecovered
  try dsimp only
  repeat' (first | (simp; done) | split | rfl)

@[simp] theorem dkuUndock_fixed (b : BayNo) (why : UndockReason) (s : State) :
    (dkuUndock b why s).1.fixed = s.fixed := by
  unfold dkuUndock
  try dsimp only
  repeat' (first | (simp; done) | split | rfl)

@[simp] theorem dkuRetain_fixed (b : BayNo) (s : State) :
    (dkuRetain b s).1.fixed = s.fixed := by
  unfold dkuRetain
  try dsimp only
  repeat' (first | (simp; done) | split | rfl)

/-! ### Departures -/

@[simp] theorem rederive_fixed (b : BayNo) (s : State) :
    (rederive b s).1.fixed = s.fixed := by
  unfold rederive
  try dsimp only
  repeat' (first | (simp; done) | split | rfl)

@[simp] theorem report_fixed (b : BayNo) (f : Conditions → Conditions) (s : State) :
    (report b f s).1.fixed = s.fixed := by
  unfold report
  try dsimp only
  repeat' (first | (simp; done) | split | rfl)

@[simp] theorem reportChange_fixed (b : BayNo) (f : Conditions → Conditions) (s : State) :
    (reportChange b f s).1.fixed = s.fixed := by
  unfold reportChange
  try dsimp only
  repeat' (first | (simp; done) | split | rfl)

@[simp] theorem tellService_fixed (b : BayNo) (s : State) :
    (tellService b s).1.fixed = s.fixed := by
  unfold tellService
  try dsimp only
  repeat' (first | (simp; done) | split | rfl)

@[simp] theorem tellDock_fixed (b : BayNo) (s : State) :
    (tellDock b s).1.fixed = s.fixed := by
  unfold tellDock
  try dsimp only
  repeat' (first | (simp; done) | split | rfl)

@[simp] theorem tellLink_fixed (b : BayNo) (s : State) :
    (tellLink b s).1.fixed = s.fixed := by
  unfold tellLink
  try dsimp only
  repeat' (first | (simp; done) | split | rfl)

@[simp] theorem tellScan_fixed (b : BayNo) (s : State) :
    (tellScan b s).1.fixed = s.fixed := by
  unfold tellScan
  try dsimp only
  repeat' (first | (simp; done) | split | rfl)

@[simp] theorem tellHeat_fixed (b : BayNo) (s : State) :
    (tellHeat b s).1.fixed = s.fixed := by
  unfold tellHeat
  try dsimp only
  repeat' (first | (simp; done) | split | rfl)

@[simp] theorem tellLamp_fixed (b : BayNo) (s : State) :
    (tellLamp b s).1.fixed = s.fixed := by
  unfold tellLamp
  try dsimp only
  repeat' (first | (simp; done) | split | rfl)

@[simp] theorem tellReliance_fixed (b : BayNo) (s : State) :
    (tellReliance b s).1.fixed = s.fixed := by
  unfold tellReliance
  try dsimp only
  repeat' (first | (simp; done) | split | rfl)

@[simp] theorem tellFreeze_fixed (b : BayNo) (on : Bool) (s : State) :
    (tellFreeze b on s).1.fixed = s.fixed := by
  unfold tellFreeze
  try dsimp only
  repeat' (first | (simp; done) | split | rfl)

@[simp] theorem ownConditions_fixed (b : BayNo) (s : State) :
    (ownConditions b s).1.fixed = s.fixed := by
  unfold ownConditions
  try dsimp only
  repeat' (first | (simp; done) | split | rfl)

@[simp] theorem workOut_fixed (b : BayNo) (s : State) :
    (workOut b s).1.fixed = s.fixed := by
  unfold workOut
  try dsimp only
  repeat' (first | (simp; done) | split | rfl)

@[simp] theorem amended_fixed (b : BayNo) (fleet heat lane : Bool) (s : State) :
    (amended b fleet heat lane s).1.fixed = s.fixed := by
  unfold amended
  try dsimp only
  repeat' (first | (simp; done) | split | rfl)

end Sys2Proof.Machine
end

