-- ==== Sys2Proof/Laws/Events.lean ====
section
/-! SUPPORT. What the Clearance Controller, the contactor and whole events leave alone. `State.quiet` is what no notice but
a raising, a late check and a departed event writes; `State.lines` is every bay's enable state, plug, trip, contactor and
latch. One lemma per function, then one per notice, then one per event. -/

namespace Sys2Proof.Machine

/-- What only raisings, late checks and departed events write among the notices. -/
structure Quiet where
  given : Given
  hli : HostLink
  flags : Vector (Vector Flag 13) 16
  hallFlags : Vector Flag 7
  departures : List Departure
  unfinished : List Notice

def State.quiet (s : State) : Quiet :=
  { given := s.given, hli := s.hli, flags := s.flags, hallFlags := s.hallFlags, departures := s.departures
    unfinished := s.unfinished }

/-- A bay's enable state, plug, trip, contactor and latch. -/
def State.lines (s : State) : BayNo → Bool × Bool × Bool × Bool × Bool := fun b =>
  ((s.bfeAt b).enabled, (s.bfeAt b).plug, (s.bfeAt b).tripped, (s.bfeAt b).contactor, (s.bfeAt b).latch)

theorem quiet_of_fixed {s t : State} (h : t.fixed = s.fixed) : t.quiet = s.quiet := by
  simp only [State.fixed, Fixed.mk.injEq] at h
  obtain ⟨h1, -, h3, h4, h5, h6, h7, h8, h9, h10, h11, h12, h13, h14, h15, h16, h17, -⟩ := h
  simp only [State.quiet, State.given, State.bfeAt, h1, h3, h4, h5, h6, h7, h8, h9, h10, h11, h12, h13, h14, h15, h16, h17]

theorem lines_of_fixed {s t : State} (h : t.fixed = s.fixed) : t.lines = s.lines := by
  have : t.bfe = s.bfe := congrArg Fixed.bfe h
  funext b; simp only [State.lines, State.bfeAt, this]

theorem signal_of_fixed {s t : State} (h : t.fixed = s.fixed) (hs : s.SignalFollows) : t.SignalFollows := by
  have h1 : t.bfe = s.bfe := congrArg Fixed.bfe h
  have h2 : t.clr = s.clr := congrArg Fixed.clr h
  intro b; simp only [State.bfeAt, State.clrAt, h1, h2]; exact hs b

/-! ### Base operations -/

@[simp] theorem State.modClr_quiet (s : State) (b : BayNo) (f : Clr → Clr) : (s.modClr b f).quiet = s.quiet := rfl
@[simp] theorem State.modLane_quiet (s : State) (l : Lane) (f : LaneRecord → LaneRecord) :
    (s.modLane l f).quiet = s.quiet := by cases l <;> rfl
@[simp] theorem State.waitOrder_quiet (s : State) (q : List BayNo) : ({ s with waitOrder := q } : State).quiet = s.quiet := rfl
@[simp] theorem State.modBfe_quiet (s : State) (b : BayNo) (f : Bfe → Bfe) (h : (f (s.bfeAt b)).given = (s.bfeAt b).given) :
    (s.modBfe b f).quiet = s.quiet := by
  have e : (fun c => ((s.modBfe b f).bfeAt c).given) = fun c => (s.bfeAt c).given := by
    funext c
    by_cases hc : c = b
    · subst hc; simp [h]
    · simp [hc]
  show ({ s.quiet with given := { s.given with bfe := fun c => ((s.modBfe b f).bfeAt c).given } } : Quiet) = s.quiet
  rw [e]; rfl

@[simp] theorem State.modClr_lines (s : State) (b : BayNo) (f : Clr → Clr) : (s.modClr b f).lines = s.lines := rfl
@[simp] theorem State.modLane_lines (s : State) (l : Lane) (f : LaneRecord → LaneRecord) :
    (s.modLane l f).lines = s.lines := by cases l <;> rfl
@[simp] theorem State.waitOrder_lines (s : State) (q : List BayNo) : ({ s with waitOrder := q } : State).lines = s.lines := rfl
@[simp] theorem State.setClear_quiet (s : State) (b : BayNo) (st : ClearState) : (s.setClear b st).quiet = s.quiet := by
  unfold State.setClear; rw [State.modBfe_quiet _ _ _ rfl]; rfl
@[simp] theorem State.setClear_lines (s : State) (b : BayNo) (st : ClearState) : (s.setClear b st).lines = s.lines := by
  funext c
  by_cases hc : c = b
  · subst hc; simp [State.setClear, State.lines]
  · simp [State.setClear, State.lines, hc]

@[simp] theorem signal_setClear {s : State} (h : s.SignalFollows) (b : BayNo) (st : ClearState) :
    (s.setClear b st).SignalFollows := by
  intro c
  by_cases hc : c = b
  · subst hc; simp [State.setClear]
  · simp [State.setClear, hc]; exact h c

@[simp] theorem signal_modClr {s : State} (h : s.SignalFollows) (b : BayNo) (f : Clr → Clr)
    (hf : ∀ c, (f c).state = c.state) : (s.modClr b f).SignalFollows := by
  intro c
  by_cases hc : c = b
  · subst hc; simp [hf]; exact h c
  · simp [hc]; exact h c

@[simp] theorem signal_modLane {s : State} (h : s.SignalFollows) (l : Lane) (f : LaneRecord → LaneRecord) :
    (s.modLane l f).SignalFollows := by intro c; simp; exact h c

@[simp] theorem signal_waitOrder {s : State} (h : s.SignalFollows) (q : List BayNo) :
    ({ s with waitOrder := q } : State).SignalFollows := h

@[simp] theorem enterClear_quiet (s : State) (b : BayNo) (st : ClearState) :
    (enterClear s b st).1.quiet = s.quiet := by
  unfold enterClear
  try dsimp only
  repeat' (first | (simp; done) | split | rfl)

@[simp] theorem enterClear_lines (s : State) (b : BayNo) (st : ClearState) :
    (enterClear s b st).1.lines = s.lines := by
  unfold enterClear
  try dsimp only
  repeat' (first | (simp; done) | split | rfl)

@[simp] theorem enterClear_signal (b : BayNo) (st : ClearState) {s : State} (h : s.SignalFollows) : (enterClear s b st).1.SignalFollows := by
  unfold enterClear
  try dsimp only
  repeat' (first | exact h | (simp (maxDischargeDepth := 9) [h]; done) | split)

@[simp] theorem leaveOrder_quiet (b : BayNo) (s : State) : (leaveOrder b s).quiet = s.quiet := rfl
@[simp] theorem leaveOrder_lines (b : BayNo) (s : State) : (leaveOrder b s).lines = s.lines := rfl
@[simp] theorem leaveOrder_signal (b : BayNo) {s : State} (h : s.SignalFollows) : (leaveOrder b s).SignalFollows := by
  unfold leaveOrder
  try dsimp only
  repeat' (first | exact h | (simp (maxDischargeDepth := 9) [h]; done) | split)

@[simp] theorem joinOrder_quiet (b : BayNo) (s : State) : (joinOrder b s).quiet = s.quiet := rfl
@[simp] theorem joinOrder_lines (b : BayNo) (s : State) : (joinOrder b s).lines = s.lines := rfl
@[simp] theorem joinOrder_signal (b : BayNo) {s : State} (h : s.SignalFollows) : (joinOrder b s).SignalFollows := by
  unfold joinOrder
  try dsimp only
  repeat' (first | exact h | (simp (maxDischargeDepth := 9) [h]; done) | split)

@[simp] theorem grantLane_quiet (l : Lane) (b : BayNo) (s : State) :
    (grantLane l b s).1.quiet = s.quiet := by
  unfold grantLane
  try dsimp only
  repeat' (first | (simp; done) | split | rfl)

@[simp] theorem grantLane_lines (l : Lane) (b : BayNo) (s : State) :
    (grantLane l b s).1.lines = s.lines := by
  unfold grantLane
  try dsimp only
  repeat' (first | (simp; done) | split | rfl)

@[simp] theorem grantLane_signal (l : Lane) (b : BayNo) {s : State} (h : s.SignalFollows) : (grantLane l b s).1.SignalFollows := by
  unfold grantLane
  try dsimp only
  repeat' (first | exact h | (simp (maxDischargeDepth := 9) [h]; done) | split)

@[simp] theorem laneOffer_quiet (l : Lane) (s : State) :
    (laneOffer l s).1.quiet = s.quiet := by
  unfold laneOffer
  try dsimp only
  repeat' (first | (simp; done) | split | rfl)

@[simp] theorem laneOffer_lines (l : Lane) (s : State) :
    (laneOffer l s).1.lines = s.lines := by
  unfold laneOffer
  try dsimp only
  repeat' (first | (simp; done) | split | rfl)

@[simp] theorem laneOffer_signal (l : Lane) {s : State} (h : s.SignalFollows) : (laneOffer l s).1.SignalFollows := by
  unfold laneOffer
  try dsimp only
  repeat' (first | exact h | (simp (maxDischargeDepth := 9) [h]; done) | split)

@[simp] theorem clrOfferTo_quiet (b : BayNo) (s : State) :
    (clrOfferTo b s).1.quiet = s.quiet := by
  unfold clrOfferTo
  try dsimp only
  repeat' (first | (simp; done) | split | rfl)

@[simp] theorem clrOfferTo_lines (b : BayNo) (s : State) :
    (clrOfferTo b s).1.lines = s.lines := by
  unfold clrOfferTo
  try dsimp only
  repeat' (first | (simp; done) | split | rfl)

@[simp] theorem clrOfferTo_signal (b : BayNo) {s : State} (h : s.SignalFollows) : (clrOfferTo b s).1.SignalFollows := by
  unfold clrOfferTo
  try dsimp only
  repeat' (first | exact h | (simp (maxDischargeDepth := 9) [h]; done) | split)

@[simp] theorem laneRelease_quiet (l : Lane) (timeout : Bool) (s : State) :
    (laneRelease l timeout s).1.quiet = s.quiet := by
  unfold laneRelease
  try dsimp only
  repeat' (first | (simp; done) | split | rfl)

@[simp] theorem laneRelease_lines (l : Lane) (timeout : Bool) (s : State) :
    (laneRelease l timeout s).1.lines = s.lines := by
  unfold laneRelease
  try dsimp only
  repeat' (first | (simp; done) | split | rfl)

@[simp] theorem laneRelease_signal (l : Lane) (timeout : Bool) {s : State} (h : s.SignalFollows) : (laneRelease l timeout s).1.SignalFollows := by
  unfold laneRelease
  try dsimp only
  repeat' (first | exact h | (simp (maxDischargeDepth := 9) [h]; done) | split)

@[simp] theorem laneReleaseOf_quiet (b : BayNo) (s : State) :
    (laneReleaseOf b s).1.quiet = s.quiet := by
  unfold laneReleaseOf
  try dsimp only
  repeat' (first | (simp; done) | split | rfl)

@[simp] theorem laneReleaseOf_lines (b : BayNo) (s : State) :
    (laneReleaseOf b s).1.lines = s.lines := by
  unfold laneReleaseOf
  try dsimp only
  repeat' (first | (simp; done) | split | rfl)

@[simp] theorem laneReleaseOf_signal (b : BayNo) {s : State} (h : s.SignalFollows) : (laneReleaseOf b s).1.SignalFollows := by
  unfold laneReleaseOf
  try dsimp only
  repeat' (first | exact h | (simp (maxDischargeDepth := 9) [h]; done) | split)

@[simp] theorem lanePassageWait_quiet (b : BayNo) (s : State) :
    (lanePassageWait b s).1.quiet = s.quiet := by
  unfold lanePassageWait
  try dsimp only
  repeat' (first | (simp; done) | split | rfl)

@[simp] theorem lanePassageWait_lines (b : BayNo) (s : State) :
    (lanePassageWait b s).1.lines = s.lines := by
  unfold lanePassageWait
  try dsimp only
  repeat' (first | (simp; done) | split | rfl)

@[simp] theorem lanePassageWait_signal (b : BayNo) {s : State} (h : s.SignalFollows) : (lanePassageWait b s).1.SignalFollows := by
  unfold lanePassageWait
  try dsimp only
  repeat' (first | exact h | (simp (maxDischargeDepth := 9) [h]; done) | split)

@[simp] theorem passagePulse_quiet (l : Lane) (s : State) :
    (passagePulse l s).1.quiet = s.quiet := by
  unfold passagePulse
  try dsimp only
  repeat' (first | (simp; done) | split | rfl)

@[simp] theorem passagePulse_lines (l : Lane) (s : State) :
    (passagePulse l s).1.lines = s.lines := by
  unfold passagePulse
  try dsimp only
  repeat' (first | (simp; done) | split | rfl)

@[simp] theorem passagePulse_signal (l : Lane) {s : State} (h : s.SignalFollows) : (passagePulse l s).1.SignalFollows := by
  unfold passagePulse
  try dsimp only
  repeat' (first | exact h | (simp (maxDischargeDepth := 9) [h]; done) | split)

@[simp] theorem laneExpired_quiet (l : Lane) (s : State) :
    (laneExpired l s).1.quiet = s.quiet := by
  unfold laneExpired
  try dsimp only
  repeat' (first | (simp; done) | split | rfl)

@[simp] theorem laneExpired_lines (l : Lane) (s : State) :
    (laneExpired l s).1.lines = s.lines := by
  unfold laneExpired
  try dsimp only
  repeat' (first | (simp; done) | split | rfl)

@[simp] theorem laneExpired_signal (l : Lane) {s : State} (h : s.SignalFollows) : (laneExpired l s).1.SignalFollows := by
  unfold laneExpired
  try dsimp only
  repeat' (first | exact h | (simp (maxDischargeDepth := 9) [h]; done) | split)

@[simp] theorem moveTo_quiet (b : BayNo) (st : ClearState) (s : State) :
    (moveTo b st s).1.quiet = s.quiet := by
  unfold moveTo
  try dsimp only
  repeat' (first | (simp; done) | split | rfl)

@[simp] theorem moveTo_lines (b : BayNo) (st : ClearState) (s : State) :
    (moveTo b st s).1.lines = s.lines := by
  unfold moveTo
  try dsimp only
  repeat' (first | (simp; done) | split | rfl)

@[simp] theorem moveTo_signal (b : BayNo) (st : ClearState) {s : State} (h : s.SignalFollows) : (moveTo b st s).1.SignalFollows := by
  unfold moveTo
  try dsimp only
  repeat' (first | exact h | (simp (maxDischargeDepth := 9) [h]; done) | split)

@[simp] theorem settle_quiet (b : BayNo) (s : State) :
    (settle b s).1.quiet = s.quiet := by
  unfold settle
  try dsimp only
  repeat' (first | (simp; done) | split | rfl)

@[simp] theorem settle_lines (b : BayNo) (s : State) :
    (settle b s).1.lines = s.lines := by
  unfold settle
  try dsimp only
  repeat' (first | (simp; done) | split | rfl)

@[simp] theorem settle_signal (b : BayNo) {s : State} (h : s.SignalFollows) : (settle b s).1.SignalFollows := by
  unfold settle
  try dsimp only
  repeat' (first | exact h | (simp (maxDischargeDepth := 9) [h]; done) | split)

@[simp] theorem clrSettle_quiet (b : BayNo) (s : State) :
    (clrSettle b s).1.quiet = s.quiet := by
  unfold clrSettle
  try dsimp only
  repeat' (first | (simp; done) | split | rfl)

@[simp] theorem clrSettle_lines (b : BayNo) (s : State) :
    (clrSettle b s).1.lines = s.lines := by
  unfold clrSettle
  try dsimp only
  repeat' (first | (simp; done) | split | rfl)

@[simp] theorem clrSettle_signal (b : BayNo) {s : State} (h : s.SignalFollows) : (clrSettle b s).1.SignalFollows := by
  unfold clrSettle
  try dsimp only
  repeat' (first | exact h | (simp (maxDischargeDepth := 9) [h]; done) | split)

@[simp] theorem clrDocked_quiet (b : BayNo) (s : State) :
    (clrDocked b s).1.quiet = s.quiet := by
  unfold clrDocked
  try dsimp only
  repeat' (first | (simp; done) | split | rfl)

@[simp] theorem clrDocked_lines (b : BayNo) (s : State) :
    (clrDocked b s).1.lines = s.lines := by
  unfold clrDocked
  try dsimp only
  repeat' (first | (simp; done) | split | rfl)

@[simp] theorem clrDocked_signal (b : BayNo) {s : State} (h : s.SignalFollows) : (clrDocked b s).1.SignalFollows := by
  unfold clrDocked
  try dsimp only
  repeat' (first | exact h | (simp (maxDischargeDepth := 9) [h]; done) | split)

@[simp] theorem clrScanCommitted_quiet (b : BayNo) (s : State) :
    (clrScanCommitted b s).1.quiet = s.quiet := by
  unfold clrScanCommitted
  try dsimp only
  repeat' (first | (simp; done) | split | rfl)

@[simp] theorem clrScanCommitted_lines (b : BayNo) (s : State) :
    (clrScanCommitted b s).1.lines = s.lines := by
  unfold clrScanCommitted
  try dsimp only
  repeat' (first | (simp; done) | split | rfl)

@[simp] theorem clrScanCommitted_signal (b : BayNo) {s : State} (h : s.SignalFollows) : (clrScanCommitted b s).1.SignalFollows := by
  unfold clrScanCommitted
  try dsimp only
  repeat' (first | exact h | (simp (maxDischargeDepth := 9) [h]; done) | split)

@[simp] theorem clrWindow_quiet (b : BayNo) (s : State) :
    (clrWindow b s).1.quiet = s.quiet := by
  unfold clrWindow
  try dsimp only
  repeat' (first | (simp; done) | split | rfl)

@[simp] theorem clrWindow_lines (b : BayNo) (s : State) :
    (clrWindow b s).1.lines = s.lines := by
  unfold clrWindow
  try dsimp only
  repeat' (first | (simp; done) | split | rfl)

@[simp] theorem clrWindow_signal (b : BayNo) {s : State} (h : s.SignalFollows) : (clrWindow b s).1.SignalFollows := by
  unfold clrWindow
  try dsimp only
  repeat' (first | exact h | (simp (maxDischargeDepth := 9) [h]; done) | split)

@[simp] theorem clrDeparture_quiet (b : BayNo) (s : State) :
    (clrDeparture b s).1.quiet = s.quiet := by
  unfold clrDeparture
  try dsimp only
  repeat' (first | (simp; done) | split | rfl)

@[simp] theorem clrDeparture_lines (b : BayNo) (s : State) :
    (clrDeparture b s).1.lines = s.lines := by
  unfold clrDeparture
  try dsimp only
  repeat' (first | (simp; done) | split | rfl)

@[simp] theorem clrDeparture_signal (b : BayNo) {s : State} (h : s.SignalFollows) : (clrDeparture b s).1.SignalFollows := by
  unfold clrDeparture
  dsimp only
  split
  · exact joinOrder_signal b h
  · exact h

@[simp] theorem clrFromSensors_quiet (b : BayNo) (s : State) :
    (clrFromSensors b s).1.quiet = s.quiet := by
  unfold clrFromSensors
  try dsimp only
  repeat' (first | (simp; done) | split | rfl)

@[simp] theorem clrFromSensors_lines (b : BayNo) (s : State) :
    (clrFromSensors b s).1.lines = s.lines := by
  unfold clrFromSensors
  try dsimp only
  repeat' (first | (simp; done) | split | rfl)

@[simp] theorem clrFromSensors_signal (b : BayNo) {s : State} (h : s.SignalFollows) : (clrFromSensors b s).1.SignalFollows := by
  unfold clrFromSensors
  try dsimp only
  repeat' (first | exact h | (simp (maxDischargeDepth := 9) [h]; done) | split)

@[simp] theorem leaveCleared_quiet (b : BayNo) (s : State) :
    (leaveCleared b s).quiet = s.quiet := by
  unfold leaveCleared
  try dsimp only
  repeat' (first | (simp; done) | split | rfl)

@[simp] theorem leaveCleared_lines (b : BayNo) (s : State) :
    (leaveCleared b s).lines = s.lines := by
  unfold leaveCleared
  try dsimp only
  repeat' (first | (simp; done) | split | rfl)

@[simp] theorem leaveCleared_signal (b : BayNo) {s : State} (h : s.SignalFollows) : (leaveCleared b s).SignalFollows := by
  unfold leaveCleared
  try dsimp only
  repeat' (first | exact h | (simp (maxDischargeDepth := 9) [h]; done) | split)

@[simp] theorem clrLeft_quiet (b : BayNo) (wasCleared : Bool) (s : State) :
    (clrLeft b wasCleared s).1.quiet = s.quiet := by
  unfold clrLeft
  try dsimp only
  repeat' (first | (simp; done) | split | rfl)

@[simp] theorem clrLeft_lines (b : BayNo) (wasCleared : Bool) (s : State) :
    (clrLeft b wasCleared s).1.lines = s.lines := by
  unfold clrLeft
  try dsimp only
  repeat' (first | (simp; done) | split | rfl)

@[simp] theorem clrLeft_signal (b : BayNo) (wasCleared : Bool) {s : State} (h : s.SignalFollows) :
    (clrLeft b wasCleared s).1.SignalFollows := by
  unfold clrLeft
  try dsimp only
  repeat' (first | exact h | (simp (maxDischargeDepth := 9) [h]; done) | split)

@[simp] theorem clrPresence_quiet (b : BayNo) (occupied : Bool) (s : State) :
    (clrPresence b occupied s).1.quiet = s.quiet := by
  unfold clrPresence
  try dsimp only
  repeat' (first | (simp; done) | split | rfl)

@[simp] theorem clrPresence_lines (b : BayNo) (occupied : Bool) (s : State) :
    (clrPresence b occupied s).1.lines = s.lines := by
  unfold clrPresence
  try dsimp only
  repeat' (first | (simp; done) | split | rfl)

@[simp] theorem clrPresence_signal (b : BayNo) (occupied : Bool) {s : State} (h : s.SignalFollows) : (clrPresence b occupied s).1.SignalFollows := by
  unfold clrPresence
  try dsimp only
  repeat' (first | exact h | (simp (maxDischargeDepth := 9) [h]; done) | split)

@[simp] theorem clrPlugIn_quiet (b : BayNo) (s : State) :
    (clrPlugIn b s).1.quiet = s.quiet := by
  unfold clrPlugIn
  try dsimp only
  repeat' (first | (simp; done) | split | rfl)

@[simp] theorem clrPlugIn_lines (b : BayNo) (s : State) :
    (clrPlugIn b s).1.lines = s.lines := by
  unfold clrPlugIn
  try dsimp only
  repeat' (first | (simp; done) | split | rfl)

@[simp] theorem clrPlugIn_signal (b : BayNo) {s : State} (h : s.SignalFollows) : (clrPlugIn b s).1.SignalFollows := by
  unfold clrPlugIn
  try dsimp only
  repeat' (first | exact h | (simp (maxDischargeDepth := 9) [h]; done) | split)

@[simp] theorem clearedByPlugOut_quiet (b : BayNo) (s : State) :
    (clearedByPlugOut b s).1.quiet = s.quiet := by
  unfold clearedByPlugOut
  try dsimp only
  repeat' (first | (simp; done) | split | rfl)

@[simp] theorem clearedByPlugOut_lines (b : BayNo) (s : State) :
    (clearedByPlugOut b s).1.lines = s.lines := by
  unfold clearedByPlugOut
  try dsimp only
  repeat' (first | (simp; done) | split | rfl)

@[simp] theorem clearedByPlugOut_signal (b : BayNo) {s : State} (h : s.SignalFollows) : (clearedByPlugOut b s).1.SignalFollows := by
  unfold clearedByPlugOut
  try dsimp only
  repeat' (first | exact h | (simp (maxDischargeDepth := 9) [h]; done) | split)

@[simp] theorem clrPlugOut_quiet (b : BayNo) (s : State) :
    (clrPlugOut b s).1.quiet = s.quiet := by
  unfold clrPlugOut
  try dsimp only
  repeat' (first | (simp; done) | split | rfl)

@[simp] theorem clrPlugOut_lines (b : BayNo) (s : State) :
    (clrPlugOut b s).1.lines = s.lines := by
  unfold clrPlugOut
  try dsimp only
  repeat' (first | (simp; done) | split | rfl)

@[simp] theorem clrPlugOut_signal (b : BayNo) {s : State} (h : s.SignalFollows) : (clrPlugOut b s).1.SignalFollows := by
  unfold clrPlugOut
  try dsimp only
  repeat' (first | exact h | (simp (maxDischargeDepth := 9) [h]; done) | split)

@[simp] theorem clrUndocked_quiet (b : BayNo) (why : UndockReason) (s : State) :
    (clrUndocked b why s).1.quiet = s.quiet := by
  unfold clrUndocked
  try dsimp only
  repeat' (first | (simp; done) | split | rfl)

@[simp] theorem clrUndocked_lines (b : BayNo) (why : UndockReason) (s : State) :
    (clrUndocked b why s).1.lines = s.lines := by
  unfold clrUndocked
  try dsimp only
  repeat' (first | (simp; done) | split | rfl)

@[simp] theorem clrUndocked_signal (b : BayNo) (why : UndockReason) {s : State} (h : s.SignalFollows) : (clrUndocked b why s).1.SignalFollows := by
  unfold clrUndocked
  try dsimp only
  repeat' (first | exact h | (simp (maxDischargeDepth := 9) [h]; done) | split)

@[simp] theorem clrDisable_quiet (b : BayNo) (s : State) :
    (clrDisable b s).1.quiet = s.quiet := by
  unfold clrDisable
  try dsimp only
  repeat' (first | (simp; done) | split | rfl)

@[simp] theorem clrDisable_lines (b : BayNo) (s : State) :
    (clrDisable b s).1.lines = s.lines := by
  unfold clrDisable
  try dsimp only
  repeat' (first | (simp; done) | split | rfl)

@[simp] theorem clrDisable_signal (b : BayNo) {s : State} (h : s.SignalFollows) : (clrDisable b s).1.SignalFollows := by
  unfold clrDisable
  try dsimp only
  repeat' (first | exact h | (simp (maxDischargeDepth := 9) [h]; done) | split)

@[simp] theorem clrSuspend_quiet (b : BayNo) (s : State) : (clrSuspend b s).1.quiet = s.quiet := by
  unfold clrSuspend
  split <;> rfl

@[simp] theorem clrSuspend_lines (b : BayNo) (s : State) : (clrSuspend b s).1.lines = s.lines := by
  unfold clrSuspend
  split <;> rfl

@[simp] theorem clrSuspend_signal (b : BayNo) {s : State} (h : s.SignalFollows) : (clrSuspend b s).1.SignalFollows := by
  unfold clrSuspend
  split <;> exact h

@[simp] theorem clrStartTimers_quiet (b : BayNo) (s : State) :
    (clrStartTimers b s).1.quiet = s.quiet := by
  unfold clrStartTimers
  try dsimp only
  repeat' (first | (simp; done) | split | rfl)

@[simp] theorem clrStartTimers_lines (b : BayNo) (s : State) :
    (clrStartTimers b s).1.lines = s.lines := by
  unfold clrStartTimers
  try dsimp only
  repeat' (first | (simp; done) | split | rfl)

@[simp] theorem clrStartTimers_signal (b : BayNo) {s : State} (h : s.SignalFollows) : (clrStartTimers b s).1.SignalFollows := by
  unfold clrStartTimers
  try dsimp only
  repeat' (first | exact h | (simp (maxDischargeDepth := 9) [h]; done) | split)

@[simp] theorem clrOpenPoint_quiet (b : BayNo) (s : State) :
    (clrOpenPoint b s).1.quiet = s.quiet := by
  unfold clrOpenPoint
  try dsimp only
  repeat' (first | (simp; done) | split | rfl)

@[simp] theorem clrOpenPoint_lines (b : BayNo) (s : State) :
    (clrOpenPoint b s).1.lines = s.lines := by
  unfold clrOpenPoint
  try dsimp only
  repeat' (first | (simp; done) | split | rfl)

@[simp] theorem clrOpenPoint_signal (b : BayNo) {s : State} (h : s.SignalFollows) : (clrOpenPoint b s).1.SignalFollows := by
  unfold clrOpenPoint
  try dsimp only
  repeat' (first | exact h | (simp (maxDischargeDepth := 9) [h]; done) | split)

@[simp] theorem clrOpenTest_quiet (b : BayNo) (s : State) :
    (clrOpenTest b s).1.quiet = s.quiet := by
  unfold clrOpenTest
  try dsimp only
  repeat' (first | (simp; done) | split | rfl)

@[simp] theorem clrOpenTest_lines (b : BayNo) (s : State) :
    (clrOpenTest b s).1.lines = s.lines := by
  unfold clrOpenTest
  try dsimp only
  repeat' (first | (simp; done) | split | rfl)

@[simp] theorem clrOpenTest_signal (b : BayNo) {s : State} (h : s.SignalFollows) : (clrOpenTest b s).1.SignalFollows := by
  unfold clrOpenTest
  try dsimp only
  repeat' (first | exact h | (simp (maxDischargeDepth := 9) [h]; done) | split)

@[simp] theorem clrOpenWaitExpired_quiet (b : BayNo) (s : State) :
    (clrOpenWaitExpired b s).1.quiet = s.quiet := by
  unfold clrOpenWaitExpired
  try dsimp only
  repeat' (first | (simp; done) | split | rfl)

@[simp] theorem clrOpenWaitExpired_lines (b : BayNo) (s : State) :
    (clrOpenWaitExpired b s).1.lines = s.lines := by
  unfold clrOpenWaitExpired
  try dsimp only
  repeat' (first | (simp; done) | split | rfl)

@[simp] theorem clrOpenWaitExpired_signal (b : BayNo) {s : State} (h : s.SignalFollows) : (clrOpenWaitExpired b s).1.SignalFollows := by
  unfold clrOpenWaitExpired
  try dsimp only
  repeat' (first | exact h | (simp (maxDischargeDepth := 9) [h]; done) | split)

@[simp] theorem clrRevoke_quiet (b : BayNo) (timeout : Bool) (s : State) :
    (clrRevoke b timeout s).1.quiet = s.quiet := by
  unfold clrRevoke
  try dsimp only
  repeat' (first | (simp; done) | split | rfl)

@[simp] theorem clrRevoke_lines (b : BayNo) (timeout : Bool) (s : State) :
    (clrRevoke b timeout s).1.lines = s.lines := by
  unfold clrRevoke
  try dsimp only
  repeat' (first | (simp; done) | split | rfl)

@[simp] theorem clrRevoke_signal (b : BayNo) (timeout : Bool) {s : State} (h : s.SignalFollows) : (clrRevoke b timeout s).1.SignalFollows := by
  unfold clrRevoke
  try dsimp only
  repeat' (first | exact h | (simp (maxDischargeDepth := 9) [h]; done) | split)

@[simp] theorem clrRevokeEnd_quiet (b : BayNo) (timeout : Bool) (s : State) :
    (clrRevokeEnd b timeout s).1.quiet = s.quiet := by
  unfold clrRevokeEnd
  try dsimp only
  repeat' (first | (simp; done) | split | rfl)

@[simp] theorem clrRevokeEnd_lines (b : BayNo) (timeout : Bool) (s : State) :
    (clrRevokeEnd b timeout s).1.lines = s.lines := by
  unfold clrRevokeEnd
  try dsimp only
  repeat' (first | (simp; done) | split | rfl)

@[simp] theorem clrRevokeEnd_signal (b : BayNo) (timeout : Bool) {s : State} (h : s.SignalFollows) : (clrRevokeEnd b timeout s).1.SignalFollows := by
  unfold clrRevokeEnd
  try dsimp only
  repeat' (first | exact h | (simp (maxDischargeDepth := 9) [h]; done) | split)

@[simp] theorem clrPlugExpired_quiet (b : BayNo) (s : State) :
    (clrPlugExpired b s).1.quiet = s.quiet := by
  unfold clrPlugExpired
  try dsimp only
  repeat' (first | (simp; done) | split | rfl)

@[simp] theorem clrPlugExpired_lines (b : BayNo) (s : State) :
    (clrPlugExpired b s).1.lines = s.lines := by
  unfold clrPlugExpired
  try dsimp only
  repeat' (first | (simp; done) | split | rfl)

@[simp] theorem clrPlugExpired_signal (b : BayNo) {s : State} (h : s.SignalFollows) : (clrPlugExpired b s).1.SignalFollows := by
  unfold clrPlugExpired
  try dsimp only
  repeat' (first | exact h | (simp (maxDischargeDepth := 9) [h]; done) | split)

@[simp] theorem clrRecall_quiet (b : BayNo) (s : State) :
    (clrRecall b s).1.quiet = s.quiet := by
  unfold clrRecall
  try dsimp only
  repeat' (first | (simp; done) | split | rfl)

@[simp] theorem clrRecall_lines (b : BayNo) (s : State) :
    (clrRecall b s).1.lines = s.lines := by
  unfold clrRecall
  try dsimp only
  repeat' (first | (simp; done) | split | rfl)

@[simp] theorem clrRecall_signal (b : BayNo) {s : State} (h : s.SignalFollows) : (clrRecall b s).1.SignalFollows := by
  unfold clrRecall
  try dsimp only
  repeat' (first | exact h | (simp (maxDischargeDepth := 9) [h]; done) | split)

@[simp] theorem clrHolds_quiet (b : BayNo) (s : State) :
    (clrHolds b s).1.quiet = s.quiet := by
  unfold clrHolds
  try dsimp only
  repeat' (first | (simp; done) | split | rfl)

@[simp] theorem clrHolds_lines (b : BayNo) (s : State) :
    (clrHolds b s).1.lines = s.lines := by
  unfold clrHolds
  try dsimp only
  repeat' (first | (simp; done) | split | rfl)

@[simp] theorem clrHolds_signal (b : BayNo) {s : State} (h : s.SignalFollows) : (clrHolds b s).1.SignalFollows := by
  unfold clrHolds
  try dsimp only
  repeat' (first | exact h | (simp (maxDischargeDepth := 9) [h]; done) | split)

/-! ### The contactor and the DPM's list -/

theorem given_of_quiet {s t : State} (h : t.quiet = s.quiet) : t.given = s.given := congrArg Quiet.given h

@[simp] theorem bfeContactor_quiet (b : BayNo) (s : State) : (bfeContactor b s).1.quiet = s.quiet := by
  unfold bfeContactor
  dsimp only
  split
  · rfl
  · exact State.modBfe_quiet _ _ _ rfl

@[simp] theorem clearTrip_quiet (b : BayNo) (s : State) : (clearTrip b s).1.quiet = s.quiet := by
  unfold clearTrip
  split
  · exact State.modBfe_quiet _ _ _ rfl
  · rfl

@[simp] theorem signal_modBfe {s : State} (h : s.SignalFollows) (b : BayNo) (f : Bfe → Bfe)
    (hf : ∀ x, (f x).aspect = x.aspect) : (s.modBfe b f).SignalFollows := by
  intro c
  by_cases hc : c = b
  · subst hc; simp [hf]; exact h c
  · simp [hc]; exact h c

@[simp] theorem bfeContactor_signal (b : BayNo) {s : State} (h : s.SignalFollows) :
    (bfeContactor b s).1.SignalFollows := by
  unfold bfeContactor
  dsimp only
  split
  · exact h
  · exact signal_modBfe h _ _ fun _ => rfl

@[simp] theorem clearTrip_signal (b : BayNo) {s : State} (h : s.SignalFollows) : (clearTrip b s).1.SignalFollows := by
  unfold clearTrip
  split
  · exact signal_modBfe h _ _ fun _ => rfl
  · exact h

/-- The contactor of a bay that has just been tested stands as its five conditions want it, its latch with it. -/
theorem bfeContactor_wanted (b : BayNo) (s : State) (h : (s.bfeAt b).latch = (s.bfeAt b).contactor) :
    ((bfeContactor b s).1.bfeAt b).contactor = s.contactorWanted b ∧
      ((bfeContactor b s).1.bfeAt b).latch = s.contactorWanted b := by
  unfold bfeContactor
  dsimp only
  split <;> rename_i e
  · exact ⟨e, h.trans e⟩
  · simp

theorem bfeContactor_other {b c : BayNo} (s : State) (h : c ≠ b) : (bfeContactor b s).1.bfeAt c = s.bfeAt c := by
  unfold bfeContactor
  dsimp only
  split
  · rfl
  · simp [h]

theorem bfeContactor_inputs (b : BayNo) (s : State) :
    ((bfeContactor b s).1.bfeAt b).enabled = (s.bfeAt b).enabled ∧
    ((bfeContactor b s).1.bfeAt b).plug = (s.bfeAt b).plug ∧
    ((bfeContactor b s).1.bfeAt b).tripped = (s.bfeAt b).tripped := by
  unfold bfeContactor
  dsimp only
  split
  · exact ⟨rfl, rfl, rfl⟩
  · simp

/-- What the latch follows at one bay. -/
def Bfe.LatchFollows (f : Bfe) : Prop :=
  f.latch = f.contactor ∧ (f.contactor = true → f.enabled = true ∧ f.plug = true ∧ f.tripped = false)

/-- The contactor test restores its bay's latch rule and keeps every other bay's. -/
theorem bfeContactor_restores (b : BayNo) (s : State) (hb : (s.bfeAt b).latch = (s.bfeAt b).contactor)
    (h : ∀ c, c ≠ b → (s.bfeAt c).LatchFollows) : (bfeContactor b s).1.LatchFollows := by
  intro c
  by_cases hc : c = b
  · subst hc
    obtain ⟨h1, h2⟩ := bfeContactor_wanted c s hb
    obtain ⟨h3, h4, h5⟩ := bfeContactor_inputs c s
    refine ⟨h2.trans h1.symm, fun hw => ?_⟩
    rw [h1] at hw
    simp only [State.contactorWanted, Bool.and_eq_true] at hw
    rw [h3, h4, h5]
    exact ⟨hw.1.1.1.1, hw.1.1.1.2, by simpa using hw.1.2⟩
  · rw [bfeContactor_other s hc]; exact h c hc

theorem bfeContactor_latch (b : BayNo) {s : State} (h : s.LatchFollows) : (bfeContactor b s).1.LatchFollows :=
  bfeContactor_restores b s (h b).1 fun c _ => h c

theorem clearTrip_latch (b : BayNo) {s : State} (h : s.LatchFollows) : (clearTrip b s).1.LatchFollows := by
  unfold clearTrip
  split
  · intro c
    by_cases hc : c = b
    · subst hc; simp; exact ⟨(h c).1, fun x => ⟨((h c).2 x).1, ((h c).2 x).2.1⟩⟩
    · simp [hc]; exact h c
  · exact h

theorem latch_of_lines {s t : State} (h : t.lines = s.lines) (hs : s.LatchFollows) : t.LatchFollows := by
  intro b
  have := congrFun h b
  simp only [State.lines, Prod.mk.injEq] at this
  obtain ⟨h1, h2, h3, h4, h5⟩ := this
  rw [h1, h2, h3, h4, h5]
  exact hs b

@[simp] theorem raiseFlag_given (s : State) (b : BayNo) (k : BayFlag) (r : Reason) (q : Bool) :
    (raiseFlag s b k r q).given = s.given := rfl
@[simp] theorem raiseHallFlag_given (s : State) (k : HallFlag) (r : Reason) : (raiseHallFlag s k r).given = s.given := rfl
@[simp] theorem raiseFlag_lines (s : State) (b : BayNo) (k : BayFlag) (r : Reason) (q : Bool) :
    (raiseFlag s b k r q).lines = s.lines := rfl
@[simp] theorem raiseHallFlag_lines (s : State) (k : HallFlag) (r : Reason) : (raiseHallFlag s k r).lines = s.lines := rfl
@[simp] theorem raiseFlag_signal (b : BayNo) (k : BayFlag) (r : Reason) (q : Bool) {s : State} (h : s.SignalFollows) :
    (raiseFlag s b k r q).SignalFollows := h
@[simp] theorem raiseHallFlag_signal (k : HallFlag) (r : Reason) {s : State} (h : s.SignalFollows) :
    (raiseHallFlag s k r).SignalFollows := h
@[simp] theorem lateCheckFor_given (id : Option Nat) (s : State) : (lateCheckFor id s).1.given = s.given := by
  cases id <;> rfl
@[simp] theorem lateCheckFor_lines (id : Option Nat) (s : State) : (lateCheckFor id s).1.lines = s.lines := by
  cases id <;> rfl
@[simp] theorem lateCheckFor_signal (id : Option Nat) {s : State} (h : s.SignalFollows) :
    (lateCheckFor id s).1.SignalFollows := by cases id <;> exact h
@[simp] theorem departed_given (b : BayNo) (c : Bool) (s : State) : (departed b c s).1.given = s.given := rfl
@[simp] theorem departed_lines (b : BayNo) (c : Bool) (s : State) : (departed b c s).1.lines = s.lines := rfl
@[simp] theorem departed_signal (b : BayNo) (c : Bool) {s : State} (h : s.SignalFollows) :
    (departed b c s).1.SignalFollows := h

/-! ### One lemma per property over every notice -/

/-- The notices that write flags or the departure list. -/
def Notice.isLoud : Notice → Bool
  | .raise _ _ _ _ | .raiseHall _ _ | .lateCheck _ | .departed _ _ => true
  | _ => false

/-- A notice that is neither a raising, a late check nor a departed event writes no flag, no departure, nothing given. -/
theorem handle_quiet (n : Notice) (s : State) (h : n.isLoud = false) : (handle n s).1.quiet = s.quiet := by
  cases n <;> first
    | (refine quiet_of_fixed ?_; simp [handle]; done)
    | (simp [handle]; done)
    | (simp [Notice.isLoud] at h; done)

/-- No notice changes what is given. -/
theorem handle_given (n : Notice) (s : State) : (handle n s).1.given = s.given := by
  by_cases h : n.isLoud = false
  · exact given_of_quiet (handle_quiet n s h)
  · cases n <;> first
      | (simp [handle]; done)
      | (simp [Notice.isLoud] at h; done)

/-- Every notice keeps the exit signals with the clearance states. -/
theorem handle_signal (n : Notice) {s : State} (h : s.SignalFollows) : (handle n s).1.SignalFollows := by
  cases n <;> first
    | (refine signal_of_fixed ?_ h; simp [handle]; done)
    | (simp [handle, h]; done)

/-- Every notice keeps the latches with the contactors. -/
theorem handle_latch (n : Notice) {s : State} (h : s.LatchFollows) : (handle n s).1.LatchFollows := by
  cases n <;> first
    | (refine latch_of_lines (lines_of_fixed ?_) h; simp [handle]; done)
    | (refine latch_of_lines ?_ h; simp [handle]; done)
    | exact bfeContactor_latch _ h
    | exact clearTrip_latch _ h

/-! ### Whole events -/

theorem run_given (n : Nat) (ns : List Notice) (s : State) : (run n ns s).given = s.given := by
  induction n generalizing ns s with
  | zero => cases ns <;> rfl
  | succ n ih =>
    cases ns with
    | nil => rfl
    | cons x xs => exact (ih _ _).trans (handle_given x s)

/-- What an event's notices leave alone. -/
@[simp] theorem perform_given (r : Reaction) : (perform r).given = r.1.given := run_given _ _ _

@[simp] theorem carryOn_given (s : State) : (carryOn s).given = s.given := run_given _ _ _

theorem run_signal (n : Nat) (ns : List Notice) {s : State} (h : s.SignalFollows) : (run n ns s).SignalFollows := by
  induction n generalizing ns s with
  | zero => cases ns <;> exact h
  | succ n ih =>
    cases ns with
    | nil => exact h
    | cons x xs => exact ih _ (handle_signal x h)

theorem perform_signal {r : Reaction} (h : r.1.SignalFollows) : (perform r).SignalFollows := run_signal _ _ h

theorem run_latch (n : Nat) (ns : List Notice) {s : State} (h : s.LatchFollows) : (run n ns s).LatchFollows := by
  induction n generalizing ns s with
  | zero => cases ns <;> exact h
  | succ n ih =>
    cases ns with
    | nil => exact h
    | cons x xs => exact ih _ (handle_latch x h)

theorem perform_latch {r : Reaction} (h : r.1.LatchFollows) : (perform r).LatchFollows := run_latch _ _ h

/-- An event whose first notice tests the contactor of the bay it has changed. -/
theorem perform_contactor_latch (b : BayNo) (ns : List Notice) (s : State)
    (hb : (s.bfeAt b).latch = (s.bfeAt b).contactor) (h : ∀ c, c ≠ b → (s.bfeAt c).LatchFollows) :
    (perform (s, .contactor b :: ns)).LatchFollows := by
  show (run 65535 _ _).LatchFollows
  exact run_latch _ _ (bfeContactor_restores b s hb h)

end Sys2Proof.Machine
end

