-- ==== Sys2Proof/Laws/Flags.lean ====
section
/-! SUPPORT. What a raising does to each flag and to ATTN, and what keeps ATTN with the flags (R181, R184). -/

namespace Sys2Proof.Machine

@[simp] theorem BayFlag.code_inj {j k : BayFlag} : j.code = k.code ↔ j = k := by
  constructor
  · cases j <;> cases k <;> first | exact fun _ => rfl | (intro h; exact absurd h (by decide))
  · exact congrArg _

@[simp] theorem HallFlag.code_inj {j k : HallFlag} : j.code = k.code ↔ j = k := by
  constructor
  · cases j <;> cases k <;> first | exact fun _ => rfl | (intro h; exact absurd h (by decide))
  · exact congrArg _

theorem mem_bayFlagKinds (k : BayFlag) : k ∈ bayFlagKinds := by cases k <;> decide
theorem mem_hallFlagKinds (k : HallFlag) : k ∈ hallFlagKinds := by cases k <;> decide

@[simp] theorem State.modFlag_same (s : State) (b : BayNo) (k : BayFlag) (f : Flag → Flag) :
    (s.modFlag b k f).flag b k = f (s.flag b k) := by
  unfold State.flag State.modFlag
  rw [State.modFlags_flagsAt_same]
  exact Vector.getElem_set_self _

@[simp] theorem State.modFlag_otherKind (s : State) (b : BayNo) {j k : BayFlag} (f : Flag → Flag) (h : j ≠ k) :
    (s.modFlag b k f).flag b j = s.flag b j := by
  have : k.code.val ≠ j.code.val := fun e => h (BayFlag.code_inj.mp (Fin.ext e.symm))
  unfold State.flag State.modFlag
  rw [State.modFlags_flagsAt_same]
  exact Vector.getElem_set_ne _ _ this

@[simp] theorem State.modFlag_otherBay (s : State) {b c : BayNo} (j k : BayFlag) (f : Flag → Flag) (h : c ≠ b) :
    (s.modFlag b k f).flag c j = s.flag c j := by
  unfold State.flag State.modFlag
  rw [State.modFlags_flagsAt_ne _ _ h]

@[simp] theorem State.modHallFlag_same (s : State) (k : HallFlag) (f : Flag → Flag) :
    (s.modHallFlag k f).hallFlag k = f (s.hallFlag k) := by
  unfold State.hallFlag State.modHallFlag
  exact Vector.getElem_set_self _

@[simp] theorem State.modHallFlag_other (s : State) {j k : HallFlag} (f : Flag → Flag) (h : j ≠ k) :
    (s.modHallFlag k f).hallFlag j = s.hallFlag j := by
  have : k.code.val ≠ j.code.val := fun e => h (HallFlag.code_inj.mp (Fin.ext e.symm))
  exact Vector.getElem_set_ne k.code.isLt j.code.isLt this

/-! ### Raisings -/

theorem Flag.raise_count (f : Flag) (r : Reason) (q keep : Bool) : (f.raise r q keep).count = min (f.count + 1) 255 := by
  show (if f.count < 255 then f.count + 1 else 255) = _
  split <;> omega

@[simp] theorem raiseFlag_hallFlag (s : State) (b : BayNo) (k : BayFlag) (r : Reason) (q : Bool) (j : HallFlag) :
    (raiseFlag s b k r q).hallFlag j = s.hallFlag j := rfl
@[simp] theorem raiseFlag_same (s : State) (b : BayNo) (k : BayFlag) (r : Reason) (q : Bool) :
    (raiseFlag s b k r q).flag b k = (s.flag b k).raise r q (k == .lamp) := State.modFlag_same s b k (fun f => f.raise r q (k == .lamp))
@[simp] theorem raiseFlag_otherKind (s : State) (b : BayNo) {j k : BayFlag} (r : Reason) (q : Bool) (h : j ≠ k) :
    (raiseFlag s b k r q).flag b j = s.flag b j := State.modFlag_otherKind s b (fun f => f.raise r q (k == .lamp)) h
@[simp] theorem raiseFlag_otherBay (s : State) {b c : BayNo} (j k : BayFlag) (r : Reason) (q : Bool) (h : c ≠ b) :
    (raiseFlag s b k r q).flag c j = s.flag c j := State.modFlag_otherBay s j k (fun f => f.raise r q (k == .lamp)) h
@[simp] theorem raiseFlag_attn (s : State) (b : BayNo) (k : BayFlag) (r : Reason) (q : Bool) :
    (raiseFlag s b k r q).hli.attn = (s.hli.attn || s.hli.mask.getLsbD k.code.val) := rfl
@[simp] theorem raiseFlag_mask (s : State) (b : BayNo) (k : BayFlag) (r : Reason) (q : Bool) :
    (raiseFlag s b k r q).hli.mask = s.hli.mask := rfl

@[simp] theorem raiseHallFlag_flag (s : State) (k : HallFlag) (r : Reason) (b : BayNo) (j : BayFlag) :
    (raiseHallFlag s k r).flag b j = s.flag b j := rfl
@[simp] theorem raiseHallFlag_same (s : State) (k : HallFlag) (r : Reason) :
    (raiseHallFlag s k r).hallFlag k = ⟨true, r, false, min ((s.hallFlag k).count + 1) 255⟩ := by
  refine (State.modHallFlag_same s k (fun f => f.raise r false false)).trans ?_
  rw [← Flag.raise_count (s.hallFlag k) r false false]
  rfl
@[simp] theorem raiseHallFlag_other (s : State) {j k : HallFlag} (r : Reason) (h : j ≠ k) :
    (raiseHallFlag s k r).hallFlag j = s.hallFlag j := State.modHallFlag_other s (fun f => f.raise r false false) h
@[simp] theorem raiseHallFlag_attn (s : State) (k : HallFlag) (r : Reason) :
    (raiseHallFlag s k r).hli.attn = (s.hli.attn || s.hli.mask.getLsbD (13 + k.code.val)) := rfl
@[simp] theorem raiseHallFlag_mask (s : State) (k : HallFlag) (r : Reason) :
    (raiseHallFlag s k r).hli.mask = s.hli.mask := rfl

/-! ### ATTN -/

theorem State.anyEnabledFlag_iff (s : State) : s.anyEnabledFlag = true ↔
    (∃ k, (s.hallFlag k).set = true ∧ s.hli.enables (13 + k.code.val) = true) ∨
    (∃ b k, (s.flag b k).set = true ∧ s.hli.enables k.code.val = true) := by
  simp only [State.anyEnabledFlag, Bool.or_eq_true, List.any_eq_true, Bool.and_eq_true]
  constructor
  · rintro (⟨k, -, h⟩ | ⟨b, -, k, -, h⟩)
    · exact .inl ⟨k, h⟩
    · exact .inr ⟨b, k, h⟩
  · rintro (⟨k, h⟩ | ⟨b, k, h⟩)
    · exact .inl ⟨k, mem_hallFlagKinds k, h⟩
    · exact .inr ⟨b, mem_allBays b, k, mem_bayFlagKinds k, h⟩

theorem Bool.eq_or_of_iff {x y z : Bool} (h : x = true ↔ y = true ∨ z = true) : x = (y || z) := by
  rw [Bool.eq_iff_iff, Bool.or_eq_true]; exact h

theorem raiseFlag_attnFollows (b : BayNo) (k : BayFlag) (r : Reason) (q : Bool) {s : State} (h : s.AttnFollows) :
    (raiseFlag s b k r q).AttnFollows := by
  show (s.hli.attn || s.hli.mask.getLsbD k.code.val) = _
  rw [show s.hli.attn = s.anyEnabledFlag from h]
  refine (Bool.eq_or_of_iff ?_).symm
  rw [State.anyEnabledFlag_iff, State.anyEnabledFlag_iff]
  constructor
  · rintro (h | ⟨c, j, hj, he⟩)
    · exact .inl (.inl h)
    · by_cases hc : c = b
      · by_cases hk : j = k
        · subst hk; exact .inr he
        · subst hc; rw [raiseFlag_otherKind _ _ _ _ hk] at hj; exact .inl (.inr ⟨c, j, hj, he⟩)
      · rw [raiseFlag_otherBay _ _ _ _ _ hc] at hj; exact .inl (.inr ⟨c, j, hj, he⟩)
  · rintro ((h | ⟨c, j, hj, he⟩) | h)
    · exact .inl h
    · refine .inr ⟨c, j, ?_, he⟩
      by_cases hc : c = b
      · by_cases hk : j = k
        · subst hc hk; rw [raiseFlag_same]; rfl
        · subst hc; rw [raiseFlag_otherKind _ _ _ _ hk]; exact hj
      · rw [raiseFlag_otherBay _ _ _ _ _ hc]; exact hj
    · exact .inr ⟨b, k, by rw [raiseFlag_same]; rfl, h⟩

theorem raiseHallFlag_attnFollows (k : HallFlag) (r : Reason) {s : State} (h : s.AttnFollows) :
    (raiseHallFlag s k r).AttnFollows := by
  show (s.hli.attn || s.hli.mask.getLsbD (13 + k.code.val)) = _
  rw [show s.hli.attn = s.anyEnabledFlag from h]
  refine (Bool.eq_or_of_iff ?_).symm
  rw [State.anyEnabledFlag_iff, State.anyEnabledFlag_iff]
  constructor
  · rintro (⟨j, hj, he⟩ | h)
    · by_cases hk : j = k
      · subst hk; exact .inr he
      · rw [raiseHallFlag_other _ _ hk] at hj; exact .inl (.inl ⟨j, hj, he⟩)
    · exact .inl (.inr h)
  · rintro ((⟨j, hj, he⟩ | h) | h)
    · refine .inl ⟨j, ?_, he⟩
      by_cases hk : j = k
      · subst hk; rw [raiseHallFlag_same]
      · rw [raiseHallFlag_other _ _ hk]; exact hj
    · exact .inr h
    · exact .inl ⟨k, by rw [raiseHallFlag_same], h⟩

theorem attnFollows_of_quiet {s t : State} (h : t.quiet = s.quiet) (hs : s.AttnFollows) : t.AttnFollows := by
  have h1 : t.hli = s.hli := congrArg Quiet.hli h
  have h2 : t.flags = s.flags := congrArg Quiet.flags h
  have h3 : t.hallFlags = s.hallFlags := congrArg Quiet.hallFlags h
  simp only [State.AttnFollows, State.anyEnabledFlag, State.flag, State.flagsAt, State.hallFlag, h1, h2, h3] at hs ⊢
  exact hs

/-- Every notice keeps ATTN with the flags. -/
theorem handle_attn (n : Notice) {s : State} (h : s.AttnFollows) : (handle n s).1.AttnFollows := by
  by_cases hq : n.isLoud = false
  · exact attnFollows_of_quiet (handle_quiet n s hq) h
  · cases n with
    | raise b k r q => exact raiseFlag_attnFollows b k r q h
    | raiseHall k r => exact raiseHallFlag_attnFollows k r h
    | lateCheck id => cases id <;> exact h
    | departed b c => exact h
    | _ => exact absurd rfl hq

theorem run_attn (n : Nat) (ns : List Notice) {s : State} (h : s.AttnFollows) : (run n ns s).AttnFollows := by
  induction n generalizing ns s with
  | zero => cases ns <;> exact h
  | succ n ih =>
    cases ns with
    | nil => exact h
    | cons x xs => exact ih _ (handle_attn x h)

theorem perform_attn {r : Reaction} (h : r.1.AttnFollows) : (perform r).AttnFollows := run_attn _ _ h

/-! ### Flags stay set -/

/-- Every flag that is set in one state is set in another. -/
def KeepsFlags (s t : State) : Prop :=
  (∀ b k, (s.flag b k).set = true → (t.flag b k).set = true) ∧ ∀ k, (s.hallFlag k).set = true → (t.hallFlag k).set = true

theorem KeepsFlags.refl (s : State) : KeepsFlags s s := ⟨fun _ _ h => h, fun _ h => h⟩
theorem KeepsFlags.trans {s t u : State} (h : KeepsFlags s t) (h' : KeepsFlags t u) : KeepsFlags s u :=
  ⟨fun b k x => h'.1 b k (h.1 b k x), fun k x => h'.2 k (h.2 k x)⟩

theorem keepsFlags_of_eq {s t : State} (h : t.flags = s.flags) (h' : t.hallFlags = s.hallFlags) : KeepsFlags s t := by
  constructor
  · intro b k hs; simpa only [State.flag, State.flagsAt, h] using hs
  · intro k hs; simpa only [State.hallFlag, h'] using hs

theorem raiseFlag_keeps (s : State) (b : BayNo) (k : BayFlag) (r : Reason) (q : Bool) :
    KeepsFlags s (raiseFlag s b k r q) := by
  refine ⟨fun c j h => ?_, fun _ h => h⟩
  by_cases hc : c = b
  · by_cases hk : j = k
    · subst hc hk; rw [raiseFlag_same]; rfl
    · subst hc; rwa [raiseFlag_otherKind _ _ _ _ hk]
  · rwa [raiseFlag_otherBay _ _ _ _ _ hc]

theorem raiseHallFlag_keeps (s : State) (k : HallFlag) (r : Reason) : KeepsFlags s (raiseHallFlag s k r) := by
  refine ⟨fun _ _ h => h, fun j h => ?_⟩
  by_cases hk : j = k
  · subst hk; rw [raiseHallFlag_same]
  · rwa [raiseHallFlag_other _ _ hk]

/-- No notice clears a flag. -/
theorem handle_keepsFlags (n : Notice) (s : State) : KeepsFlags s (handle n s).1 := by
  by_cases hq : n.isLoud = false
  · have h := handle_quiet n s hq
    exact keepsFlags_of_eq (congrArg Quiet.flags h) (congrArg Quiet.hallFlags h)
  · cases n with
    | raise b k r q => exact raiseFlag_keeps s b k r q
    | raiseHall k r => exact raiseHallFlag_keeps s k r
    | lateCheck id => cases id <;> exact KeepsFlags.refl s
    | departed b c => exact KeepsFlags.refl s
    | _ => exact absurd rfl hq

theorem run_keepsFlags (n : Nat) (ns : List Notice) (s : State) : KeepsFlags s (run n ns s) := by
  induction n generalizing ns s with
  | zero => cases ns <;> exact KeepsFlags.refl s
  | succ n ih =>
    cases ns with
    | nil => exact KeepsFlags.refl s
    | cons x xs => exact (handle_keepsFlags x s).trans (ih _ _)

theorem perform_keepsFlags (r : Reaction) : KeepsFlags r.1 (perform r) := run_keepsFlags _ _ _

end Sys2Proof.Machine
end

