-- ==== Sys2Proof/Laws/PerInstr.lean ====
section
/-! SUPPORT. The family `Encoding`, one lemma per command: the frame of a request row carries a KIND that R192 lists and at
most fifteen payload bytes, and the row is well formed. -/

namespace Sys2Proof.Laws.Encoding

/-- What the frame of a request row is like (R178, R180, R192, R196). -/
def Statement (i : Instr) : Prop :=
  ∀ f, encodeRequest i = some f →
    i.wellFormed = true ∧ requestKinds.contains f.kind.toNat = true ∧ f.kind.toNat < 0x80 ∧ f.payload.length ≤ 15

theorem powerOn : Statement (.powerOn) := fun _ h => nomatch h

theorem hostFrameReceived (kind : Byte) (body : CheckedPayload) :
    Statement (.hostFrameReceived kind body) := fun _ h => nomatch h

theorem hostFrameFault (cause : FrameFault) : Statement (.hostFrameFault cause) := fun _ h => nomatch h

theorem hostFrameGap : Statement (.hostFrameGap) := fun _ h => nomatch h

theorem replySent : Statement (.replySent) := fun _ h => nomatch h

theorem unknownKind (kind : Byte) : Statement (.unknownKind kind) := fun _ h => nomatch h

theorem ident : Statement (.ident) := by
  intro f h
  cases h
  exact ⟨rfl, rfl, Nat.le_of_ble_eq_true rfl, Nat.le_of_ble_eq_true rfl⟩

theorem restart : Statement (.restart) := by
  intro f h
  cases h
  exact ⟨rfl, rfl, Nat.le_of_ble_eq_true rfl, Nat.le_of_ble_eq_true rfl⟩

theorem eventsFetch : Statement (.eventsFetch) := by
  intro f h
  cases h
  exact ⟨rfl, rfl, Nat.le_of_ble_eq_true rfl, Nat.le_of_ble_eq_true rfl⟩

theorem eventMask (mask : Option (BitVec 24)) : Statement (.eventMask mask) := by
  intro f h
  cases mask <;> (cases h; exact ⟨rfl, rfl, Nat.le_of_ble_eq_true rfl, Nat.le_of_ble_eq_true rfl⟩)

theorem settingsWrite (number : Byte) (value : Word32) : Statement (.settingsWrite number value) := by
  intro f h
  cases h
  exact ⟨rfl, rfl, Nat.le_of_ble_eq_true rfl, Nat.le_of_ble_eq_true rfl⟩

theorem settingsRead (number : Byte) : Statement (.settingsRead number) := by
  intro f h
  cases h
  exact ⟨rfl, rfl, Nat.le_of_ble_eq_true rfl, Nat.le_of_ble_eq_true rfl⟩

theorem setTime (time : Word32) : Statement (.setTime time) := by
  intro f h
  cases h
  exact ⟨rfl, rfl, Nat.le_of_ble_eq_true rfl, Nat.le_of_ble_eq_true rfl⟩

theorem timeRead : Statement (.timeRead) := by
  intro f h
  cases h
  exact ⟨rfl, rfl, Nat.le_of_ble_eq_true rfl, Nat.le_of_ble_eq_true rfl⟩

theorem bayEnable (bay : Byte) : Statement (.bayEnable bay) := by
  intro f h
  cases h
  exact ⟨rfl, rfl, Nat.le_of_ble_eq_true rfl, Nat.le_of_ble_eq_true rfl⟩

theorem bayDisable (bay : Byte) : Statement (.bayDisable bay) := by
  intro f h
  cases h
  exact ⟨rfl, rfl, Nat.le_of_ble_eq_true rfl, Nat.le_of_ble_eq_true rfl⟩

theorem bayStatus (bay : Byte) : Statement (.bayStatus bay) := by
  intro f h
  cases h
  exact ⟨rfl, rfl, Nat.le_of_ble_eq_true rfl, Nat.le_of_ble_eq_true rfl⟩

theorem linkRead (bay : Byte) : Statement (.linkRead bay) := by
  intro f h
  cases h
  exact ⟨rfl, rfl, Nat.le_of_ble_eq_true rfl, Nat.le_of_ble_eq_true rfl⟩

theorem redock (bay : Byte) : Statement (.redock bay) := by
  intro f h
  cases h
  exact ⟨rfl, rfl, Nat.le_of_ble_eq_true rfl, Nat.le_of_ble_eq_true rfl⟩

theorem profileRead (bay : Byte) : Statement (.profileRead bay) := by
  intro f h
  cases h
  exact ⟨rfl, rfl, Nat.le_of_ble_eq_true rfl, Nat.le_of_ble_eq_true rfl⟩

theorem mapClear : Statement (.mapClear) := by
  intro f h
  cases h
  exact ⟨rfl, rfl, Nat.le_of_ble_eq_true rfl, Nat.le_of_ble_eq_true rfl⟩

theorem mapAppend (entry : MapWords) : Statement (.mapAppend entry) := by
  intro f h
  cases h
  exact ⟨rfl, rfl, Nat.le_of_ble_eq_true rfl, Nat.le_of_ble_eq_true rfl⟩

theorem mapInsert (position : Byte) (entry : MapWords) : Statement (.mapInsert position entry) := by
  intro f h
  cases h
  exact ⟨rfl, rfl, Nat.le_of_ble_eq_true rfl, Nat.le_of_ble_eq_true rfl⟩

theorem mapRead : Statement (.mapRead) := by
  intro f h
  cases h
  exact ⟨rfl, rfl, Nat.le_of_ble_eq_true rfl, Nat.le_of_ble_eq_true rfl⟩

theorem faultScan (bay : Byte) : Statement (.faultScan bay) := by
  intro f h
  cases h
  exact ⟨rfl, rfl, Nat.le_of_ble_eq_true rfl, Nat.le_of_ble_eq_true rfl⟩

theorem faultsRead (bay : Byte) : Statement (.faultsRead bay) := by
  intro f h
  cases h
  exact ⟨rfl, rfl, Nat.le_of_ble_eq_true rfl, Nat.le_of_ble_eq_true rfl⟩

theorem ambientSet (temperature : Word16) : Statement (.ambientSet temperature) := by
  intro f h
  cases h
  exact ⟨rfl, rfl, Nat.le_of_ble_eq_true rfl, Nat.le_of_ble_eq_true rfl⟩

theorem heatRead (bay : Byte) : Statement (.heatRead bay) := by
  intro f h
  cases h
  exact ⟨rfl, rfl, Nat.le_of_ble_eq_true rfl, Nat.le_of_ble_eq_true rfl⟩

theorem shedEnter : Statement (.shedEnter) := by
  intro f h
  cases h
  exact ⟨rfl, rfl, Nat.le_of_ble_eq_true rfl, Nat.le_of_ble_eq_true rfl⟩

theorem shedLeave : Statement (.shedLeave) := by
  intro f h
  cases h
  exact ⟨rfl, rfl, Nat.le_of_ble_eq_true rfl, Nat.le_of_ble_eq_true rfl⟩

theorem budgetRead : Statement (.budgetRead) := by
  intro f h
  cases h
  exact ⟨rfl, rfl, Nat.le_of_ble_eq_true rfl, Nat.le_of_ble_eq_true rfl⟩

theorem lampStart (bay mode passes : Byte) : Statement (.lampStart bay mode passes) := by
  intro f h
  cases h
  exact ⟨rfl, rfl, Nat.le_of_ble_eq_true rfl, Nat.le_of_ble_eq_true rfl⟩

theorem lampAdvance (bay : Byte) : Statement (.lampAdvance bay) := by
  intro f h
  cases h
  exact ⟨rfl, rfl, Nat.le_of_ble_eq_true rfl, Nat.le_of_ble_eq_true rfl⟩

theorem lampAbort (bay : Byte) : Statement (.lampAbort bay) := by
  intro f h
  cases h
  exact ⟨rfl, rfl, Nat.le_of_ble_eq_true rfl, Nat.le_of_ble_eq_true rfl⟩

theorem lampRead (bay : Byte) : Statement (.lampRead bay) := by
  intro f h
  cases h
  exact ⟨rfl, rfl, Nat.le_of_ble_eq_true rfl, Nat.le_of_ble_eq_true rfl⟩

theorem departureAdd (id : Word16) (bay : Byte) (fields : DepartureWords) (waivers : Byte) : Statement (.departureAdd id bay fields waivers) := by
  intro f h
  cases h
  exact ⟨rfl, rfl, Nat.le_of_ble_eq_true rfl, Nat.le_of_ble_eq_true rfl⟩

theorem departureAmend (id : Word16) (fields : DepartureWords) : Statement (.departureAmend id fields) := by
  intro f h
  cases h
  exact ⟨rfl, rfl, Nat.le_of_ble_eq_true rfl, Nat.le_of_ble_eq_true rfl⟩

theorem departureCancel (id : Word16) : Statement (.departureCancel id) := by
  intro f h
  cases h
  exact ⟨rfl, rfl, Nat.le_of_ble_eq_true rfl, Nat.le_of_ble_eq_true rfl⟩

theorem departureWaive (id : Word16) (waivers : Byte) : Statement (.departureWaive id waivers) := by
  intro f h
  cases h
  exact ⟨rfl, rfl, Nat.le_of_ble_eq_true rfl, Nat.le_of_ble_eq_true rfl⟩

theorem departureRead (id : Word16) : Statement (.departureRead id) := by
  intro f h
  cases h
  exact ⟨rfl, rfl, Nat.le_of_ble_eq_true rfl, Nat.le_of_ble_eq_true rfl⟩

theorem departureList (start : Byte) : Statement (.departureList start) := by
  intro f h
  cases h
  exact ⟨rfl, rfl, Nat.le_of_ble_eq_true rfl, Nat.le_of_ble_eq_true rfl⟩

theorem holdPush (bay reasons : Byte) : Statement (.holdPush bay reasons) := by
  intro f h
  cases h
  exact ⟨rfl, rfl, Nat.le_of_ble_eq_true rfl, Nat.le_of_ble_eq_true rfl⟩

theorem holdPop (bay : Byte) : Statement (.holdPop bay) := by
  intro f h
  cases h
  exact ⟨rfl, rfl, Nat.le_of_ble_eq_true rfl, Nat.le_of_ble_eq_true rfl⟩

theorem hallHoldPush (reasons : Byte) : Statement (.hallHoldPush reasons) := by
  intro f h
  cases h
  exact ⟨rfl, rfl, Nat.le_of_ble_eq_true rfl, Nat.le_of_ble_eq_true rfl⟩

theorem hallHoldPop : Statement (.hallHoldPop) := by
  intro f h
  cases h
  exact ⟨rfl, rfl, Nat.le_of_ble_eq_true rfl, Nat.le_of_ble_eq_true rfl⟩

theorem holdsRead (bay : Byte) : Statement (.holdsRead bay) := by
  intro f h
  cases h
  exact ⟨rfl, rfl, Nat.le_of_ble_eq_true rfl, Nat.le_of_ble_eq_true rfl⟩

theorem laneClose (lane : Byte) : Statement (.laneClose lane) := by
  intro f h
  cases h
  exact ⟨rfl, rfl, Nat.le_of_ble_eq_true rfl, Nat.le_of_ble_eq_true rfl⟩

theorem laneOpen (lane : Byte) : Statement (.laneOpen lane) := by
  intro f h
  cases h
  exact ⟨rfl, rfl, Nat.le_of_ble_eq_true rfl, Nat.le_of_ble_eq_true rfl⟩

theorem lanesRead : Statement (.lanesRead) := by
  intro f h
  cases h
  exact ⟨rfl, rfl, Nat.le_of_ble_eq_true rfl, Nat.le_of_ble_eq_true rfl⟩

theorem rawInputChange (input : FieldInput) (level : Bool) : Statement (.rawInputChange input level) := fun _ h => nomatch h

theorem presenceChange (b : BayNo) : Statement (.presenceChange b) := fun _ h => nomatch h

theorem plugChange (b : BayNo) : Statement (.plugChange b) := fun _ h => nomatch h

theorem shedLineChange : Statement (.shedLineChange) := fun _ h => nomatch h

theorem gatePassage (l : Lane) : Statement (.gatePassage l) := fun _ h => nomatch h

theorem meterSample (b : BayNo) (shore auxVolts auxAmps : Int) : Statement (.meterSample b shore auxVolts auxAmps) := fun _ h => nomatch h

theorem overdrawTrip (b : BayNo) : Statement (.overdrawTrip b) := fun _ h => nomatch h

theorem openWaitTimer (b : BayNo) : Statement (.openWaitTimer b) := fun _ h => nomatch h

theorem plugTimer (b : BayNo) : Statement (.plugTimer b) := fun _ h => nomatch h

theorem clockTick : Statement (.clockTick) := fun _ h => nomatch h

theorem lineQuietSend (b : BayNo) : Statement (.lineQuietSend b) := fun _ h => nomatch h

theorem requestSent (b : BayNo) : Statement (.requestSent b) := fun _ h => nomatch h

theorem replyFrame (b : ReplyStart) (kind : Byte) (payload : List Byte) (check : Byte) :
    Statement (.replyFrame b kind payload check) := fun _ h => nomatch h

theorem replyCharacterError (b : BayNo) : Statement (.replyCharacterError b) := fun _ h => nomatch h

theorem noReply (b : BayNo) : Statement (.noReply b) := fun _ h => nomatch h

theorem replyGap (b : BayNo) : Statement (.replyGap b) := fun _ h => nomatch h

theorem reprobeTimer (b : BayNo) : Statement (.reprobeTimer b) := fun _ h => nomatch h

theorem pollTimer (b : BayNo) : Statement (.pollTimer b) := fun _ h => nomatch h

theorem staleTimer (b : BayNo) : Statement (.staleTimer b) := fun _ h => nomatch h

theorem rampTimer : Statement (.rampTimer) := fun _ h => nomatch h

theorem confirmTimer : Statement (.confirmTimer) := fun _ h => nomatch h

theorem baselineComplete (b : BayNo) (amps : FourSamples) : Statement (.baselineComplete b amps) := fun _ h => nomatch h

theorem settleTimer (b : BayNo) : Statement (.settleTimer b) := fun _ h => nomatch h

theorem litComplete (b : BayNo) (amps volts : FourSamples) : Statement (.litComplete b amps volts) := fun _ h => nomatch h

theorem validityTimer (b : BayNo) : Statement (.validityTimer b) := fun _ h => nomatch h

theorem laneTimer (l : Lane) : Statement (.laneTimer l) := fun _ h => nomatch h

theorem sofCharacter : Statement (.sofCharacter) := fun _ h => nomatch h

theorem replyStart (b : ReplyStart) : Statement (.replyStart b) := fun _ h => nomatch h

end Sys2Proof.Laws.Encoding
end

