-- ==== Sys2Proof/Tests/Slice0.lean ====
section
/-! SUPPORT. The model's own tests: the manual's worked figures, ill-formed commands refused, request frames written out
byte by byte, one-step tests of the rows, and for each statement with hypotheses a state and operands that meet them. -/

namespace Sys2Proof.Tests

open Sys2Proof Sys2Proof.Machine

/-! ## Small states and what a step leaves -/

/-- The state a command leaves. -/
def after (c : Instr) (s : State) : State := match exec c s with | .next t => t | .fault _ | .refused _ => s

/-- The reply being sent after a command. -/
def sent (c : Instr) (s : State) : Option HostFrame := (after c s).hli.sending

/-- The clock SET at depot time 1,000. -/
def timed : State := State.reset.modClock (fun _ => ⟨1000, true, 0⟩)

/-- Bay 2 enabled and occupied, its plug out. -/
def arrived : State :=
  (timed.modBfe 2 (fun f => { f with enabled := true, rawPresence := true, presence := true })).setClear 2 .arrived

/-- Bay 2 with a coach docked: PREPARING, its link ACTIVE, its contactor closed. The coach has four stages of 6.0 kW, a
cabin of 600 kJ/K and 250 W/K, and a checkable circuit 3 of 21.0 W with a tolerance of 20 %. -/
def docked : State :=
  ((((arrived.modBfe 2 (fun f => { f with rawPlug := true, plug := true, contactor := true, latch := true })).modClc 2
      (fun c => { c with link := .active })).modDku 2 (fun d => { d with
        state := .docked
        profile := { Profile.empty with
          identity := some ⟨4410, 1, true⟩, heater := some (4, 60), cabin := some (600, 250)
          lamps := [⟨3, .front, 210, 20, true⟩] } })).modRow 2 (fun r => { r with power := 60 })).setClear 2 .preparing

/-- A departure of bay 2 at depot time 24,000 with a target of 20.0 °C. -/
def departure7 : Departure := ⟨7, 2, 24000, some 200, none, false, .either, 10, .none, false⟩

/-- The docked bay with departure 7 active. -/
def scheduled : State :=
  { (docked.modDpm 2 (fun d => { d with active := some 7 })) with departures := [departure7] }

/-- The docked bay with a lamp run whose step stands in a phase. -/
def lampStep (p : StepPhase) : State :=
  docked.modLcs 2 (fun l => { l with
    status := .running, sequence := [3], phase := p, baseline := [312, 311, 313, 312]
    settle := if p = .settle then some 300 else none
    results := [⟨3, .front, 210, 20, .notChecked, none, 0, none⟩] })

/-- The docked bay with a request in flight. -/
def inFlight (f : InFlight) : State := docked.modClc 2 (fun c => { c with inflight := some f })

/-- The docked bay with a granted stage and a stage-up in flight. -/
def stagingUp (p : StagePhase) : State :=
  (docked.modRow 2 (fun r => { r with
    cls := .heating, rankKey := some 24000, planRequest := 4, requested := 4, granted := 2, inFlight := true
    commanded := 2 })).modFeeder (fun f => { f with gateOpen := false, stageUp := some ⟨2, 2, 0, p⟩ })

/-- Lane A held by bay 2. -/
def laneHeld (st : LaneState) (t : Timer) : State := docked.modLane .a (fun _ => ⟨st, some 2, false, t⟩)

/-- Bay 2 in CLEARING on lane A with both timers running. -/
def clearing : State :=
  ((laneHeld .granted none).setClear 2 .clearing).modClr 2 (fun c =>
    { c with plugTimer := some 180000, openWait := some 10000 })

/-- Four equal samples. -/
def four (x : Int) : FourSamples := ⟨x, x, x, x⟩

/-! ## Check sequences (R190: the check values over "123456789") -/

theorem test_crc16_check_value : crc16 [0x31, 0x32, 0x33, 0x34, 0x35, 0x36, 0x37, 0x38, 0x39] = 0x29B1 := by
  decide +kernel

theorem test_crc8_check_value : crc8 [0x31, 0x32, 0x33, 0x34, 0x35, 0x36, 0x37, 0x38, 0x39] = 0xF4 := by decide +kernel

/-! ## Ill-formed commands are refused (R178, R180, R18) -/

theorem test_wellFormed_refuses_long_host_frame :
    (Instr.hostFrameReceived 0x01 ⟨List.replicate 1025 0, 0⟩).wellFormed = false ∧
    (Instr.hostFrameReceived 0x01 ⟨List.replicate 1024 0, 0⟩).wellFormed = true := by
  decide +kernel

theorem test_wellFormed_refuses_unknownKind_of_a_listed_kind :
    (Instr.unknownKind 0x01).wellFormed = false ∧ (Instr.unknownKind 0x09).wellFormed = true := by decide

theorem test_wellFormed_refuses_long_reply :
    (Instr.replyFrame ⟨2, 0xA5⟩ 0x91 (List.replicate 33 0) 0).wellFormed = false ∧
    (Instr.replyFrame ⟨2, 0xA5⟩ 0x91 (List.replicate 32 0) 0).wellFormed = true := by decide

/-! ## Request frames, byte by byte (R192, R196) -/

/-- Host link: SETTINGS_WRITE of setting 4 with 60: KIND 05, number 04, value 3C 00 00 00. -/
theorem test_decode_settingsWrite : decodeRequest ⟨0x05, [0x04, 0x3C, 0x00, 0x00, 0x00]⟩ = .ok (.settingsWrite 4 60) := rfl

/-- Host link: EVENT_MASK with 0x020104: bytes 04 01 02. -/
theorem test_decode_eventMask : decodeRequest ⟨0x04, [0x04, 0x01, 0x02]⟩ = .ok (.eventMask (some 0x020104)) := rfl

/-- Bays: REDOCK of bay 13. -/
theorem test_decode_redock : decodeRequest ⟨0x14, [0x0D]⟩ = .ok (.redock 13) := rfl

/-- Faults: MAP_INSERT at position 1 of codes 2000 (07D0) to 2099 (0833), any source, BLOCKING, no heat-stop. -/
theorem test_decode_mapInsert :
    decodeRequest ⟨0x22, [0x01, 0xD0, 0x07, 0x33, 0x08, 0xFF, 0x00, 0x00]⟩ =
      .ok (.mapInsert 1 ⟨2000, 2099, 0xFF, 0, 0⟩) := rfl

/-- Heat: AMBIENT_SET of -12.0 °C, -120 in two's complement, FF88, low byte first. -/
theorem test_decode_ambientSet : decodeRequest ⟨0x30, [0x88, 0xFF]⟩ = .ok (.ambientSet (BitVec.ofInt 16 (-120))) := rfl

/-- Lamps: LAMP_START of bay 8 in mode STEP with two passes. -/
theorem test_decode_lampStart : decodeRequest ⟨0x40, [0x08, 0x01, 0x02]⟩ = .ok (.lampStart 8 1 2) := rfl

/-- Departures: DEPARTURE_ADD of id 51, bay 1, all three flags, time 24,000 (5DC0), target 20.0 °C (00C8), fleet number
4410 (113A), lane preference 2, lead 10, waiver set 5. -/
theorem test_decode_departureAdd :
    decodeRequest ⟨0x50, [0x33, 0x00, 0x01, 0x07, 0xC0, 0x5D, 0x00, 0x00, 0xC8, 0x00, 0x3A, 0x11, 0x02, 0x0A, 0x05]⟩ =
      .ok (.departureAdd 51 1 ⟨7, 24000, 200, 4410, 2, 10⟩ 5) := rfl

/-- Holds and lanes: HOLD_PUSH on bay 9 of reason bit 1, LANE_OPEN of lane B. -/
theorem test_decode_hold_and_lane :
    decodeRequest ⟨0x60, [0x09, 0x02]⟩ = .ok (.holdPush 9 2) ∧ decodeRequest ⟨0x71, [0x01]⟩ = .ok (.laneOpen 1) :=
  ⟨rfl, rfl⟩

/-- A KIND that is not listed and a payload of the wrong length (R180). -/
theorem test_decode_refusals :
    decodeRequest ⟨0x09, []⟩ = .error .unknownKind ∧ decodeRequest ⟨0x14, []⟩ = .error .format := by
  constructor <;> rfl

/-- A bay-link LAMP request of circuit 3 ON: SYNC A5, LEN 02, KIND 15, 03 01, CHECK over LEN to payload (R18, R198); the
CHECK was computed by hand from R190's polynomial. -/
theorem test_bay_request_frame : (BayRequest.lamp 3 true).frame = [0xA5, 0x02, 0x15, 0x03, 0x01, 0x76] := by decide +kernel

/-- The reply to IDENT: SOF 7E, LEN 06 00, KIND 81, OK, the identity, the CRC-16 over LEN to payload, low byte first
(R178, R190); the CRC 591A was computed outside the model from R190's polynomial. -/
theorem test_reply_frame : (after .ident docked).hli.lineOut =
    [0x7E, 0x06, 0x00, 0x81, 0x00, 0xA1, 0x47, 0x16, 0x0D, 0x03, 0x1A, 0x59] := by decide +kernel

/-! ## The manual's worked figures -/

/-- R9: 2 stages of 6.0 kW allow 14.4 kW, 1 stage of 3.0 kW allows 4.0 kW. -/
theorem test_allowed_load : allowedLoad 120 = 144 ∧ allowedLoad 30 = 40 := by decide

/-- Chapter 5, The computation worked, first coach. -/
theorem test_heat_computation :
    let p := Plan.empty.compute ⟨4, 60, some (600, 250), -80, -120, 10, 180, 600, 250⟩ 200 24000
    p.energy = 16800 ∧ p.loss = 4500 ∧ p.netPower = 19500 ∧ p.time = 862 ∧ p.lead = 25 ∧ p.start = 22500 ∧
      p.holdingStages = 2 ∧ p.holdingPoint = 23362 := by decide

/-- Chapter 5, the second coach: UNREACHABLE at the maximum lead, holding at its one stage. -/
theorem test_heat_computation_unreachable :
    let p := Plan.empty.compute ⟨1, 30, some (500, 400), -150, -200, 10, 180, 600, 250⟩ 200 24000
    p.loss = 9000 ∧ p.netPower = -6000 ∧ p.unreachable = true ∧ p.lead = 180 ∧ p.time = 10800 ∧ p.start = 13200 ∧
      p.holdingStages = 1 := by decide

/-- R108: a row of 6.0 kW stages stripped from 26.0 kW to a budget of 23.0 kW ends at 20.0 kW. -/
theorem test_forced_removal :
    let row := fun (n p : Nat) => { GrantRow.reset with cls := .heating, rankKey := some (24000 - n), granted := n, power := p }
    let s := ((State.reset.modRow 2 (fun _ => row 1 60)).modRow 5 (fun _ => row 4 50)).modFeeder
      (fun f => { f with budget := 230 })
    s.grantedLoad = 260 ∧ (forcedRemoval s).grantedLoad = 200 ∧ ((forcedRemoval s).rowAt 2).granted = 0 := by
  decide

/-- R116: a 6.0 kW stage is confirmed by a rise of 3.6 kW, a 0.5 kW stage by a rise of 0.3 kW. -/
theorem test_confirmation : confirms 36 0 60 = true ∧ confirms 35 0 60 = false ∧ confirms 13 10 5 = true ∧
    confirms 12 10 5 = false := by decide

/-- R132: baseline 312, 311, 313, 312, lit 399, 401, 400, 400 at 2758, 2762, 2760, 2760 give 24.3 W. -/
theorem test_lamp_power :
    lampPower (meanOfFour [312, 311, 313, 312]) (meanOfFour [399, 401, 400, 400]) (meanOfFour [2758, 2762, 2760, 2760]) = 243 ∧
      lampPower 312 860 2740 = 1502 := by decide

/-- R133: the two circuits of the examples, and both bounds of the window. -/
theorem test_lamp_outcome :
    lampOutcome 2760 243 210 20 = .pass ∧ lampOutcome 2740 1502 2000 20 = .low ∧ lampOutcome 2000 168 210 20 = .pass ∧
      lampOutcome 2000 252 210 20 = .pass ∧ lampOutcome 2000 253 210 20 = .high ∧ lampOutcome 1999 210 210 20 = .lowSupply ∧
      lampOutcome 2000 20 210 20 = .open := by decide

/-! ## One step of a row -/

theorem test_ident : sent .ident .reset = some ⟨0x81, [0, 0xA1, 0x47, 0x16, 0x0D, 3]⟩ := by decide

theorem test_unknownKind : sent (.unknownKind 0x09) .reset = some ⟨0x89, [3, 0]⟩ ∧
    sent (.unknownKind 0xC0) .reset = some ⟨0xFF, [3, 0]⟩ := by decide

/-- R182, R183: a fetch clears RESET and keeps CLOCK_UNSET while the clock is UNSET. -/
theorem test_eventsFetch :
    ((after .eventsFetch .reset).hallFlag .reset).set = false ∧
    ((after .eventsFetch .reset).hallFlag .clockUnset) = ⟨true, .plain, false, 0⟩ := by decide

/-- R184: with every mask bit 0 ATTN is negated though flags stand. -/
theorem test_eventMask : (after (.eventMask (some 0)) .reset).hli.attn = false := by decide

/-- R185: 500 written to setting 4 (10 to 300) is taken as 300. -/
theorem test_settingsWrite_clamps : sent (.settingsWrite 4 500) .reset = some ⟨0x85, [1, 4, 0x2C, 0x01, 0, 0]⟩ := by decide

theorem test_settingsRead : sent (.settingsRead 4) .reset =
    some ⟨0x86, [0, 30, 0, 0, 0, 10, 0, 0, 0, 0x2C, 0x01, 0, 0, 30, 0, 0, 0]⟩ := by decide

theorem test_setTime : (after (.setTime 86400) .reset).clock = ⟨86400, true, 0⟩ := by decide

theorem test_clockTick_wraps :
    (after .clockTick (State.reset.modClock (fun _ => ⟨4294967295, true, 999⟩))).clock = ⟨0, true, 0⟩ := by decide

/-- R5, R11: an enabled bay with nothing in it is EMPTY and its signal DARK. -/
theorem test_bayEnable : ((after (.bayEnable 2) .reset).clrAt 2).state = .empty ∧
    ((after (.bayEnable 2) .reset).bfeAt 2).aspect = .dark := by decide

theorem test_bayDisable : ((after (.bayDisable 2) docked).clrAt 2).state = .outOfService ∧
    ((after (.bayDisable 2) docked).bfeAt 2).latch = false ∧ ((after (.bayDisable 2) docked).clcAt 2).link = .down := by
  decide

/-- R38, R52, R54: a REDOCK leaves the bay PROBING with STAGE 0 in flight, its IDENT behind it and the contactor open. -/
theorem test_redock : ((after (.redock 2) docked).dkuAt 2).state = .probing ∧
    ((after (.redock 2) docked).clcAt 2).inflight = some ⟨.stage 0, some .heat, 1, .ready 100⟩ ∧
    ((after (.redock 2) docked).clcAt 2).readSlot = some .ident ∧
    ((after (.redock 2) docked).bfeAt 2).contactor = false := by decide

/-- R10: an undocking by plug-out clears the trip. -/
theorem test_plug_out_clears_the_trip :
    ((after (.plugChange 2) (docked.modBfe 2 (fun f => { f with tripped := true, plugTimer := some 0 }))).bfeAt 2).tripped =
      false := by decide

theorem test_mapInsert : (after (.mapInsert 0 ⟨1, 2, 0xFF, 0, 1⟩) (after (.mapAppend ⟨5, 6, 3, 1, 0⟩) .reset)).map =
    [⟨1, 2, none, .blocking, true⟩, ⟨5, 6, some 3, .advisory, false⟩] := by decide

theorem test_faultScan : ((after (.faultScan 2) docked).frdAt 2).scan.state = .counting := by decide

/-- R79: -50.0 °C is taken as -40.0 °C. -/
theorem test_ambientSet_clamps : sent (.ambientSet (BitVec.ofInt 16 (-500))) .reset = some ⟨0xB0, [1, 0x70, 0xFE]⟩ := by
  decide

theorem test_shedEnter : sent .shedEnter .reset = some ⟨0xB2, [0, 1, 0, 1]⟩ ∧ sent .shedLeave .reset = some ⟨0xB3, [3, 6]⟩ := by
  decide

/-- R123, R128: a run on a docked coach holds channel 0 in BASELINE. -/
theorem test_lampStart : sent (.lampStart 2 0 9) docked = some ⟨0xC0, [1, 4]⟩ ∧
    ((after (.lampStart 2 0 9) docked).lcsAt 2).phase = .baseline ∧
    ((after (.lampStart 2 0 9) docked).lcsAt 2).channel = some 0 := by decide

/-- R144, R146: a lead of 45 minutes is taken as 30; the bay's active departure is the record. -/
theorem test_departureAdd :
    ((after (.departureAdd 7 2 ⟨1, 24000, 200, 0, 2, 45⟩ 0) docked).dpmAt 2).active = some 7 ∧
    (after (.departureAdd 7 2 ⟨1, 24000, 200, 0, 2, 45⟩ 0) docked).departures.map Departure.lead = [30] := by
  decide

/-- R145: of two records of one time the one added first stands first. -/
theorem test_departure_order : (insertDeparture { departure7 with id := 9 } [departure7]).map Departure.id = [7, 9] := by
  decide

theorem test_departureCancel : ((after (.departureCancel 7) scheduled).dpmAt 2).active = none ∧
    (after (.departureCancel 7) scheduled).departures = [] := by decide

theorem test_holdPush : sent (.holdPush 2 0x05) docked = some ⟨0xE0, [0, 5, 1]⟩ := by decide

theorem test_laneClose_of_a_held_lane : sent (.laneClose 0) clearing = some ⟨0xF0, [0, 1, 1]⟩ := by decide

/-- R1: a raw presence level that differs starts the 2 s debounce time. -/
theorem test_rawInputChange : ((after (.rawInputChange (.presence 2) true) .reset).bfeAt 2).presenceTimer = some 2000 := by
  decide

/-- R2: a plug read without presence is OCCUPIED and in conflict. -/
theorem test_plugChange : ((after (.plugChange 2) (arrived.modBfe 2 (fun f => { f with
      presence := false, plugTimer := some 0 }))).flag 2 .sensor).set = true := by decide

/-- R9: 14.5 kW on 2 granted stages of 6.0 kW starts the overdraw timer, 14.4 kW does not. -/
theorem test_meterSample :
    ((after (.meterSample 2 145 2700 100) (stagingUp .awaitingReply)).bfeAt 2).overdraw = some 0 ∧
    ((after (.meterSample 2 144 2700 100) (stagingUp .awaitingReply)).bfeAt 2).overdraw = none := by decide

/-- R116, R117: the confirm time runs out: the stage goes and the ramp time of 5 s starts. -/
theorem test_confirmTimer : ((after .confirmTimer (stagingUp (.confirming 0))).rowAt 2).granted = 1 ∧
    (after .confirmTimer (stagingUp (.confirming 0))).feeder.ramp = some 5000 := by decide

/-- R169, R172: a plug-out in CLEARING makes the bay CLEARED with a GREEN signal. -/
theorem test_plug_out_in_clearing :
    ((after (.plugChange 2) (clearing.modBfe 2 (fun f => { f with plugTimer := some 0 }))).clrAt 2).state = .cleared ∧
    ((after (.plugChange 2) (clearing.modBfe 2 (fun f => { f with plugTimer := some 0 }))).bfeAt 2).aspect = .green := by
  decide

/-- R170: the plug time runs out: the lane is FREE again and the contactor closes. -/
theorem test_plugTimer : (after (.plugTimer 2) clearing).laneA.state = .free ∧
    ((after (.plugTimer 2) clearing).bfeAt 2).contactor = true := by decide

theorem test_gatePassage : (after (.gatePassage .a) ((laneHeld .passageWait (some 5)).modInputs (fun i =>
    { i with gateA := some 100 }))).laneA = .reset := by decide

/-- R24, R29: the third attempt of a second failed transaction: LOST, the re-probe time of 5 s runs. -/
theorem test_noReply :
    let s := (inFlight ⟨.status, some .poll, 3, .waiting 0⟩).modClc 2 (fun c => { c with failures := 1 })
    ((after (.noReply 2) s).clcAt 2).link = .lost ∧ ((after (.noReply 2) s).clcAt 2).reprobe = some 5000 := by decide

/-- R21, R36: a STATUS reply with a valid cabin temperature of -8.0 °C (FFB0) is recorded. -/
theorem test_replyFrame :
    ((after (.replyFrame ⟨2, 0xA5⟩ 0x94 [0x01, 0xB0, 0xFF, 0x02] (crc8 (checkedBytes 0x94 [0x01, 0xB0, 0xFF, 0x02])))
      (inFlight ⟨.status, some .poll, 1, .receiving⟩)).clcAt 2).lastStatus =
        some ⟨1000, some (-80), false, false, false, 2⟩ := by decide +kernel

/-- R131 to R133: the lit samples of the manual's example: 24.3 W, PASS, LAMP OFF submitted. -/
theorem test_litComplete :
    let s := after (.litComplete 2 ⟨399, 401, 400, 400⟩ ⟨2758, 2762, 2760, 2760⟩) (lampStep .lit)
    (s.lcsAt 2).outcome = some (.pass, some 243) ∧ (s.clcAt 2).inflight = some ⟨.lamp 3 false, some .lamp, 1, .ready 100⟩ := by
  decide

/-! ## States and operands that meet the statements' hypotheses

Each theorem names the statement it is for and takes its clauses in order. -/

theorem witness_StepTakesTheFrontCommand : { docked with pending := [.ident, .timeRead] }.pending = [.ident, .timeRead] := rfl

theorem witness_IdleStepIsOneMillisecond : docked.pending = [] ∧ docked.unfinished = [] ∧
    999 ≤ (docked.modClock (fun _ => ⟨1000, true, 999⟩)).clock.phase ∧
    ((clearing.modClr 2 (fun c => { c with plugTimer := some 1 })).clrAt 2).plugTimer = some 1 := by decide

/-- The docked bay with the budget of one plugged bay. -/
def budgeted : State :=
  docked.modFeeder (fun f => { f with plugged := 1, base := docked.baseBudget 1, budget := docked.baseBudget 1 })

/-- The docked bay's lamp run in BASELINE on channel 1, its row quiet. -/
def onChannel (p : StepPhase) : State :=
  (((lampStep p).setChannel 1 (some 2)).modLcs 2 (fun l => { l with channel := some 1 })).modRow 2 (fun r =>
    { r with quiet := true })

/-- Each step invariant's hypotheses hold of the docked bay with a command in front of the queue. -/
theorem witness_step_invariants : (∃ t, step { docked with pending := [.bayDisable 2] } = .next t) ∧
    docked.SettingsInRange ∧ docked.LatchFollows ∧ docked.SignalFollows ∧ scheduled.ListOrdered ∧ docked.WithinSizes ∧
    docked.AttnFollows := by
  refine ⟨⟨_, rfl⟩, ?_, ?_, ?_, ⟨by decide, by decide, by decide, ?_⟩, ⟨by decide, ?_, by decide, by decide⟩, rfl⟩
  · unfold State.SettingsInRange; decide
  · unfold State.LatchFollows; decide
  · unfold State.SignalFollows; decide
  · intro d hd
    obtain rfl : d = departure7 := by simpa [scheduled] using hd
    refine ⟨by decide, by decide, by decide, ?_, ?_, by decide⟩ <;> intro x hx <;> cases hx <;> decide
  · decide

theorem witness_contactor_invariant : (∃ t, step docked = .next t) ∧ docked.ContactorFollows := by
  refine ⟨⟨_, rfl⟩, ?_⟩
  unfold State.ContactorFollows; decide

theorem witness_feeder_invariant : (∃ t, step budgeted = .next t) ∧ budgeted.FeederSound := by
  refine ⟨⟨_, rfl⟩, by decide, .inl (by decide), by decide, fun b => ⟨fun h hh => ?_, ?_⟩, by decide, by decide, fun b => ?_⟩
  · have := (by decide : ∀ b, ((budgeted.dkuAt b).profile.heater.all (fun h => decide (h.1 ≤ 8))) = true) b
    rw [hh] at this; simpa using this
  · revert b; decide
  · have := (by decide : ∀ b, (budgeted.rowAt b).inFlight = false) b
    rw [this]
    exact ⟨nofun, fun ⟨_, hu, _⟩ => by cases hu⟩

theorem witness_channel_invariant : (∃ t, step (onChannel .baseline) = .next t) ∧ (onChannel .baseline).ChannelsSound := by
  refine ⟨⟨_, rfl⟩, by decide, by decide, by decide, by decide, by decide, by decide, by decide⟩

theorem witness_lane_invariant : (∃ t, step docked = .next t) ∧ docked.LanesSound := by
  refine ⟨⟨_, rfl⟩, ?_, by decide, ?_, by decide, by decide, by decide, by decide, by decide, by decide⟩
  · intro l; cases l <;> decide
  · intro b
    have h := (by decide : ∀ b, (docked.clrAt b).state ≠ .clearing ∧ (docked.clrAt b).state ≠ .cleared) b
    constructor
    · rintro (h1 | h1)
      · exact absurd h1 h.1
      · exact absurd h1 h.2
    · rintro ⟨l, h1, -⟩; cases l <;> exact absurd h1 (by decide)

/-- In a frame with both slots free, with one taken, with both taken; hunting. -/
def receiving (sending held : Option HostFrame) : State :=
  docked.modHli (fun h => { h with
    inFrame := true, sending := sending, lineOut := match sending with | some f => frameBytes f | none => [], held := held })

/-- The host line's bytes with no reply and with the reply of IDENT being sent. -/
theorem witness_host_line_invariant : (∃ t, step docked = .next t) ∧ docked.HostLineFollows ∧
    (∃ t, step (receiving (some ⟨0x81, [0, 0xA1, 0x47, 0x16, 0x0D, 3]⟩) none) = .next t) ∧
    (receiving (some ⟨0x81, [0, 0xA1, 0x47, 0x16, 0x0D, 3]⟩) none).HostLineFollows := ⟨⟨_, rfl⟩, rfl, ⟨_, rfl⟩, rfl⟩

theorem witness_ReceivedRequestActsAsItsRow : encodeRequest (.settingsRead 16) = some ⟨0x06, [16]⟩ ∧
    (receiving none none).hli.inFrame = true ∧ (receiving none none).hli.sending = none ∧
    (receiving none none).hli.held = none ∧ decodeRequest ⟨0x09, []⟩ = .error .unknownKind ∧
    decodeRequest ⟨0xC0, []⟩ = .error .unknownKind ∧ decodeRequest ⟨0x14, []⟩ = .error .format ∧
    ([] : List Byte).length ≤ 1024 := ⟨rfl, rfl, rfl, rfl, rfl, rfl, rfl, by decide⟩

/-- The frame of IDENT, LEN 00 00 and KIND 01, has the CRC DCBD, computed by hand from R190's polynomial. -/
theorem witness_ReceivedFrameIsBufferedOrOverruns :
    (List.replicate 1024 (0 : Byte)).length ≤ 1024 ∧ (receiving (some ⟨0x81, []⟩) none).hli.inFrame = true ∧
    (receiving (some ⟨0x81, []⟩) none).hli.sending = some ⟨0x81, []⟩ ∧ (receiving (some ⟨0x81, []⟩) none).hli.held = none ∧
    (receiving (some ⟨0x81, []⟩) (some ⟨0x01, []⟩)).hli.held = some ⟨0x01, []⟩ ∧ docked.hli.inFrame = false ∧
    crc16 (frameBody ⟨0x01, []⟩) = 0xDCBD := by
  refine ⟨Nat.le_of_eq List.length_replicate, ?_⟩
  decide +kernel

theorem witness_FrameFaultsDiscardTheFrame : (receiving none none).hli.inFrame = true ∧ docked.hli.inFrame = false ∧
    ([] : List Byte).length ≤ 1024 ∧ crc16 (frameBody ⟨0x01, []⟩) ≠ 0xDCBC := by decide +kernel

theorem witness_ReplySentTakesTheHeldFrame : docked.hli.sending = none ∧
    (receiving (some ⟨0x81, []⟩) none).hli.sending = some ⟨0x81, []⟩ ∧ (receiving (some ⟨0x81, []⟩) none).hli.held = none ∧
    (receiving (some ⟨0x81, []⟩) (some ⟨0x01, []⟩)).hli.held = some ⟨0x01, []⟩ ∧
    decodeRequest ⟨0x01, []⟩ = .ok .ident ∧ decodeRequest ⟨0x09, []⟩ = .error .unknownKind ∧
    decodeRequest ⟨0x01, [0]⟩ = .error .format := ⟨rfl, rfl, rfl, rfl, rfl, rfl, rfl⟩

theorem witness_UnknownKindIsRefused : requestKinds.contains (0x09 : Byte).toNat = false ∧
    requestKinds.contains (0x7F : Byte).toNat = false ∧ requestKinds.contains (0x80 : Byte).toNat = false ∧
    requestKinds.contains (0x72 : Byte).toNat = true := by decide

/-- Of OK, BUSY and REFUSED replies. -/
theorem witness_EveryRequestDrawsOneReply : encodeRequest (.redock 16) = some ⟨0x14, [16]⟩ ∧
    sent (.redock 2) docked = some ⟨0x94, [0]⟩ ∧ sent (.redock 16) docked = some ⟨0x94, [3, 2]⟩ ∧
    sent (.lampStart 2 0 1) (lampStep .lit) = some ⟨0xC0, [2]⟩ := by decide

theorem witness_HallReadsAnswerAndChangeNothing : 17 ≤ (17 : Byte).toNat ∧ scheduled.departureOf (7 : Word16).toNat = some departure7 ∧
    scheduled.departureOf (8 : Word16).toNat = none ∧ (1 : Byte).toNat ≤ scheduled.departures.length ∧
    scheduled.departures.length < (2 : Byte).toNat := by decide

theorem witness_bay_above_15 : 16 ≤ (16 : Byte).toNat ∧ 16 ≤ (255 : Byte).toNat := by decide

theorem witness_BayReadsAnswerAndChangeNothing : (docked.bfeAt 2).overdraw = none ∧
    ((docked.modBfe 2 (fun f => { f with overdraw := some 10000 })).bfeAt 2).overdraw = some 10000 := by decide

/-- A bay outside the channel queue, and one at its place 1. -/
theorem witness_BayReadsAnswerAndChangeNothing_place : 2 ∉ docked.channelQueue ∧
    { docked with channelQueue := [3, 2, 5] }.channelQueue = [3] ++ 2 :: [5] ∧ 2 ∉ [(3 : BayNo)] := by decide

/-- Flags set and not set, with and without their conditions. -/
theorem witness_EventsFetchTreatsReportedFlags :
    (State.reset.hallFlag .clockUnset).set = true ∧ State.reset.clock.isSet = false ∧ (State.reset.hallFlag .reset).set = true ∧
    (State.reset.hallFlag .lane).set = false ∧ (State.reset.flag 2 .link).set = false ∧
    let s := (((raiseFlag (raiseFlag (raiseFlag (raiseFlag docked 2 .link (.link .lost) false) 2 .sensor .plain false) 2
      .overdraw .plain false) 2 .dock (.dock false) false).modBfe 2 (fun f => { f with presence := false, tripped := true })).modClc 2
      (fun c => { c with link := .lost }))
    (s.flag 2 .link).set = true ∧ (s.clcAt 2).link = .lost ∧ (s.flag 2 .sensor).set = true ∧ (s.bfeAt 2).plug = true ∧
    (s.bfeAt 2).presence = false ∧ (s.flag 2 .overdraw).set = true ∧ (s.bfeAt 2).tripped = true ∧ (s.flag 2 .dock).set = true := by
  decide

theorem witness_FlagsStaySetUntilFetchOrRestart : mayClearFlags .clockTick = false ∧ (State.reset.hallFlag .reset).set = true ∧
    ((raiseFlag docked 2 .link (.link .lost) false).flag 2 .link).set = true ∧ (∃ t, exec .clockTick docked = .next t) :=
  ⟨rfl, rfl, by decide, _, rfl⟩

theorem witness_HeldValuesChangeOnlyByTheirCommands : Instr.clockTick ≠ .powerOn ∧ Instr.clockTick ≠ .replySent ∧
    (∀ k p, Instr.clockTick ≠ .hostFrameReceived k p) ∧ (∀ n v, Instr.clockTick ≠ .settingsWrite n v) ∧
    (∃ t, exec .clockTick docked = .next t) := by
  refine ⟨by decide, by decide, ?_, ?_, _, rfl⟩ <;> intros <;> exact nofun

theorem witness_BayEnableTakesTheBayIntoService : (docked.bfeAt 2).enabled = true ∧ (docked.bfeAt 0).enabled = false ∧
    (docked.bfeAt 15).enabled = false := by decide

theorem witness_BayDisableTakesTheBayOutOfService : (docked.bfeAt 0).enabled = false ∧ (clearing.bfeAt 2).enabled = true ∧
    clearing.laneA.holder = some 2 ∧ (docked.bfeAt 2).enabled = true ∧ docked.laneA.holder ≠ some 2 ∧
    docked.laneB.holder ≠ some 2 := by decide

/-- A bay OUT_OF_SERVICE, and one that is not. -/
theorem witness_BayEnableTakesTheBayIntoService_sensors : (State.reset.clrAt 15).state = .outOfService ∧
    (docked.clrAt 2).state ≠ .outOfService := by decide

theorem witness_DisableAndPlugOutOpenTheContactor :
    (docked.modBfe 2 (fun f => { f with plugTimer := some 0 })).LatchFollows ∧ (docked.bfeAt 2).enabled = true ∧
    docked.laneA.holder ≠ some 2 ∧ (docked.bfeAt 2).plug = true ∧
    ((docked.modBfe 2 (fun f => { f with plugTimer := some 0 })).bfeAt 2).plugTimer ≠ none := by
  refine ⟨?_, by decide⟩
  unfold State.LatchFollows; decide

theorem witness_RedockActsInOrder : (docked.bfeAt 0).enabled = false ∧ (arrived.bfeAt 2).enabled = true ∧
    (arrived.bfeAt 2).plug = false ∧ (clearing.clrAt 2).state = .clearing ∧ (clearing.bfeAt 2).enabled = true ∧
    (docked.bfeAt 2).plug = true ∧ (docked.clrAt 2).state ≠ .clearing ∧ (arrived.dkuAt 2).state = .undocked ∧
    (docked.dkuAt 2).state ≠ .undocked ∧ (docked.dkuAt 2).retained = false ∧
    ((docked.modDku 2 (fun d => { d with retained := true })).dkuAt 2).retained = true ∧ (docked.clcAt 2).link = .active ∧
    (docked.clcAt 2).readSlot = none ∧ (arrived.clcAt 2).link ≠ .active := by decide

/-- The docked bay's DKU in a docking state with a read in flight. -/
def dockRead (st : DockState) (r : BayRequest) (indices : List Nat) : State :=
  docked.modDku 2 (fun d => { d with state := st, read := some (r, true), indices := indices })

/-- The results of IDENT, DESC and STATUS; a next index of 255, a good one, one above 63 and one already read. -/
theorem witness_RedockActsInOrder_results :
    ((dockRead .probing .ident []).dkuAt 2).read = some (.ident, true) ∧ ((dockRead .probing .ident []).dkuAt 2).state = .probing ∧
    ((dockRead .docked .ident []).dkuAt 2).profile.identity = some ⟨4410, 1, true⟩ ∧
    ((dockRead .readingDescriptors (.desc 63) [0]).dkuAt 2).read = some (.desc 63, true) ∧
    ((dockRead .readingDescriptors (.desc 63) [0]).dkuAt 2).state = .readingDescriptors ∧ 62 < 64 ∧ 62 ∉ [0] ++ [63] ∧
    64 ≠ 255 ∧ 63 ∈ [0] ++ [63] ∧ ((dockRead .readingFaults .status []).dkuAt 2).read = some (.status, true) ∧
    ((dockRead .readingFaults .status []).dkuAt 2).state = .readingFaults ∧ Profile.empty.heater = none ∧
    (docked.dkuAt 2).profile.heater ≠ none ∧ Profile.empty.cabin = none ∧ (docked.dkuAt 2).profile.cabin ≠ none ∧
    6 ≤ (6 : Byte).toNat ∧ [LampGroup.front, .rear, .side, .interior, .signal, .marker][(5 : Byte).toNat]? = some .marker ∧
    3 ∈ (docked.dkuAt 2).profile.lamps.map LampEntry.circuit ∧ 63 ∉ (docked.dkuAt 2).profile.lamps.map LampEntry.circuit ∧
    (docked.dkuAt 2).profile.lamps.length < 48 ∧ Profile.empty.faultCapacity = none ∧
    ({ Profile.empty with faultCapacity := some 1 } : Profile).faultCapacity ≠ none ∧ 5 ∉ [1, 2, 3, 4] := by decide

/-- Bodies one byte short; a docked bay without an active departure, with one that expects no coach, its own coach and
another; a record for bay 3 that expects the coach of bay 2, and none; a read held, waited for and none. -/
theorem witness_RedockActsInOrder_matching :
    let s := fun (f : Option Nat) => { scheduled with departures := [{ departure7 with fleet := f }] }
    let e := { departure7 with id := 9, bay := 3, fleet := some 4410 }
    [[(8 : Byte)], [0, 0, 0], [0, 0, 0, 0, 0], []].map List.length = [1, 3, 5, 0] ∧
    docked.activeOf 2 = none ∧ (s none).activeOf 2 = some { departure7 with fleet := none } ∧
    (s (some 4410)).matchState 2 = .matched ∧ (s (some 4411)).matchState 2 = .mismatched ∧ (s none).matchState 2 = .unmatched ∧
    (docked.dkuAt 2).retained = false ∧ (docked.dkuAt 2).matching ≠ .matched ∧
    ((docked.modDku 2 (fun d => { d with matching := .matched })).dkuAt 2).matching = .matched ∧
    { scheduled with departures := [departure7, e] }.departures = [departure7] ++ e :: [] ∧ e.bay ≠ 2 ∧
    e.fleet = (scheduled.dkuAt 2).profile.identity.map Identity.fleet ∧ departure7.bay = 2 ∧
    ((dockRead .readingFaults .status []).dkuAt 2).state = .readingFaults ∧
    ((docked.modDku 2 (fun d => { d with state := .probing, read := some (.ident, false) })).dkuAt 2).read =
      some (.ident, false) ∧
    ((dockRead .dockFailed .ident []).dkuAt 2).state = .dockFailed ∧ (docked.dkuAt 2).read ≠ some (.ident, true) := by decide

/-- R50: the mark becomes set and is raised with the bay that expects the coach, and not again while it stands. -/
theorem test_wrong_bay :
    let s := { scheduled with departures := [departure7, { departure7 with id := 9, bay := 3, fleet := some 4410 }] }
    (dkuWrongBay 2 s).2 = [.raise 2 .wrongBay (.bay 3) false] ∧ ((dkuWrongBay 2 s).1.dkuAt 2).wrongBay = true ∧
    (dkuWrongBay 2 (dkuWrongBay 2 s).1).2 = [] := by decide

/-- A lamp list of 48 entries. -/
theorem witness_full_lamp_list : 48 ≤ (List.replicate 48 (⟨3, .front, 210, 20, true⟩ : LampEntry)).length := by simp

/-- A map of 64 entries, and of 63. -/
theorem witness_MapRequestsChangeTheMap :
    mapEntryOf ⟨5, 5, 31, 2, 1⟩ = some ⟨5, 5, some 31, .ignore, true⟩ ∧ mapEntryOf ⟨6, 5, 31, 2, 1⟩ = none ∧
    mapEntryOf ⟨5, 5, 32, 2, 1⟩ = none ∧ mapEntryOf ⟨5, 5, 255, 3, 1⟩ = none ∧ mapEntryOf ⟨5, 5, 255, 2, 2⟩ = none ∧
    64 ≤ (List.replicate 64 (⟨5, 5, none, .ignore, false⟩ : MapEntry)).length ∧
    (List.replicate 63 (⟨5, 5, none, .ignore, false⟩ : MapEntry)).length < 64 ∧ docked.map = [] ∧
    docked.map.length < (1 : Byte).toNat ∧ (0 : Byte).toNat ≤ docked.map.length := by
  refine ⟨by decide, by decide, by decide, by decide, by decide, by simp, by simp, by decide⟩

/-- A map that is not empty; a committed table that is empty, retained, TRUNCATED; a scan of each state, TRUNCATED or not. -/
theorem witness_MapRequestsChangeTheMap_tables : { docked with map := [⟨5, 5, none, .ignore, false⟩] }.map ≠ [] ∧
    (docked.frdAt 2).retained = false ∧ (docked.frdAt 2).table.entries = [] ∧ (docked.frdAt 2).table.marks.truncated = false ∧
    ((docked.modFrd 2 (fun f => { f with retained := true })).frdAt 2).retained = true ∧
    ((docked.modFrd 2 (fun f => { f with table := ⟨[], ⟨true, false, false, false⟩, 0, .none⟩ })).frdAt 2).table.marks.truncated =
      true ∧ (docked.frdAt 2).scan.state = .idle ∧
    (docked.frdAt 2).scan.marks.truncated = false ∧
    ∀ st ∈ [ScanState.counting, .reading, .awaitingLink],
      let s := docked.modFrd 2 (fun f => { f with scan := { f.scan with state := st, marks := ⟨true, false, false, false⟩ } })
      (s.frdAt 2).scan.state = st ∧ (s.frdAt 2).scan.marks.truncated = true := by decide

/-- The docked bay's scan in a state. -/
def scanning (st : ScanState) (next limit : Nat) : State :=
  docked.modFrd 2 (fun f => { f with scan := { f.scan with state := st, next := next, limit := limit } })

/-- A fault with a read index. -/
def faultAt (i : Nat) : FaultEntry :=
  ⟨2050, 9, true, 1, 0, 100, none, none, i, .blocking, false, false, false⟩

/-- A record of fault 2050 (0802) of source 9, ACTIVE, once, with circuit 63; one of source 32. -/
theorem witness_FaultScanRequestsAHostScan_records :
    (∃ r, faultRecordOf [2, 8, 9, 1, 1, 0, 0, 0, 5, 0, 0, 1, 63] = some r ∧ r.circuit = some 63) ∧
    (∃ r, faultRecordOf [2, 8, 9, 1, 1, 0, 0, 0, 5, 0, 0, 1, 64] = some r ∧ r.circuit = none) ∧
    faultRecordOf [2, 8, 32, 1, 1, 0, 0, 0, 5, 0, 0, 0] = none ∧ (1 : Byte).getLsbD 0 = true ∧ (0 : Byte).getLsbD 0 = false ∧
    [faultAt 1, faultAt 0].find? (fun y => y.source == 9 && y.code == 2050) = some (faultAt 1) ∧
    [faultAt 1].find? (fun y => y.source == 8 && y.code == 2050) = none ∧ [faultAt 1].length < 32 ∧
    [faultAt 1, faultAt 0] = [faultAt 1] ++ [faultAt 0] :=
  ⟨⟨_, rfl, by decide⟩, ⟨_, rfl, by decide⟩, by decide, by decide, by decide, by decide, by decide, by decide, rfl⟩

/-- A freeze frame of −0.1 °C and 258 with and without a circuit before it, one cut short, none; a payload of 11 bytes. -/
theorem witness_FaultScanRequestsAHostScan_frames :
    (∃ r, faultRecordOf [2, 8, 9, 1, 1, 0, 0, 0, 5, 0, 0, 3, 63, 255, 255, 2, 1] = some r ∧ r.freeze = some (-1, 258) ∧
      r.bad = false) ∧
    (∃ r, faultRecordOf [2, 8, 9, 1, 1, 0, 0, 0, 5, 0, 0, 2, 255, 255, 2, 1] = some r ∧ r.freeze = some (-1, 258)) ∧
    (∃ r, faultRecordOf [2, 8, 9, 1, 1, 0, 0, 0, 5, 0, 0, 2, 255, 255, 2] = some r ∧ r.freeze = none ∧ r.bad = true) ∧
    (∃ r, faultRecordOf [2, 8, 9, 1, 1, 0, 0, 0, 5, 0, 0, 1] = some r ∧ r.circuit = none ∧ r.bad = true) ∧
    (2 : Byte).getLsbD 1 = true ∧ (1 : Byte).getLsbD 1 = false ∧ [(2 : Byte), 8, 9, 1, 1, 0, 0, 0, 5, 0, 0].length < 12 :=
  ⟨⟨_, rfl, by decide⟩, ⟨_, rfl, by decide⟩, ⟨_, rfl, by decide⟩, ⟨_, rfl, by decide⟩, by decide, by decide, by decide⟩

/-- A rescan mark set and empty, the link held lost, the READ class held by the DKU; a scan with the kind DEPARTURE. -/
theorem witness_FaultScanRequestsAHostScan_rescan :
    (docked.frdAt 2).rescan = .none ∧ ((docked.modFrd 2 (fun f => { f with rescan := KindSet.none.add .change })).frdAt 2).rescan ≠
      .none ∧ ((docked.modFrd 2 (fun f => { f with linkHeldLost := true })).frdAt 2).linkHeldLost = true ∧
    (let s := (dockRead .readingFaults .status []).modFrd 2 (fun f => { f with readSinceDocking := true });
      (s.dkuAt 2).state = .readingFaults ∧ (s.frdAt 2).readSinceDocking = true) ∧
    (docked.dkuAt 2).state ≠ .readingFaults ∧
    (((scanning .reading 0 2).modFrd 2 (fun f => { f with scan := { f.scan with kinds := KindSet.none.add .departure } })).frdAt
      2).scan.kinds.departure = true ∧ ((scanning .reading 0 2).frdAt 2).scan.kinds.departure = false ∧
    1 ≠ ((scanning .reading 0 2).frdAt 2).scan.next := by decide

/-- A shadow of 32 entries, its lowest split off. -/
theorem witness_full_shadow : List.replicate 32 (faultAt 0) = List.replicate 31 (faultAt 0) ++ [faultAt 0] ∧
    32 ≤ (List.replicate 32 (faultAt 0)).length := by decide

theorem witness_FaultScanRequestsAHostScan : (docked.bfeAt 0).enabled = false ∧ (arrived.bfeAt 2).enabled = true ∧
    (arrived.dkuAt 2).state ≠ .docked ∧ (docked.bfeAt 2).enabled = true ∧ (docked.dkuAt 2).state = .docked ∧
    (docked.dkuAt 2).profile.identity = some ⟨4410, 1, true⟩ ∧ (docked.frdAt 2).scan.state = .idle ∧
    (docked.frdAt 2).linkHeldLost = false ∧ ((scanning .reading 0 2).frdAt 2).scan.state ≠ .idle ∧
    (({ Profile.empty with identity := some ⟨4410, 1, false⟩ } : Profile).identity.map (fun i => i.faultMemory)) = some false ∧
    ((scanning .counting 0 0).frdAt 2).scan.state = .counting ∧
    ((scanning .counting 0 0).frdAt 2).scan.restartPending = false ∧
    min 0 ((docked.dkuAt 2).profile.faultCapacity.getD 255) = 0 ∧ min 256 ((docked.dkuAt 2).profile.faultCapacity.getD 255) ≠ 0 ∧
    ((scanning .reading 0 2).frdAt 2).scan.state = .reading ∧
    ((scanning .reading 0 2).frdAt 2).scan.next + 1 < ((scanning .reading 0 2).frdAt 2).scan.limit ∧
    ((scanning .reading 1 2).frdAt 2).scan.limit ≤ ((scanning .reading 1 2).frdAt 2).scan.next + 1 ∧
    (((scanning .reading 1 2).modFrd 2 (fun f => { f with scan := { f.scan with restartPending := true } })).frdAt
      2).scan.restartPending = true ∧
    (docked.clcAt 2).link = .active ∧ (arrived.clcAt 2).link ≠ .active ∧
    ((scanning .awaitingLink 0 0).frdAt 2).scan.state = .awaitingLink := by decide

theorem witness_FaultRankIsATotalOrder :
    [faultAt 1, faultAt 0].Pairwise (fun x y => x.readIndex ≠ y.readIndex) ∧ (faultAt 1).readIndex ≠ (faultAt 0).readIndex ∧
    [faultAt 0, faultAt 2].Pairwise (fun x y => x.above y = true) ∧
    (∀ x ∈ [faultAt 0, faultAt 2], x.readIndex ≠ (faultAt 1).readIndex) := by
  decide

/-- The docked bay's plan in each state. -/
def planIn (st : PlanState) (code : Option EndCode) : Plan :=
  { Plan.empty with departure := some 7, target := some 200, scheduled := some 24000, state := st, endCode := code }

theorem witness_AmbientSetTakesTheAmbient : (docked.hplAt 2).plan.state = .none ∧
    (planIn .ended (some .completed)).state = .ended ∧ (planIn .waiting none).state ≠ .none ∧
    (planIn .waiting none).state ≠ .ended ∧ (∃ t, exec .powerOn docked = .next t) ∧ (∃ t, exec .restart docked = .next t) :=
  ⟨rfl, rfl, nofun, nofun, ⟨_, rfl⟩, _, rfl⟩

theorem witness_PlanEndKeepsTheHighestCode : (planIn .heating none).state ≠ .ended ∧
    (planIn .ended (some .hostCancel)).endCode = some .hostCancel ∧ EndCode.hostCancel.rank < EndCode.stageFail.rank ∧
    EndCode.hostCancel.rank ≤ EndCode.hostCancel.rank ∧
    (planIn .heating none).figures (some (4, 60)) ≠ (planIn .ended none).figures (some (4, 60)) ∧
    (planIn .ended none).figures none = (planIn .suspended none).figures none := by decide

/-- R92, R106, R120: a row emptied at a docking start keeps no rank key when the link is lost under an ENDED plan, whose
figures do not change; a HEATING plan that the loss suspends hands its own on. -/
theorem test_unchanged_figures_stay_unsaid :
    let lost := fun (p : Plan) => perform (hplAddLink 2 (scheduled.modHpl 2 (fun h => { h with plan := p })))
    ((lost (planIn .ended (some .undocked))).rowAt 2).rankKey = none ∧
    ((lost (planIn .heating none)).rowAt 2).rankKey = some 24000 := by decide +kernel

/-- Readiness with a target in each kind of state and end code; the causes each alone. -/
theorem witness_PlanEndKeepsTheHighestCode_readiness :
    let s := fun (p : Plan) (k : Bool) => scheduled.modHpl 2 (fun h => { h with plan := p, causeLink := k })
    scheduled.activeOf 2 = some departure7 ∧ departure7.target ≠ none ∧ docked.activeOf 2 = none ∧
    [some EndCode.overdraw, some .completed, some .undocked].map (fun e => (s (planIn .ended e) false).readiness 2) =
      [.fault, .ready, .notReady] ∧
    [PlanState.none, .waiting, .heating, .holding].map (fun st => (s (planIn st none) false).readiness 2) =
      [.notReady, .notReady, .notReady, .ready] ∧
    [false, true].map (fun k => (s { planIn .suspended none with prior := some .holding } k).readiness 2) =
      [.ready, .notReady] := by decide

/-- Forming, evaluating, suspending and resuming a plan: bay 2 without a departure, with one without target, with one;
start times before and after now, each prior state. -/
theorem witness_PlanEndKeepsTheHighestCode_course : docked.activeOf 2 = none ∧ scheduled.activeOf 2 = some departure7 ∧
    departure7.target = some 200 ∧ ({ departure7 with target := none } : Departure).target = none ∧
    (scheduled.dkuAt 2).state = .docked ∧ (arrived.dkuAt 2).state ≠ .docked ∧
    (scheduled.dkuAt 2).profile.heater = some (4, 60) ∧ Profile.empty.heater = none ∧
    (⟨1000, 10, false⟩ : HeatClock).now < ({ planIn .waiting none with start := 1001 } : Plan).start ∧
    ({ planIn .waiting none with start := 1000 } : Plan).start ≤ (⟨1000, 10, false⟩ : HeatClock).now ∧
    (planIn .heating none).state = .heating ∧ (planIn .holding none).state = .holding ∧ (planIn .none none).state ≠ .heating ∧
    (planIn .none none).state ≠ .holding ∧
    [PlanState.heating, .holding, .waiting].map (fun st => ({ planIn .suspended none with prior := some st } : Plan).prior) =
      [some .heating, some .holding, some .waiting] := by decide

/-- An amended plan that is formed, one without a target, one recomputed; figures to compute with; R88: the sample of
19.0 °C takes a HEATING plan with a target of 20.0 °C to HOLDING. -/
theorem witness_PlanEndKeepsTheHighestCode_sample : (scheduled.hplAt 2).plan.state = .none ∧
    { scheduled with departures := [{ departure7 with target := none }] }.activeOf 2 = some { departure7 with target := none } ∧
    (planIn .heating none).target = some 200 ∧ (planIn .heating none).scheduled = some 24000 ∧ Plan.empty.target = none ∧
    let s := scheduled.modHpl 2 (fun h => { h with plan := planIn .heating none })
    (s.hplAt 2).plan.state ≠ .none ∧ (s.hplAt 2).plan.state ≠ .ended ∧
    ((hplSample 2 190 s).1.hplAt 2).plan.state = .holding ∧ ((hplSample 2 189 s).1.hplAt 2).plan.state = .heating := by
  decide +kernel

/-- A net power of exactly 500 W and one of 499 W, a mean excess of 0 and above it, no rise; an ambient at the target. -/
theorem witness_HeatPlanFiguresStayInBounds :
    let x := fun (amb : Int) => (⟨1, 5, some (50, 20), 0, amb, 10, 180, 600, 250⟩ : HeatFigures)
    let q := fun (amb target : Int) => Plan.empty.compute (x amb) target 24000
    (q 100 100).loss = 0 ∧ (q 100 100).netPower = 500 ∧ (q 100 100).unreachable = false ∧ (q 100 100).time = 1000 ∧
    (q 100 100).lead = 27 ∧ (q 100 100).holdingStages = 0 ∧ (q 0 1).loss = 1 ∧ (q 0 1).netPower = 499 ∧ (q 0 1).unreachable = true ∧
    (q 0 1).lead = 180 ∧ (q 0 1).holdingStages = 1 ∧ (q 0 0).time = 0 ∧ (q 0 0).lead = 10 := by decide +kernel

theorem witness_HeatAndFeederTimersAct : (docked.hplAt 2).staleTimer = none ∧
    ((docked.modHpl 2 (fun h => { h with staleTimer := some 0 })).hplAt 2).staleTimer ≠ none ∧ docked.feeder.ramp = none ∧
    (docked.modFeeder (fun f => { f with ramp := some 0 })).feeder.ramp ≠ none ∧ docked.feeder.stageUp = none ∧
    (stagingUp .awaitingReply).feeder.stageUp = some ⟨2, 2, 0, .awaitingReply⟩ ∧
    (stagingUp (.confirming 0)).feeder.stageUp = some ⟨2, 2, 0, .confirming 0⟩ ∧
    (((stagingUp (.confirming 0)).modLcs 2 (fun l => { l with phase := .quietWait })).lcsAt 2).phase = .quietWait ∧
    ((stagingUp (.confirming 0)).lcsAt 2).phase ≠ .quietWait ∧ (arrived.clcAt 2).link = .down ∧
    (docked.clcAt 2).link = .active ∧ (docked.clcAt 2).inflight = none ∧
    ((docked.modClc 2 (fun c => { c with link := .lost })).clcAt 2).link = .lost ∧
    ((inFlight ⟨.ident, some .read, 1, .ready 0⟩).clcAt 2).inflight ≠ none := by decide

theorem witness_ShedRequestsMoveTheHostPart : 14 ≤ (docked.modFeeder (fun f => { f with shedHost := 14 })).feeder.shedHost ∧
    (docked.modFeeder (fun f => { f with shedHost := 13 })).feeder.shedHost < 14 ∧ docked.feeder.shedHost = 0 ∧
    (docked.modFeeder (fun f => { f with shedHost := 1 })).feeder.shedHost ≠ 0 := by decide

/-- Bay 2 heating with two stages to come, its budget 60. -/
def candidate : State :=
  (docked.modRow 2 (fun r => { r with cls := .heating, rankKey := some 24000, planRequest := 2, requested := 2 })).modFeeder
    (fun f => { f with budget := 60 })

theorem witness_SelectionKeepsWithinTheBudget : candidate.grantedLoad ≤ candidate.feeder.budget ∧
    (stagingUp .awaitingReply).feeder.gateOpen = false ∧ (selection candidate).feeder.gateOpen = false ∧
    candidate.feeder.gateOpen = true := by decide

/-- Bay 2 with a stage of 6.0 kW to come that does not fit, bay 3 below it with one of its own granted. -/
def claiming (budget : Nat) : State :=
  (candidate.modRow 3 (fun r => { r with
    cls := .heating, rankKey := some 25000, planRequest := 2, requested := 2, granted := 1, power := 60 })).modFeeder
    (fun f => { f with budget := budget })

/-- R112 to R114: the candidate's stage fits; the claimant's does not and preempts the stage of bay 3; one unit less of
budget, and the removable stages are not enough. -/
theorem witness_SelectionKeepsWithinTheBudget_chosen : candidate.ranked = [] ++ 2 :: [] ∧
    (candidate.rowAt 2).granted < (candidate.rowAt 2).requested ∧ (candidate.rowAt 2).quiet = false ∧
    (candidate.rowAt 2).linkHeldLost = false ∧ (candidate.clcAt 2).link = .active ∧ (candidate.bfeAt 2).contactor = true ∧
    candidate.grantedLoad + 60 = candidate.feeder.budget ∧ (claiming 60).ranked = [] ++ 2 :: [3] ∧
    ((claiming 60).clcAt 3).link ≠ .active ∧ ((claiming 60).rowAt 3).quiet = false ∧ (claiming 60).grantedLoad = 60 ∧
    (claiming 60).feeder.stageUp = none ∧ docked.ranked = [] ∧
    ((selection candidate).rowAt 2).granted = 1 ∧ ((selection (claiming 60)).rowAt 2).granted = 1 ∧
    ((selection (claiming 60)).rowAt 3).granted = 0 ∧ ((selection (claiming 59)).rowAt 2).granted = 0 := by decide +kernel

/-- R106, R107, R118: with a stage-up in flight a plan gone to NONE cuts the grant of two stages, which cancels the stage-up;
a row of nothing granted; a link that carries STAGE 0 already. -/
theorem witness_SelectionKeepsWithinTheBudget_rows : ((stagingUp .awaitingReply).rowAt 2).granted ≠ 0 ∧
    (docked.rowAt 2).granted = 0 ∧ (arrived.clcAt 2).link = .down ∧ (docked.clcAt 2).link ≠ .down ∧
    ((falEmpty 2 (stagingUp .awaitingReply)).1.clcAt 2).inflight.map InFlight.request = some (.stage 0) ∧
    ((falEmpty 2 docked).1.clcAt 2).inflight.map InFlight.request ≠ some (.stage 0) ∧
    ((falEmpty 2 docked).1.clcAt 2).heatSlot ≠ some 0 ∧
    let t := (falTake 2 (stagingUp .awaitingReply)).1
    (t.rowAt 2).granted = 0 ∧ (t.rowAt 2).inFlight = false ∧ t.feeder.stageUp = none ∧ t.feeder.ramp = some 5000 ∧
    (t.rowAt 2).commanded = 0 := by decide

/-- Bay 2's averages at a figure. -/
def measuring (x : Nat) (s : State) : State := s.modBfe 2 (fun f => { f with shore := [x, x, x, x, x] })

/-- A stage-up in CONFIRMING from 0 kW: after a sample of 18.0 kW the average has risen by exactly 60 % of 6.0 kW. -/
theorem witness_MeterSampleAndTripAct : (docked.clrAt 2).state ≠ .clearing ∧ (docked.bfeAt 2).overdraw = none ∧
    ((docked.modBfe 2 (fun f => { f with overdraw := some 9999 })).bfeAt 2).overdraw = some 9999 ∧
    (stagingUp (.confirming 9)).feeder.stageUp = some ⟨2, 2, 0, .confirming 9⟩ ∧
    6 * ((stagingUp (.confirming 9)).rowAt 2).power ≤ 10 * (averageOf [180, 0, 0, 0, 0] - 0) ∧
    10 * (averageOf [175, 0, 0, 0, 0] - 0) < 6 * ((stagingUp (.confirming 9)).rowAt 2).power ∧
    docked.feeder.stageUp = none ∧ ((measuring 9 clearing).bfeAt 2).shorePower < 10 ∧
    10 ≤ ((measuring 10 clearing).bfeAt 2).shorePower ∧ (clearing.clrAt 2).state = .clearing ∧
    (clearing.clrAt 2).openRequest = false ∧
    ((clearing.modClr 2 (fun c => { c with openRequest := true })).clrAt 2).openRequest = true := by decide

/-- HEAT results of the stage-up that awaits its reply and of another count; the link ACTIVE with the slot empty and full,
and LOST. -/
theorem witness_MeterSampleAndTripAct_results :
    (stagingUp .awaitingReply).feeder.stageUp = some ⟨2, 2, 0, .awaitingReply⟩ ∧
    (∃ u, (stagingUp .awaitingReply).feeder.stageUp = some u ∧ u.count ≠ 1) ∧ (docked.clcAt 2).heatSlot = none ∧
    ((docked.modClc 2 (fun c => { c with heatSlot := some 0 })).clcAt 2).heatSlot ≠ none ∧
    ((docked.modClc 2 (fun c => { c with link := .lost })).clcAt 2).link ≠ .active ∧
    ((falResult 2 2 .refused (stagingUp .awaitingReply)).1.rowAt 2).failures = 1 ∧
    (falResult 2 2 .refused ((stagingUp .awaitingReply).modRow 2 (fun r => { r with failures := 1 }))).2 =
      [.hplEnd 2 .stageFail] := ⟨rfl, ⟨_, rfl, by decide⟩, by decide⟩

theorem witness_LampRequestsMakeTheirChecks : 2 ≤ (2 : Byte).toNat ∧ (1 : Byte).toNat < 2 ∧ (docked.bfeAt 0).enabled = false ∧
    (arrived.bfeAt 2).enabled = true ∧ (arrived.dkuAt 2).state ≠ .docked ∧ (docked.bfeAt 2).enabled = true ∧
    (docked.dkuAt 2).state = .docked ∧ ((lampStep .lit).lcsAt 2).status = .running ∧ (docked.lcsAt 2).status ≠ .running ∧
    (docked.lcsAt 2).status ≠ .paused ∧
    let s := docked.modLcs 2 (fun l => { l with status := .paused, reasons := ⟨true, false, false⟩ })
    (s.lcsAt 2).status = .paused ∧ (s.lcsAt 2).reasons.step = true := by decide

/-- A step in LIT on channel 1 with bay 3 waiting, and with none; a queued step; an owed switch-off; the pause reasons. -/
theorem witness_LampRequestsMakeTheirChecks_abort : ((onChannel .lit).lcsAt 2).circuit = some 3 ∧
    ((onChannel .lit).lcsAt 2).phase = .lit ∧ ((lampStep .queued).lcsAt 2).phase = .queued ∧
    ((onChannel .lit).lcsAt 2).channel = some 1 ∧ ((onChannel .lit).rowAt 2).quiet = true ∧
    (onChannel .lit).channelQueue.filter (fun x => x != 2) = [] ∧
    ({ onChannel .lit with channelQueue := [3] }).channelQueue.filter (fun x => x != 2) = [3] ∧
    ((docked.modLcs 2 (fun l => { l with owed := some 3 })).lcsAt 2).owed = some 3 ∧
    let s := fun (i k : Bool) => docked.modLcs 2 (fun l => { l with status := .paused, reasons := ⟨true, i, k⟩ })
    ((s false false).lcsAt 2).reasons.ignition = false ∧ ((s false false).lcsAt 2).reasons.link = false ∧
    ((s true false).lcsAt 2).reasons.ignition = true ∧ ((s false true).lcsAt 2).reasons.link = true := by decide

/-- A profile without a lamp list; the ignition ON, the link held lost; a step with and without a channel, in each phase; the
pause reasons added and removed. -/
theorem witness_LampRequestsMakeTheirChecks_pause : (arrived.dkuAt 2).profile.lamps.filter LampEntry.checkable = [] ∧
    (docked.dkuAt 2).profile.lamps.filter LampEntry.checkable ≠ [] ∧ (docked.lcsAt 2).ignition ≠ some true ∧
    (docked.lcsAt 2).linkHeldLost = false ∧ ((docked.modLcs 2 (fun l => { l with ignition := some true })).lcsAt 2).ignition =
      some true ∧ ((docked.modLcs 2 (fun l => { l with linkHeldLost := true })).lcsAt 2).linkHeldLost = true ∧
    ((lampStep .queued).lcsAt 2).channel = none ∧ ((onChannel .off).lcsAt 2).channel = some 1 ∧
    (onChannel .off).channelQueue.filter (fun x => x != 2) = [] ∧
    [StepPhase.baseline, .light, .settle, .lit, .off].map (fun p => ((lampStep p).lcsAt 2).phase) =
      [.baseline, .light, .settle, .lit, .off] ∧ ((lampStep .off).lcsAt 2).sequence[((lampStep .off).lcsAt 2).index]? = some 3 ∧
    (docked.lcsAt 2).status ≠ .running ∧ (docked.lcsAt 2).status ≠ .paused ∧ ((lampStep .lit).lcsAt 2).status = .running ∧
    ((docked.modLcs 2 (fun l => { l with status := .paused })).lcsAt 2).status = .paused ∧
    ({ (⟨false, true, false⟩ : PauseReasons) with ignition := false }) = ⟨false, false, false⟩ ∧
    ({ (⟨false, true, true⟩ : PauseReasons) with ignition := false }) ≠ ⟨false, false, false⟩ := by decide

/-- R136: ignition ON in LIT pauses the run, leaves the channel and the quiet mark and has the lit circuit switched off. -/
theorem test_ignition_abandons_the_step :
    let t := perform (lcsIgnition 2 true (onChannel .lit))
    (t.lcsAt 2).status = .paused ∧ (t.lcsAt 2).reasons = ⟨false, true, false⟩ ∧ (t.lcsAt 2).owed = some 3 ∧
    t.channels[1] = none ∧ (t.rowAt 2).quiet = false ∧
    ((t.clcAt 2).inflight.map (fun f => f.request)) = some (.lamp 3 false) := by decide +kernel

theorem witness_LampMeasurementEventsAct : ((lampStep .baseline).lcsAt 2).sequence[((lampStep .baseline).lcsAt 2).index]? = some 3 ∧
    ((lampStep .baseline).lcsAt 2).phase = .baseline ∧ ((lampStep .lit).lcsAt 2).phase ≠ .baseline ∧
    ((lampStep .settle).lcsAt 2).phase = .settle ∧ ((lampStep .settle).lcsAt 2).settle ≠ none ∧
    (docked.lcsAt 2).validity = none ∧
    ((docked.modLcs 2 (fun l => { l with validity := some 0 })).lcsAt 2).validity ≠ none ∧
    ((lampStep .lit).lcsAt 2).status = .running ∧ (docked.lcsAt 2).status ≠ .running ∧ (docked.lcsAt 2).status ≠ .paused := by
  decide

/-- A RUNNING run between steps: before its first circuit, after its last one in the last pass and in an earlier one, with a
switch-off owed; channels free, taken, the queue filled; a step that has an outcome; a session that stands; modes. -/
theorem witness_LampMeasurementEventsAct_course :
    let s := fun (i p : Nat) (o : Option Nat) => (lampStep .none).modLcs 2 (fun l => { l with index := i, passes := p, owed := o })
    ((s 0 1 none).lcsAt 2).status = .running ∧ ((s 0 1 none).lcsAt 2).phase = .none ∧
    ((s 0 1 none).lcsAt 2).index < ((s 0 1 none).lcsAt 2).sequence.length ∧
    ((s 1 1 none).lcsAt 2).sequence.length ≤ ((s 1 1 none).lcsAt 2).index ∧ ((s 1 1 none).lcsAt 2).passes ≤ 1 ∧
    ((s 1 2 none).lcsAt 2).pass < ((s 1 2 none).lcsAt 2).passes ∧ ((s 0 1 (some 3)).lcsAt 2).owed = some 3 ∧
    (s 0 1 none).channels[0] = none ∧ (∀ d : Fin 4, d < 0 → (s 0 1 none).channels[d] ≠ none) ∧ (s 0 1 none).channelQueue = [] ∧
    { docked with channels := Vector.replicate 4 (some 5), channelQueue := [6] }.channelQueue ≠ [] ∧
    (((lampStep .light).modLcs 2 (fun l => { l with outcome := some (.disturbed, none) })).lcsAt 2).outcome ≠ none ∧
    ((lampStep .light).lcsAt 2).outcome = none ∧ (docked.clcAt 2).link = .active ∧ (arrived.clcAt 2).link ≠ .active ∧
    (docked.bfeAt 2).enabled = true ∧ (docked.bfeAt 2).plug = true ∧ (docked.dkuAt 2).state = .docked ∧
    (arrived.bfeAt 2).plug = false ∧ ((lampStep .lit).lcsAt 2).mode = .run ∧
    (((lampStep .off).modLcs 2 (fun l => { l with mode := .step, passes := 2 })).lcsAt 2).mode = .step ∧
    (∀ x ∈ (docked.lcsAt 2).results, x.outcome = .pass) ∧ ¬ ∀ x ∈ ((lampStep .none).lcsAt 2).results, x.outcome = .pass := by
  decide

/-- R75: LOW makes circuit 63's verdict FAILED and confirms its entry, DISTURBED leaves both, PASS makes the pair of an ACTIVE
entry unconfirmed; R125: a departure that asks for a check with the setting on, and one that does not. -/
theorem witness_LampMeasurementEventsAct_verdicts :
    let f := { Frd.reset with table := ⟨[{ faultAt 0 with circuit := some 63 }], .clear, 0, .none⟩ }
    (f.takeOutcome 63 .low).verdicts[63]? = some .failed ∧
    (f.takeOutcome 63 .low).table.entries.map FaultEntry.confirmed = [true] ∧ f.takeOutcome 63 .disturbed = f ∧
    (f.takeOutcome 63 .pass).unconfirmed = [(9, 2050)] ∧ (f.takeOutcome 62 .pass).unconfirmed = [] ∧
    { scheduled with departures := [{ departure7 with lampCheck := true }] }.activeOf 2 = some { departure7 with lampCheck := true } ∧
    scheduled.setting 12 = 1 ∧ departure7.lampCheck = false := by decide

/-- R134, R126: a stage removed in BASELINE ends the step, which is tried again; in mode STEP the run pauses. -/
theorem test_removed_stage_disturbs_the_baseline :
    let t := fun (m : LampMode) => perform (lcsRemoved 2 ((onChannel .baseline).modLcs 2 (fun l => { l with mode := m })))
    ((t .run).lcsAt 2).tries = 2 ∧ ((t .run).lcsAt 2).phase = .baseline ∧
    ((t .run).lcsAt 2).results.map LampResult.measurements = [1] ∧ ((t .step).lcsAt 2).status = .paused ∧
    ((t .step).lcsAt 2).reasons = ⟨true, false, false⟩ ∧ ((t .step).lcsAt 2).channel = none := by decide +kernel

/-- A step's outcome at each try, retried or standing; none; past the sequence. -/
theorem witness_StandingOutcomeKeepsTheWorst :
    let l := fun (o : LampOutcome) (n : Nat) =>
      { (lampStep .off).lcsAt 2 with outcome := some (o, none), tries := n }
    (l .disturbed 2).outcome = some (.disturbed, none) ∧ (l .disturbed 2).sequence[(l .disturbed 2).index]? = some 3 ∧
    (l .disturbed 2).tries < 3 ∧ 3 ≤ (l .lowSupply 3).tries ∧ (l .pass 1).outcome = some (.pass, none) ∧
    (docked.lcsAt 2).outcome = none ∧ (docked.lcsAt 2).sequence.length ≤ (docked.lcsAt 2).index ∧
    (⟨3, .front, 210, 20, .notChecked, none, 0, none⟩ : LampResult).outcome = .notChecked ∧
    LampOutcome.notChecked.severity < LampOutcome.pass.severity := by decide

theorem witness_LampOutcomeFollowsFromTheFigures :
    ((lampStep .lit).lcsAt 2).sequence[((lampStep .lit).lcsAt 2).index]? = some 3 ∧
    ((lampStep .lit).lcsAt 2).results.find? (fun x => x.circuit == 3) = some ⟨3, .front, 210, 20, .notChecked, none, 0, none⟩ ∧
    ((lampStep .lit).lcsAt 2).phase = .lit ∧ ((lampStep .off).lcsAt 2).phase ≠ .lit := by decide

theorem witness_DepartureAddPutsTheRecordIn :
    departureFieldsOf ⟨7, 24000, 300, 1, 2, 30⟩ = some ⟨24000, some 300, some 1, true, .either, 30, false⟩ ∧
    departureFieldsOf ⟨7, 24000, 301, 1, 2, 31⟩ = some ⟨24000, some 300, some 1, true, .either, 30, true⟩ ∧
    departureFieldsOf ⟨7, 24000, 300, 1, 3, 30⟩ = none ∧ departureFieldsOf ⟨2, 24000, 300, 0, 2, 30⟩ = none ∧
    waiversOf 15 = some ⟨true, true, true, true⟩ ∧ waiversOf 16 = none ∧ State.reset.clock.isSet = false ∧
    scheduled.clock.isSet = true ∧ scheduled.departureOf 7 ≠ none ∧ scheduled.departureOf 8 = none ∧
    scheduled.departures.length < 64 ∧ scheduled.aheadOfPinned 2 0 = false ∧
    (scheduled.setClear 2 .clearing).aheadOfPinned 2 23999 = true := by decide

/-- The earliest record is the active one, and is not. -/
theorem witness_DepartureAddPutsTheRecordIn_active :
    (scheduled.departures.find? (fun d => d.bay == 2)).map Departure.id = (scheduled.dpmAt 2).active ∧
    ([departure7].find? (fun d => d.bay == 2)).map Departure.id ≠ ({ docked with departures := [departure7] }.dpmAt 2).active := by decide

/-- A list of 64 records. -/
theorem witness_full_departure_list : 64 ≤ { docked with departures := List.replicate 64 departure7 }.departures.length := by
  simp

theorem witness_DepartureChangesActOnTheRecord : scheduled.departureOf 7 = some departure7 ∧
    (scheduled.clrAt 2).state.pins = false ∧ ((scheduled.setClear 2 .clearing).clrAt 2).state.pins = true ∧
    ((scheduled.setClear 2 .clearing).dpmAt 2).active = some 7 ∧
    departureFieldsOf ⟨1, 24000, 200, 0, 2, 10⟩ = some ⟨24000, some 200, none, false, .either, 10, false⟩ ∧
    departure7.amend ⟨24000, some 200, none, false, .either, 10, false⟩ = departure7 ∧
    departure7.amend ⟨24001, some 200, none, false, .either, 10, false⟩ ≠ departure7 ∧ waiversOf 0 = some .none := by decide

/-- A clamped AMEND to a later time: the lead of 45 minutes is taken as 30, and the record stands in the list after it. -/
theorem witness_DepartureChangesActOnTheRecord_clamped :
    departureFieldsOf ⟨1, 24001, 200, 0, 2, 45⟩ = some ⟨24001, some 200, none, false, .either, 30, true⟩ ∧
    scheduled.aheadOfPinned 2 24001 = false ∧ (scheduled.setClear 2 .clearing).aheadOfPinned 2 23999 = true ∧
    (after (.departureAmend 7 ⟨1, 24001, 200, 0, 2, 45⟩) scheduled).departures =
      [{ departure7 with time := 24001, lead := 30 }] := by decide

theorem witness_InsertedRecordStandsBehindItsTime :
    [departure7, { departure7 with id := 8, time := 24001 }].Pairwise (fun x y => x.time ≤ y.time) := by decide

theorem witness_HoldRequestsMoveTheStacks :
    4 ≤ (⟨1, [1, 1, 1, 1]⟩ : HoldStack).saved.length ∧ (⟨1, [1, 1, 1]⟩ : HoldStack).saved.length < 4 ∧
    (docked.dpmAt 2).operator.saved = [] ∧ (⟨1, [0]⟩ : HoldStack).saved = [0] ∧ docked.hallHold.saved = [] := by decide

theorem witness_EffectiveHoldSetIsDerived : (docked.dpmAt 2).frozen = false ∧
    ((docked.modDpm 2 (fun d => { d with frozen := true })).dpmAt 2).frozen = true ∧
    State.reset.effective 2 = (State.reset.dpmAt 2).reported ∧
    (docked.modDpm 2 (fun d => { d with operator := ⟨1, [0]⟩ })).effective 2 ≠ (docked.dpmAt 2).reported := by decide

/-- R153, R98: a heat report that changes something and one that does not. -/
theorem witness_EffectiveHoldSetIsDerived_reports :
    (tellHeat 2 docked).2 = [] ∧
    (let s := scheduled.modHpl 2 (fun h => { h with plan := planIn .holding none });
      ((tellHeat 2 s).1.dpmAt 2).conditions.readiness = .ready ∧ ((tellHeat 2 s).1.dpmAt 2).conditions.stale = true) ∧
    ((tellLink 2 (docked.modClc 2 (fun c => { c with link := .lost }))).1.dpmAt 2).conditions.linkLost = true := by decide

/-- The bay with departure 7 in the wait order, lane A held by bay 3 or FREE. -/
def waiting (a : LaneState) : State :=
  { (scheduled.setClear 2 .queued).modLane .a (fun _ => ⟨a, if a = .granted then some 3 else none, false, none⟩) with
    waitOrder := [5, 2] }

theorem witness_LaneRequestsCloseAndOpen : 2 ≤ (2 : Byte).toNat ∧ (docked.laneAt .b).state = .free ∧
    (clearing.laneAt .a).state = .granted ∧ ((laneHeld .passageWait (some 5)).laneAt .a).state = .passageWait ∧
    ((docked.modLane .b (fun r => { r with state := .closed })).laneAt .b).state = .closed ∧
    ((waiting .free).laneAt .a).state = .free ∧ (waiting .free).waitOrder = [5] ++ 2 :: [] ∧
    (waiting .free).activeOf 5 = none ∧ (waiting .free).activeOf 2 = some departure7 ∧ departure7.lane = .either ∧
    (waiting .free).laneA.holder ≠ some 2 ∧ (waiting .free).laneB.holder ≠ some 2 ∧ 2 ∈ (waiting .free).waitOrder ∧
    3 ∉ (waiting .free).waitOrder ∧ (waiting .granted).laneA.state ≠ .free ∧ (waiting .granted).laneB.state = .free ∧
    ((waiting .granted).modLane .b (fun r => { r with state := .closed })).laneB.state ≠ .free ∧
    (clearing.clrAt 2).state = .clearing := by decide

theorem witness_ClearanceTimersAndPassagesAct : (docked.clrAt 2).openWait = none ∧ (clearing.clrAt 2).openWait ≠ none ∧
    (clearing.clrAt 2).state = .clearing ∧ (clearing.clrAt 2).openRequest = false ∧
    (docked.clrAt 2).plugTimer = none ∧ (clearing.clrAt 2).plugTimer ≠ none ∧
    ((docked.modClr 2 (fun c => { c with plugTimer := some 1 })).clrAt 2).state ≠ .clearing ∧
    (clearing.laneAt .a).state = .granted ∧ (clearing.laneAt .a).holder = some 2 ∧ (clearing.laneAt .b).holder ≠ some 2 ∧
    (docked.laneAt .a).holder ≠ some 2 ∧ (docked.laneAt .b).holder ≠ some 2 ∧ (clearing.dpmAt 2).reported.held = true ∧
    ((clearing.modDpm 2 (fun d => { d with reported := ⟨.none, 0⟩ })).dpmAt 2).reported.held = false ∧
    (docked.laneAt .a).state ≠ .passageWait ∧ (docked.laneAt .a).timer = none ∧
    ((laneHeld .passageWait (some 0)).laneAt .a).state = .passageWait ∧
    ((laneHeld .passageWait (some 0)).laneAt .a).timer ≠ none ∧ docked.hallInputs.gateA = none ∧
    (docked.modInputs (fun i => { i with gateA := some 100 })).hallInputs.gateA = some 100 := by decide

/-- A bay in each state that settles, revoking or not, DOCKING, RECALLED and CLEARED; a wait order in key order. -/
theorem witness_ClearanceTimersAndPassagesAct_states : (docked.clrAt 2).state = .preparing ∧ (docked.clrAt 2).revoking = false ∧
    ((docked.modClr 2 (fun c => { c with revoking := true })).clrAt 2).revoking = true ∧ (docked.clrAt 2).holds.held = true ∧
    ((docked.modClr 2 (fun c => { c with holds := ⟨.none, 0⟩ })).clrAt 2).holds.held = false ∧
    [ClearState.docking, .scanning, .recalled, .cleared].map (fun st => ((docked.setClear 2 st).clrAt 2).state) =
      [.docking, .scanning, .recalled, .cleared] ∧
    2 ∉ [(3 : BayNo), 5] ∧ (docked.dpmAt 2).reported.held = true ∧
    [(3 : BayNo), 5].Pairwise (fun x y => x.val < y.val) ∧ docked.activeOf 3 = none ∧ docked.activeOf 5 = none := by decide

theorem witness_FieldInputsAreDebounced : docked.hallInputs.gateA.getD 0 < 100 ∧
    (docked.modInputs (fun i => { i with gateB := some 99 })).hallInputs.gateB.getD 0 < 100 ∧
    100 ≤ (docked.modInputs (fun i => { i with gateB := some 100 })).hallInputs.gateB.getD 0 ∧
    (docked.bfeAt 2).presenceTimer = none ∧ ((docked.modBfe 2 (fun f => { f with presenceTimer := some 0 })).bfeAt 2).presenceTimer ≠ none ∧
    (docked.bfeAt 2).plugTimer = none ∧ ((docked.modBfe 2 (fun f => { f with plugTimer := some 0 })).bfeAt 2).plug = true ∧
    ((arrived.modBfe 2 (fun f => { f with plugTimer := some 0 })).bfeAt 2).plug = false ∧ docked.hallInputs.shedTimer = none ∧
    (docked.modInputs (fun i => { i with shedTimer := some 0 })).hallInputs.shedTimer ≠ none := by decide

/-- The bay with departure 7 left by its coach, CLEARED or RECALLED, with lane A and without. -/
def leaving (st : ClearState) (lane : LaneState) : State :=
  (((((scheduled.modLane .a (fun _ => ⟨lane, if lane = .granted then some 2 else none, false, none⟩)).setClear 2 st).modClr 2
    (fun c => { c with openRequest := true })).modDpm 2 (fun d => { d with frozen := true })).modDku 2 (fun d =>
    { d with state := .undocked, retained := true })).modBfe 2 (fun f =>
      { f with rawPlug := false, plug := false, rawPresence := false, presenceTimer := some 0 })

/-- A bay in each clearance state; the GRANTED lane held, and no other; no lane held; an active departure. -/
theorem witness_FieldInputsAreDebounced_states :
    (∀ st ∈ [ClearState.outOfService, .empty, .arrived, .docking, .preparing, .ready, .scanning, .queued, .clearing, .cleared,
      .recalled], ((docked.setClear 2 st).clrAt 2).state = st) ∧
    ((leaving .cleared .granted).laneAt .a).state = .granted ∧ ((leaving .cleared .granted).laneAt .a).holder = some 2 ∧
    ((leaving .cleared .granted).laneAt .b).holder ≠ some 2 ∧ ((leaving .recalled .free).laneAt .a).holder ≠ some 2 ∧
    ((leaving .recalled .free).laneAt .b).holder ≠ some 2 ∧ (scheduled.dpmAt 2).active = some 7 := by decide

/-- R152, R172: a CLEARED bay turned VACANT is EMPTY and DARK, its freeze over, its lane in PASSAGE_WAIT for 300 s, its
departure off the list, DEPARTED raised as CLEARED; a RECALLED one without a lane is reported UNCLEARED. -/
theorem test_vacancy_is_the_departed_event :
    let t := after (.presenceChange 2) (leaving .cleared .granted)
    let u := after (.presenceChange 2) (leaving .recalled .free)
    (t.clrAt 2).state = .empty ∧ (t.bfeAt 2).aspect = .dark ∧ (t.clrAt 2).openRequest = false ∧ (t.dpmAt 2).frozen = false ∧
    t.laneA = ⟨.passageWait, some 2, false, some 300000⟩ ∧ t.departures = [] ∧ (t.dpmAt 2).active = none ∧
    t.flag 2 .departed = ⟨true, .departure 7, false, 1⟩ ∧ (t.dkuAt 2).retained = false ∧
    (u.clrAt 2).state = .empty ∧ u.laneA.state = .free ∧ u.flag 2 .departed = ⟨true, .departure 7, true, 1⟩ := by
  decide +kernel

theorem witness_LinkTimingEventsAct :
    ((inFlight ⟨.ident, some .read, 1, .ready 0⟩).clcAt 2).inflight = some ⟨.ident, some .read, 1, .ready 0⟩ ∧
    (docked.clcAt 2).lineOut = [] ∧ (docked.clcAt 2).inflight = none ∧ (docked.clcAt 2).poll = none ∧
    2 ≤ (docked.clcAt 2).quiet ∧ ((docked.modClc 2 (fun c => { c with quiet := 1 })).clcAt 2).quiet < 2 ∧
    ((docked.modClc 2 (fun c => { c with lineOut := [0xA5] })).clcAt 2).lineOut ≠ [] ∧
    let s := docked.modClc 2 (fun c => { c with link := .lost, reprobe := some 0, poll := some 0 })
    (s.clcAt 2).link = .lost ∧ (s.clcAt 2).reprobe ≠ none ∧ (s.clcAt 2).poll ≠ none ∧ (s.clcAt 2).link ≠ .active ∧
    let u := docked.modClc 2 (fun c => { c with poll := some 0 })
    (u.clcAt 2).link = .active ∧ (u.clcAt 2).polling = false ∧ (u.clcAt 2).heatSlot = none ∧ (u.clcAt 2).lampSlot = none ∧
    (u.clcAt 2).readSlot = none := by decide

/-- R19: a reply start other than SYNC fails the attempt at once; SYNC ends the wait. -/
theorem test_replyStart_must_be_SYNC :
    let s := inFlight ⟨.status, some .poll, 1, .waiting 40⟩
    ((after (.replyStart ⟨2, 0xA4⟩) s).clcAt 2).inflight = some ⟨.status, some .poll, 2, .ready 100⟩ ∧
    ((after (.replyStart ⟨2, 0xA4⟩) s).clcAt 2).attemptErrors = 1 ∧
    ((after (.replyStart ⟨2, 0xA5⟩) s).clcAt 2).inflight = some ⟨.status, some .poll, 1, .receiving⟩ := by decide

/-- A link in each state, nothing in flight, each slot filled in turn; a transaction reported, a re-probe in flight, one that
is ready while a frame is on the line. -/
theorem witness_LinkTimingEventsAct_link : (docked.clcAt 2).link = .active ∧ (docked.clcAt 2).inflight = none ∧
    (docked.clcAt 2).heatSlot = none ∧ (docked.clcAt 2).lampSlot = none ∧ (docked.clcAt 2).readSlot = none ∧
    (docked.clcAt 2).pollSlot = false ∧ (arrived.clcAt 2).link = .down ∧
    (let c := { docked.clcAt 2 with heatSlot := some 0, lampSlot := some (63, true), readSlot := some .ident, pollSlot := true };
      c.heatSlot = some 0 ∧ c.lampSlot = some (63, true) ∧ c.readSlot = some .ident ∧ c.pollSlot = true) ∧
    ((docked.modClc 2 (fun c => { c with link := .lost })).clcAt 2).link = .lost ∧
    ((inFlight ⟨.status, none, 1, .ready 0⟩).clcAt 2).inflight.map InFlight.cls = some none ∧
    ((inFlight ⟨.stage 0, some .heat, 1, .reporting⟩).clcAt 2).inflight = some ⟨.stage 0, some .heat, 1, .reporting⟩ ∧
    (⟨.stage 0, some .heat, 1, .ready 0⟩ : InFlight).phase ≠ .reporting ∧
    (⟨.stage 0, some .heat, 1, .ready 0⟩ : InFlight).phase ≠ .sending ∧
    (((inFlight ⟨.stage 0, some .heat, 1, .ready 0⟩).modClc 2 (fun c => { c with lineOut := [0xA5] })).clcAt 2).lineOut ≠ [] := by
  decide

theorem witness_FailedAttemptsAreRepeatedAndCounted :
    FailsAttempt 2 ⟨.status, some .poll, 3, .waiting 0⟩ (.noReply 2) ∧
    FailsAttempt 2 ⟨.status, some .poll, 2, .receiving⟩ (.replyGap 2) ∧
    FailsAttempt 2 ⟨.status, none, 3, .receiving⟩ (.replyCharacterError 2) ∧
    FailsAttempt 2 ⟨.status, some .poll, 3, .receiving⟩ (.replyFrame ⟨2, 0xA5⟩ 0x94 [] 0) ∧
    FailsAttempt 2 ⟨.status, some .poll, 1, .waiting 0⟩ (.replyStart ⟨2, 0xA4⟩) ∧
    FailsAttempt 2 ⟨.status, some .poll, 1, .waiting 0⟩ (.replyFrame ⟨2, 0xA4⟩ 0x94 [0, 0, 0, 1] 0) ∧
    (docked.clcAt 2).attemptErrors ≤ 65535 ∧ (docked.clcAt 2).failures = 0 ∧
    ((docked.modClc 2 (fun c => { c with failures := 1 })).clcAt 2).failures ≠ 0 :=
  ⟨⟨rfl, _, rfl⟩, ⟨rfl, rfl⟩, ⟨rfl, .inr rfl⟩, ⟨rfl, .inr rfl, .inr (.inr (.inr rfl))⟩, ⟨rfl, ⟨_, rfl⟩, by decide⟩,
    ⟨rfl, .inl ⟨_, rfl⟩, .inl (by decide)⟩, by decide, by decide, by decide⟩

theorem witness_GoodReplyEndsTheTransaction :
    crc8 (checkedBytes 0x95 []) = 0xE2 ∧ readReply (.lamp 3 true) 0x95 [] = some (.done .done) ∧
    readReply .status 0x94 [0, 0, 0, 1] = some (.done (.status none false false false 1)) ∧
    (docked.clcAt 2).inflight = none ∧ (List.replicate 32 (0 : Byte)).length ≤ 32 := by decide +kernel

/-- Codes and lengths that a reply may not have, each alone. -/
theorem witness_GoodReplyEndsTheTransaction_wrong : (0xEE : Byte) ≠ 0x90 ∧ (0x90 : Byte) ≠ 0x91 ∧ (0x91 : Byte) ≠ 0x92 ∧
    (0x95 : Byte) ≠ 0x94 ∧ [(1 : Byte), 0, 12].length < 4 ∧ [(1 : Byte)].length < 2 ∧ ([] : List Byte).length < 1 := by decide

/-- R21, R198: bit 0 the temperature, 1 ignition, 2 heater stop, 3 change; R20: a fleet number low byte first, not 0. -/
theorem test_readReply_layouts :
    readReply .status 0x94 [0x03, 0xB0, 0xFF, 9, 7] = some (.done (.status (some (-80)) true false false 8)) ∧
    readReply .status 0x94 [0x0C, 0xB0, 0xFF, 2] = some (.done (.status none false true true 2)) ∧
    readReply .status 0x94 [0x05, 0x59, 0x02, 0] = some (.done (.status none false true false 0)) ∧
    readReply .status 0x94 [0x09, 0x70, 0xFE, 0] = some (.done (.status (some (-400)) false false true 0)) ∧
    readReply .ident 0x90 [0x1F, 0x10, 12, 2] = some (.done (.ident 4127 12 true)) ∧
    readReply .ident 0x90 [0, 0, 12, 1] = none ∧ readReply .ident 0xEE [] = none := by decide

/-- R18, R198: the frames of LAMP circuit 3 ON and of IDENT, their CHECK worked out outside the model. -/
theorem test_request_frames : (BayRequest.lamp 3 true).frame = [0xA5, 0x02, 0x15, 0x03, 0x01, 0x76] ∧
    BayRequest.ident.frame = [0xA5, 0x00, 0x10, 0x70] := by decide +kernel

/-- R176: the lane of a CLEARING bay is released, CLOSED where a close was pending; one in PASSAGE_WAIT stands; a CLEARED bay
keeps its lane, and one whose set derived anew holds a reason is RECALLED and leaves it. -/
theorem witness_RestartKeepsWhatItKeepsAndEmptiesTheRest :
    (after .restart clearing).laneA = ⟨.free, none, false, none⟩ ∧
    (after .restart (clearing.modLane .a (fun r => { r with closePending := true }))).laneA = ⟨.closed, none, false, none⟩ ∧
    (after .restart (laneHeld .passageWait (some 5))).laneA = ⟨.passageWait, some 2, false, some 5⟩ ∧
    (let t := after .restart (leaving .cleared .granted);
      (t.clrAt 2).state = .cleared ∧ t.laneA = ⟨.granted, some 2, false, none⟩ ∧ (t.clrAt 2).openRequest = true) ∧
    (let t := after .restart ((leaving .cleared .granted).modDpm 2 (fun d => { d with operator := ⟨1, [0]⟩ }));
      (t.clrAt 2).state = .recalled ∧ t.laneA = ⟨.free, none, false, none⟩) ∧
    (∀ b, ¬ (clearing.laneA.holder = some b ∧ clearing.laneB.holder = some b)) := by decide +kernel

end Sys2Proof.Tests
end

section
/-! O35 (R79). AMBIENT_SET as one equation, the two cases of a recomputation, and what POWER_ON and each step of RESTART
do to the ambient. -/

namespace Sys2Proof.Machine

/-! ## Replies as what is sent -/

theorem replyKind_of_request {kind : Nat} (h : kind < 0x80) : replyKind (byte kind) = byte kind + 0x80 := by
  have : (byte kind).toNat < 0x80 := by simp only [byte, BitVec.toNat_ofNat]; omega
  simp [replyKind, this]

/-- OK or OK_CLAMPED as what goes on the line (R180). -/
theorem takenReply_eq_sends (kind : Nat) (clamped : Bool) (data : List Byte) (s : State) :
    takenReply kind clamped data s =
      s.sends (replyKind (byte kind)) ((if clamped then 1 else 0) :: data) := by
  cases clamped <;> rfl

@[simp] theorem sends_given (kind : Byte) (payload : List Byte) (s : State) :
    (s.sends kind payload).given = { s.given with sending := some ⟨kind, payload⟩ } := rfl

@[simp] theorem okReply_ambient (kind : Nat) (data : List Byte) (s : State) :
    (okReply kind data s).ambient = s.ambient := rfl

/-! ## AMBIENT_SET -/

/-- What AMBIENT_SET answers: the value taken, after OK when it is the value carried and OK_CLAMPED when it is not. -/
def ambientReply (x : Word16) : List Byte :=
  (if ambientTaken x = x.toInt then 0 else 1) :: bytes16 (BitVec.ofInt 16 (ambientTaken x))

theorem exec_ambientSet (x : Word16) (s : State) :
    exec (.ambientSet x) s =
      .next ((perform ({ s with ambient := ambientTaken x }, allBays.map .hplRecompute)).sends 0xB0 (ambientReply x)) := by
  show Host.Outcome.next (takenReply 0x30 (ambientTaken x != x.toInt) (signed16 (ambientTaken x)) _) = _
  rw [takenReply_eq_sends, replyKind_of_request (by decide)]
  by_cases asSent : ambientTaken x = x.toInt <;> simp [ambientReply, signed16, byte, asSent]

/-- The recomputations of all bays change nothing given, so AMBIENT_SET gives the ambient and its reply alone. -/
theorem ambientSet_given (x : Word16) (s : State) :
    ((perform ({ s with ambient := ambientTaken x }, allBays.map .hplRecompute)).sends 0xB0 (ambientReply x)).given =
      { s.given with ambient := ambientTaken x, sending := some ⟨0xB0, ambientReply x⟩ } := by
  rw [sends_given, perform_given]
  rfl

/-! ## The recomputation at a hall-wide event -/

theorem PlanState.active_eq_false_iff {st : PlanState} : st.active = false ↔ st = .none ∨ st = .ended := by
  cases st <;> simp [PlanState.active]

theorem PlanState.active_iff {st : PlanState} : st.active = true ↔ st ≠ .none ∧ st ≠ .ended := by
  cases st <;> simp [PlanState.active]

theorem hplRecompute_of_inactive {b : BayNo} {s : State} (h : (s.hplAt b).plan.state.active = false) :
    hplRecompute b s = (s, []) := by
  simp [hplRecompute, h, done]

theorem hplRecompute_of_active {b : BayNo} {s : State} (h : (s.hplAt b).plan.state.active = true) :
    hplRecompute b s =
      takeCourse b ((s.computed b (s.hplAt b).plan).recomputed (s.heatClock b)) s := by
  simp [hplRecompute, State.recompute, h]

/-! ## The ambient through power-on and RESTART -/

/-- What each bay's turn keeps, all turns keep. -/
theorem forBays_keeps {α : Type} (get : State → α) {f : BayNo → State → State}
    (h : ∀ b s, get (f b s) = get s) (s : State) : get (forBays f s) = get s := by
  suffices ∀ bs : List BayNo, get (bs.foldl (fun t b => f b t) s) = get s from this allBays
  intro bs
  induction bs generalizing s with
  | nil => rfl
  | cons b bs ih => exact (ih (f b s)).trans (h b s)

@[simp] theorem poweredOn_ambient (s : State) : (poweredOn s).ambient = 0 :=
  forBays_keeps State.ambient (fun _ _ => rfl) _

theorem ambient_of_fixed {s t : State} (h : t.fixed = s.fixed) : t.ambient = s.ambient := congrArg Fixed.ambient h

theorem ambient_of_given {s t : State} (h : t.given = s.given) : t.ambient = s.ambient := congrArg Given.ambient h

theorem perform_ambient (r : Reaction) : (perform r).ambient = r.1.ambient := ambient_of_given (perform_given r)

theorem laneReleaseOf_ambient (b : BayNo) (s : State) : (laneReleaseOf b s).1.ambient = s.ambient :=
  ambient_of_given (given_of_quiet (laneReleaseOf_quiet b s))

theorem restartLink_ambient (b : BayNo) (s : State) : (restartLink b s).ambient = s.ambient := by
  unfold restartLink
  split
  · rfl
  · rw [State.modRow_ambient, ambient_of_fixed (submitStage_fixed b 0 _), State.modClc_ambient]

theorem restartSession_ambient (b : BayNo) (s : State) : (restartSession b s).ambient = s.ambient := rfl

theorem restartHall_ambient (s : State) : (restartHall s).ambient = s.ambient := rfl

theorem restartField_ambient (b : BayNo) (s : State) : (restartField b s).ambient = s.ambient := rfl

theorem restartOrder_ambient (s : State) : (restartOrder s).ambient = s.ambient := rfl

theorem restartClearing_ambient (b : BayNo) (s : State) : (restartClearing b s).ambient = s.ambient := by
  unfold restartClearing
  split
  · rw [perform_ambient, laneReleaseOf_ambient, State.modClr_ambient]
  · rfl

theorem restartClearance_ambient (b : BayNo) (s : State) : (restartClearance b s).ambient = s.ambient := by
  unfold restartClearance
  dsimp only
  split <;> rfl

theorem restartDocking_ambient (b : BayNo) (s : State) : (restartDocking b s).ambient = s.ambient := by
  unfold restartDocking
  split
  · rw [ambient_of_fixed (dkuSubmit_fixed b .ident _), State.modClc_ambient, State.modDku_ambient]
  · rfl

theorem restartFlags_ambient (b : BayNo) (s : State) : (restartFlags b s).ambient = s.ambient := by
  unfold restartFlags
  dsimp only
  split <;> split <;> rfl

theorem restartAllFlags_ambient (s : State) : (restartAllFlags s).ambient = s.ambient := by
  unfold restartAllFlags
  rw [forBays_keeps State.ambient restartFlags_ambient]
  split <;> rfl

theorem restartHolds_ambient (b : BayNo) (s : State) : (restartHolds b s).ambient = s.ambient := by
  unfold restartHolds
  rw [perform_ambient, ambient_of_fixed (rederive_fixed b _), State.modDpm_ambient]

theorem restartBlocks_ambient (s : State) : (restartBlocks s).ambient = s.ambient := by
  unfold restartBlocks
  rw [forBays_keeps State.ambient restartClearance_ambient, forBays_keeps State.ambient restartClearing_ambient,
    restartOrder_ambient, forBays_keeps State.ambient restartField_ambient, restartHall_ambient,
    forBays_keeps State.ambient restartSession_ambient, forBays_keeps State.ambient restartLink_ambient]

/-- RESTART keeps the ambient (R79, R189). -/
@[simp] theorem restarted_ambient (s : State) : (restarted s).ambient = s.ambient := by
  unfold restarted State.reattend
  rw [State.modHli_ambient, forBays_keeps State.ambient restartHolds_ambient, restartAllFlags_ambient,
    forBays_keeps State.ambient restartDocking_ambient, restartBlocks_ambient]

/-- Settles O35: AMBIENT_SET by its equation and what notices leave alone, the recomputation by whether the plan runs, the
resets step by step. -/
theorem ambientSetTakesTheAmbient : Obligations.AmbientSetTakesTheAmbient := by
  unfold Obligations.AmbientSetTakesTheAmbient
  refine ⟨fun x s => ⟨exec_ambientSet x s, _, exec_ambientSet x s, ambientSet_given x s⟩, fun b s idle => ?_,
    fun b s notNone notEnded => ?_, fun s t step => ?_, fun s t step => ?_, fun b s => ⟨_, rfl⟩⟩
  · exact hplRecompute_of_inactive (PlanState.active_eq_false_iff.mpr idle)
  · exact hplRecompute_of_active (PlanState.active_iff.mpr ⟨notNone, notEnded⟩)
  · obtain rfl : poweredOn s = t := Host.Outcome.next.inj step
    exact poweredOn_ambient s
  · obtain rfl : okReply 0x02 [] (restarted s) = t := Host.Outcome.next.inj step
    exact (okReply_ambient _ _ _).trans (restarted_ambient s)

end Sys2Proof.Machine
end

section
/-! O39 (R103). What RESTART leaves of everything given, step by step, and the two shed requests as one equation per case:
what is refused, and what a change of the host part answers. -/

namespace Sys2Proof.Machine

/-! ## RESTART keeps what is given (R189) -/

theorem given_of_fixed {s t : State} (h : t.fixed = s.fixed) : t.given = s.given := given_of_quiet (quiet_of_fixed h)

theorem restartLink_fixed (b : BayNo) (s : State) : (restartLink b s).fixed = s.fixed := by
  unfold restartLink
  split
  · rfl
  · rw [State.modRow_fixed, submitStage_fixed, State.modClc_fixed]

theorem restartSession_fixed (b : BayNo) (s : State) : (restartSession b s).fixed = s.fixed := rfl

theorem restartHall_fixed (s : State) : (restartHall s).fixed = s.fixed := rfl

theorem restartField_quiet (b : BayNo) (s : State) : (restartField b s).quiet = s.quiet := by
  unfold restartField
  rw [State.modBfe_quiet _ _ _ rfl, quiet_of_fixed (State.modDku_fixed _ _ _)]

theorem restartOrder_quiet (s : State) : (restartOrder s).quiet = s.quiet := rfl

theorem restartClearing_given (b : BayNo) (s : State) : (restartClearing b s).given = s.given := by
  unfold restartClearing
  split
  · rw [perform_given, given_of_quiet (laneReleaseOf_quiet b _), given_of_quiet (State.modClr_quiet _ _ _)]
  · rfl

theorem restartClearance_quiet (b : BayNo) (s : State) : (restartClearance b s).quiet = s.quiet := by
  unfold restartClearance
  dsimp only
  split
  · rfl
  · rw [State.setClear_quiet, State.modClr_quiet]

theorem restartBlocks_given (s : State) : (restartBlocks s).given = s.given := by
  unfold restartBlocks
  rw [forBays_keeps State.given (fun b s => given_of_quiet (restartClearance_quiet b s)),
    forBays_keeps State.given restartClearing_given, given_of_quiet (restartOrder_quiet _),
    forBays_keeps State.given (fun b s => given_of_quiet (restartField_quiet b s)), given_of_fixed (restartHall_fixed _),
    forBays_keeps State.given (fun b s => given_of_fixed (restartSession_fixed b s)),
    forBays_keeps State.given (fun b s => given_of_fixed (restartLink_fixed b s))]

theorem restartDocking_fixed (b : BayNo) (s : State) : (restartDocking b s).fixed = s.fixed := by
  unfold restartDocking
  split
  · rw [dkuSubmit_fixed, State.modClc_fixed, State.modDku_fixed]
  · rfl

theorem restartFlags_given (b : BayNo) (s : State) : (restartFlags b s).given = s.given := by
  unfold restartFlags
  dsimp only
  split <;> split <;> simp only [raiseFlag_given]

theorem restartAllFlags_given (s : State) : (restartAllFlags s).given = s.given := by
  unfold restartAllFlags
  rw [forBays_keeps State.given restartFlags_given]
  split <;> rfl

theorem restartHolds_given (b : BayNo) (s : State) : (restartHolds b s).given = s.given := by
  unfold restartHolds
  rw [perform_given, given_of_fixed (rederive_fixed b _)]
  exact given_of_fixed (State.modDpm_fixed _ _ _ fun _ => rfl)

@[simp] theorem restarted_given (s : State) : (restarted s).given = s.given := by
  have keepsMask (t : State) : t.reattend.given = t.given := rfl
  unfold restarted
  rw [keepsMask, forBays_keeps State.given restartHolds_given, restartAllFlags_given,
    forBays_keeps State.given (fun b s => given_of_fixed (restartDocking_fixed b s)), restartBlocks_given]

/-! ## The host part through the resets -/

theorem shedHost_of_given {s t : State} (h : t.given = s.given) : t.feeder.shedHost = s.feeder.shedHost :=
  congrArg Given.shedHost h

@[simp] theorem poweredOn_shedHost (s : State) : (poweredOn s).feeder.shedHost = 0 :=
  forBays_keeps (fun t => t.feeder.shedHost) (fun _ _ => rfl) _

@[simp] theorem okReply_feeder (kind : Nat) (data : List Byte) (s : State) : (okReply kind data s).feeder = s.feeder := rfl

/-! ## Replies as what is sent -/

theorem okReply_eq_sends (kind : Nat) (data : List Byte) (s : State) :
    okReply kind data s = s.sends (replyKind (byte kind)) (0 :: data) := rfl

theorem refuse_eq_sends (kind : Nat) (why : RefusalReason) (s : State) :
    refuse kind why s = s.sends (replyKind (byte kind)) [3, byte (reasonCode why)] := rfl

/-! ## A change of the host part -/

/-- What an accepted shed request answers: OK, then host part, line part and total (R103). -/
def shedReply (host line : Nat) : List Byte := [0, byte host, byte line, byte (host + line)]

/-- Raising SHED and recomputing the budget write nothing given, so the host part is all that a change of it changes. -/
@[simp] theorem changeShedHost_given (n : Nat) (s : State) :
    (changeShedHost n s).given = { s.given with shedHost := n } := by
  unfold changeShedHost
  rw [perform_given]
  rfl

@[simp] theorem changeShedHost_shedHost (n : Nat) (s : State) : (changeShedHost n s).feeder.shedHost = n :=
  congrArg Given.shedHost (changeShedHost_given n s)

@[simp] theorem changeShedHost_shedLine (n : Nat) (s : State) :
    (changeShedHost n s).feeder.shedLine = s.feeder.shedLine :=
  congrArg Given.shedLine (changeShedHost_given n s)

/-- The reply read after the change is the reply worked out from the parts before it. -/
theorem okReply_changeShedHost (kind n : Nat) (s : State) :
    okReply kind (shedData (changeShedHost n s)) (changeShedHost n s) =
      (changeShedHost n s).sends (replyKind (byte kind)) (shedReply n s.feeder.shedLine) := by
  simp only [okReply_eq_sends, shedData, shedReply, Feeder.depth, changeShedHost_shedHost, changeShedHost_shedLine]

/-- An accepted shed request gives the host part and its reply alone. -/
theorem changeShedHost_sends_given (n : Nat) (kind : Byte) (payload : List Byte) (s : State) :
    ((changeShedHost n s).sends kind payload).given =
      { s.given with shedHost := n, sending := some ⟨kind, payload⟩ } := by
  rw [sends_given, changeShedHost_given]

/-! ## SHED_ENTER and SHED_LEAVE -/

theorem exec_shedEnter_of_full {s : State} (full : 14 ≤ s.feeder.shedHost) :
    exec .shedEnter s = .next (s.sends 0xB2 [3, 5]) := by
  have refused : reqShedEnter s = refuse 0x32 .full s := if_pos full
  show Host.Outcome.next (reqShedEnter s) = _
  rw [refused, refuse_eq_sends, replyKind_of_request (by decide)]
  rfl

theorem exec_shedEnter_of_room {s : State} (room : s.feeder.shedHost < 14) :
    exec .shedEnter s = .next ((changeShedHost (s.feeder.shedHost + 1) s).sends 0xB2
      (shedReply (s.feeder.shedHost + 1) s.feeder.shedLine)) := by
  have taken : reqShedEnter s = _ := if_neg (Nat.not_le.mpr room)
  show Host.Outcome.next (reqShedEnter s) = _
  rw [taken, okReply_changeShedHost, replyKind_of_request (by decide)]
  rfl

theorem exec_shedLeave_of_empty {s : State} (empty : s.feeder.shedHost = 0) :
    exec .shedLeave s = .next (s.sends 0xB3 [3, 6]) := by
  have refused : reqShedLeave s = refuse 0x33 .empty s := if_pos empty
  show Host.Outcome.next (reqShedLeave s) = _
  rw [refused, refuse_eq_sends, replyKind_of_request (by decide)]
  rfl

theorem exec_shedLeave_of_nonzero {s : State} (nonzero : s.feeder.shedHost ≠ 0) :
    exec .shedLeave s = .next ((changeShedHost (s.feeder.shedHost - 1) s).sends 0xB3
      (shedReply (s.feeder.shedHost - 1) s.feeder.shedLine)) := by
  have taken : reqShedLeave s = _ := if_neg nonzero
  show Host.Outcome.next (reqShedLeave s) = _
  rw [taken, okReply_changeShedHost, replyKind_of_request (by decide)]
  rfl

/-- Settles O39: each request by its equation in its case and by what a change of the host part leaves of the given, the
resets by what they keep. -/
theorem shedRequestsMoveTheHostPart : Obligations.ShedRequestsMoveTheHostPart := by
  unfold Obligations.ShedRequestsMoveTheHostPart
  refine ⟨fun s => ⟨exec_shedEnter_of_full, fun room => ?enter, exec_shedLeave_of_empty, fun nonzero => ?leave⟩,
    fun s t step => ?powerOn, fun s t step => ?restart, fun s => ⟨exec_shedEnter_of_room, exec_shedLeave_of_nonzero⟩⟩
  case enter => exact ⟨_, exec_shedEnter_of_room room, changeShedHost_sends_given _ _ _ s⟩
  case leave => exact ⟨_, exec_shedLeave_of_nonzero nonzero, changeShedHost_sends_given _ _ _ s⟩
  case powerOn =>
    obtain rfl : poweredOn s = t := Host.Outcome.next.inj step
    exact poweredOn_shedHost s
  case restart =>
    obtain rfl : okReply 0x02 [] (restarted s) = t := Host.Outcome.next.inj step
    rw [okReply_feeder, shedHost_of_given (restarted_given s)]

end Sys2Proof.Machine
end

section
/-! O18 (R187). The identity byte by byte, and IDENT as one equation. -/

namespace Sys2Proof.Machine

/-- Vendor code 0x47A1 and part code 0x0D16, each low byte first (R190), then revision 3. -/
theorem identData_eq : identData = [0xA1, 0x47, 0x16, 0x0D, 3] := by decide

/-- IDENT is its reply alone: OK with the identity. -/
theorem exec_ident (s : State) : exec .ident s = .next (s.sends 0x81 (0 :: identData)) := by
  show Host.Outcome.next (okReply 0x01 identData s) = _
  rw [okReply_eq_sends, replyKind_of_request (by decide)]
  rfl

/-- Settles O18: IDENT by its equation, the identity by its bytes. -/
theorem identAnswersTheIdentity : Obligations.IdentAnswersTheIdentity := by
  unfold Obligations.IdentAnswersTheIdentity
  intro s
  rw [exec_ident, identData_eq]

end Sys2Proof.Machine
end

section
/-! What each notice writes, said once: every notice belongs to one writer, and a state outside what that writer writes is
the same after the notice as before it. -/

namespace Sys2Proof.Machine

/-- The writers of the state: the raisings, the contactor and trip of the BFE, the CLC, DKU, FRD, HPL, FAL and LCS, the
DPM's hold sets, the departure list, and the CLR with the lanes and the exit signals. -/
inductive Writer where
  | raising
  | field
  | link
  | docking
  | faults
  | heat
  | feeder
  | lamps
  | holds
  | list
  | clearance

/-- A grant row without its quiet mark, all that the LCS writes of it. -/
def GrantRow.unmarked (r : GrantRow) : GrantRow := { r with quiet := false }

/-- A state with everything blanked that a writer may write. -/
def State.outside (s : State) : Writer → State
  | .raising =>
    { s with flags := State.reset.flags, hallFlags := State.reset.hallFlags, hli := { s.hli with attn := false } }
  | .field => { s with bfe := State.reset.bfe }
  | .link => { s with clc := State.reset.clc }
  | .docking => { s with dku := State.reset.dku, clc := State.reset.clc }
  | .faults => { s with frd := State.reset.frd, clc := State.reset.clc }
  | .heat => { s with hpl := State.reset.hpl }
  | .feeder =>
    { s with row := State.reset.row, feeder := State.reset.feeder, clc := State.reset.clc, lcs := State.reset.lcs }
  | .lamps =>
    { s with lcs := State.reset.lcs, row := s.row.map GrantRow.unmarked, clc := State.reset.clc, frd := State.reset.frd,
             channels := State.reset.channels, channelQueue := [] }
  | .holds => { s with dpm := State.reset.dpm }
  | .list => { s with departures := [] }
  | .clearance =>
    { s with clr := State.reset.clr, bfe := State.reset.bfe, laneA := .reset, laneB := .reset, waitOrder := [] }

/-- What a writer does not write reads alike in two states that agree outside it. -/
theorem eq_of_outside {α : Type} (get : State → α) {k : Writer} (unwritten : ∀ s, get (s.outside k) = get s)
    {s t : State} (h : t.outside k = s.outside k) : get t = get s := by
  rw [← unwritten t, h, unwritten]

/-- The writer of a notice. -/
def Notice.writer : Notice → Writer
  | .raise _ _ _ _ | .raiseHall _ _ => .raising
  | .contactor _ | .clearTrip _ => .field
  | .clcUp _ | .clcDown _ | .clcDiscard _ | .clcStopPoll _ | .clcNext _ => .link
  | .dkuStart _ | .dkuBegin _ | .dkuSubmit _ _ | .dkuResult _ _ _ | .dkuRecovered _ | .dkuScanCommitted _ | .dkuUndock _ _
  | .dkuRetain _ | .dkuDiscard _ | .dkuMatch _ | .dkuWrongBay _ => .docking
  | .frdRequest _ _ | .frdTakeRescan _ | .frdResult _ _ _ | .frdLost _ | .frdRecovered _ | .frdChange _ | .frdSplit _
  | .frdHeatStop _ | .frdReclassify _ | .frdReshadow _ | .frdClear _ | .frdRetain _ | .frdActiveChanged _ => .faults
  | .hplForm _ _ | .hplNone _ | .hplAmended _ | .hplRecompute _ | .hplStart _ | .hplPoint _ | .hplSample _ _
  | .hplCoachStop _ | .hplEnd _ _ | .hplAddLink _ | .hplDropLink _ | .hplAddClearing _ | .hplDropClearing _
  | .hplDocked _ | .hplSessionStart _ | .hplUndock _ | .hplPlugOut _ | .hplForget _ => .heat
  | .falTake _ | .falContactor _ | .falLost _ | .falRecovered _ | .falDocked _ | .falEmpty _ | .falUndock _
  | .falRecompute | .falResult _ _ _ | .falSelect => .feeder
  | .lcsAutomatic _ | .lcsNext _ | .lcsStepEnd _ | .lcsRunEnd _ | .lcsResult _ _ _ _ | .lcsRemoved _ | .lcsSwitchOff _
  | .lcsIgnition _ _ | .lcsLost _ | .lcsRecovered _ | .lcsDocked _ | .lcsAbandonRun _ | .lcsUndock _ | .lcsRetain _
  | .lcsSessionStart _ => .lamps
  | .tellService _ | .tellDock _ | .tellLink _ | .tellScan _ | .tellHeat _ | .tellLamp _ | .tellReliance _
  | .tellFreeze _ _ | .ownConditions _ | .rederive _ | .workOut _ | .amended _ _ _ _ => .holds
  | .departed _ _ | .lateCheck _ => .list
  | .clrHolds _ | .clrSettle _ | .clrDocked _ | .clrScanCommitted _ | .clrFromSensors _ | .clrPresence _ _
  | .clrPlugIn _ | .clrPlugOut _ | .clrUndocked _ _ | .clrDisable _ | .clrWindow _ | .clrDeparture _ | .clrOfferTo _
  | .clrSuspend _ | .clrStartTimers _ | .clrOpenTest _ | .clrRevokeEnd _ _ | .laneOffer _ => .clearance

/-! ### Base operations -/

@[simp] theorem modClc_outside_link (s : State) (b : BayNo) (f : Clc → Clc) :
    (s.modClc b f).outside .link = s.outside .link := rfl
@[simp] theorem modClc_outside_docking (s : State) (b : BayNo) (f : Clc → Clc) :
    (s.modClc b f).outside .docking = s.outside .docking := rfl
@[simp] theorem modClc_outside_faults (s : State) (b : BayNo) (f : Clc → Clc) :
    (s.modClc b f).outside .faults = s.outside .faults := rfl
@[simp] theorem modClc_outside_feeder (s : State) (b : BayNo) (f : Clc → Clc) :
    (s.modClc b f).outside .feeder = s.outside .feeder := rfl
@[simp] theorem modClc_outside_lamps (s : State) (b : BayNo) (f : Clc → Clc) :
    (s.modClc b f).outside .lamps = s.outside .lamps := rfl
@[simp] theorem modDku_outside_docking (s : State) (b : BayNo) (f : Dku → Dku) :
    (s.modDku b f).outside .docking = s.outside .docking := rfl
@[simp] theorem modFrd_outside_faults (s : State) (b : BayNo) (f : Frd → Frd) :
    (s.modFrd b f).outside .faults = s.outside .faults := rfl
@[simp] theorem modFrd_outside_lamps (s : State) (b : BayNo) (f : Frd → Frd) :
    (s.modFrd b f).outside .lamps = s.outside .lamps := rfl
@[simp] theorem modHpl_outside_heat (s : State) (b : BayNo) (f : Hpl → Hpl) :
    (s.modHpl b f).outside .heat = s.outside .heat := rfl
@[simp] theorem modRow_outside_feeder (s : State) (b : BayNo) (f : GrantRow → GrantRow) :
    (s.modRow b f).outside .feeder = s.outside .feeder := rfl
@[simp] theorem modRow_outside_lamps (s : State) (b : BayNo) (q : Bool) :
    (s.modRow b (fun r => { r with quiet := q })).outside .lamps = s.outside .lamps := by
  have same : (s.modRow b (fun r => { r with quiet := q })).row.map GrantRow.unmarked = s.row.map GrantRow.unmarked := by
    refine Vector.ext fun i hi => ?_
    simp only [State.modRow, bayPut, bayAt, Vector.getElem_map, Vector.getElem_set]
    split
    · next e => simp only [← e]; rfl
    · rfl
  simp only [State.outside, same]
  rfl
@[simp] theorem modFeeder_outside_feeder (s : State) (f : Feeder → Feeder) :
    (s.modFeeder f).outside .feeder = s.outside .feeder := rfl
@[simp] theorem modLcs_outside_feeder (s : State) (b : BayNo) (f : Lcs → Lcs) :
    (s.modLcs b f).outside .feeder = s.outside .feeder := rfl
@[simp] theorem modLcs_outside_lamps (s : State) (b : BayNo) (f : Lcs → Lcs) :
    (s.modLcs b f).outside .lamps = s.outside .lamps := rfl
@[simp] theorem setChannel_outside_lamps (s : State) (c : Fin 4) (h : Option BayNo) :
    (s.setChannel c h).outside .lamps = s.outside .lamps := rfl
@[simp] theorem channelQueue_outside_lamps (s : State) (q : List BayNo) :
    ({ s with channelQueue := q } : State).outside .lamps = s.outside .lamps := rfl
@[simp] theorem modDpm_outside_holds (s : State) (b : BayNo) (f : Dpm → Dpm) :
    (s.modDpm b f).outside .holds = s.outside .holds := rfl
@[simp] theorem modClr_outside_clearance (s : State) (b : BayNo) (f : Clr → Clr) :
    (s.modClr b f).outside .clearance = s.outside .clearance := rfl
@[simp] theorem setClear_outside_clearance (s : State) (b : BayNo) (st : ClearState) :
    (s.setClear b st).outside .clearance = s.outside .clearance := rfl
@[simp] theorem waitOrder_outside_clearance (s : State) (q : List BayNo) :
    ({ s with waitOrder := q } : State).outside .clearance = s.outside .clearance := rfl
@[simp] theorem modLane_outside_clearance (s : State) (l : Lane) (f : LaneRecord → LaneRecord) :
    (s.modLane l f).outside .clearance = s.outside .clearance := by cases l <;> rfl

/-! ### The DKU -/

theorem dkuWrongBay_outside (b : BayNo) (s : State) : (dkuWrongBay b s).1.outside .docking = s.outside .docking := by
  unfold dkuWrongBay; split <;> rfl

theorem dkuMatch_outside (b : BayNo) (s : State) : (dkuMatch b s).1.outside .docking = s.outside .docking := by
  unfold dkuMatch; split <;> rfl

theorem dkuDiscard_outside (b : BayNo) (s : State) : (dkuDiscard b s).1.outside .docking = s.outside .docking := by
  unfold dkuDiscard; split <;> rfl

theorem dkuUndock_outside (b : BayNo) (why : UndockReason) (s : State) :
    (dkuUndock b why s).1.outside .docking = s.outside .docking := by
  unfold dkuUndock; split <;> rfl

theorem dkuScanCommitted_outside (b : BayNo) (s : State) :
    (dkuScanCommitted b s).1.outside .docking = s.outside .docking := by
  unfold dkuScanCommitted; split <;> rfl

theorem dkuRecovered_outside (b : BayNo) (s : State) : (dkuRecovered b s).1.outside .docking = s.outside .docking := by
  unfold dkuRecovered; dsimp only; split <;> rfl

theorem dkuDescribed_outside (b : BayNo) (i kind n : Nat) (body : List Byte) (s : State) :
    (dkuDescribed b i kind n body s).1.outside .docking = s.outside .docking := by
  unfold dkuDescribed; dsimp only
  split
  · rfl
  · split <;> rfl

theorem dkuReidentified_outside (b : BayNo) (fleet : Nat) (s : State) :
    (dkuReidentified b fleet s).1.outside .docking = s.outside .docking := by
  unfold dkuReidentified; dsimp only
  split
  · split <;> rfl
  · rfl

theorem dkuReadFailed_outside (b : BayNo) (r : BayRequest) (s : State) :
    (dkuReadFailed b r s).1.outside .docking = s.outside .docking := by
  unfold dkuReadFailed; split <;> rfl

theorem dkuResult_outside (b : BayNo) (r : BayRequest) (x : TxResult) (s : State) :
    (dkuResult b r x s).1.outside .docking = s.outside .docking := by
  unfold dkuResult; dsimp only
  split
  · split
    · rfl
    · exact dkuDescribed_outside ..
    · rfl
    · exact dkuReidentified_outside ..
    · exact dkuReadFailed_outside ..
    · rfl
  · rfl

/-! ### The FRD -/

theorem frdCommit_outside (b : BayNo) (es : List FaultEntry) (m : TableMarks) (k : KindSet) (s : State) :
    (frdCommit b es m k s).1.outside .faults = s.outside .faults := rfl

theorem frdBegin_outside (b : BayNo) (k : KindSet) (s : State) :
    (frdBegin b k s).1.outside .faults = s.outside .faults := rfl

theorem frdRequest_outside (b : BayNo) (k : ScanKind) (s : State) :
    (frdRequest b k s).1.outside .faults = s.outside .faults := by
  unfold frdRequest; dsimp only
  split
  · rfl
  · split <;> rfl

theorem frdTakeRescan_outside (b : BayNo) (s : State) : (frdTakeRescan b s).1.outside .faults = s.outside .faults := by
  unfold frdTakeRescan; dsimp only; split <;> rfl

theorem frdNextRecord_outside (b : BayNo) (sc : Scan) (i : Nat) (s : State) :
    (frdNextRecord b sc i s).1.outside .faults = s.outside .faults := by
  unfold frdNextRecord; split <;> rfl

theorem frdCounted_outside (b : BayNo) (n : Nat) (s : State) :
    (frdCounted b n s).1.outside .faults = s.outside .faults := by
  unfold frdCounted; dsimp only; split <;> rfl

theorem frdRepeat_outside (b : BayNo) (r : BayRequest) (s : State) :
    (frdRepeat b r s).1.outside .faults = s.outside .faults := by
  unfold frdRepeat; dsimp only; split <;> rfl

theorem frdReadFailed_outside (b : BayNo) (r : BayRequest) (s : State) :
    (frdReadFailed b r s).1.outside .faults = s.outside .faults := by
  unfold frdReadFailed
  split
  · exact frdRepeat_outside ..
  · rfl

theorem frdResult_outside (b : BayNo) (r : BayRequest) (x : TxResult) (s : State) :
    (frdResult b r x s).1.outside .faults = s.outside .faults := by
  unfold frdResult; dsimp only
  split
  · split
    · rfl
    · exact frdCounted_outside ..
  · exact frdReadFailed_outside ..
  · split
    · rfl
    · split
      · rfl
      · exact frdNextRecord_outside ..
  · split
    · rfl
    · exact frdReadFailed_outside ..
  · rfl

theorem frdLost_outside (b : BayNo) (s : State) : (frdLost b s).1.outside .faults = s.outside .faults := by
  unfold frdLost; dsimp only; split <;> rfl

theorem frdRecovered_outside (b : BayNo) (s : State) : (frdRecovered b s).1.outside .faults = s.outside .faults := by
  unfold frdRecovered; dsimp only
  split
  · rfl
  all_goals rw [frdTakeRescan_outside, modFrd_outside_faults]

theorem frdReclassify_outside (b : BayNo) (s : State) : (frdReclassify b s).1.outside .faults = s.outside .faults := by
  unfold frdReclassify; dsimp only; split <;> rfl

/-! ### The HPL -/

@[simp] theorem carryCourse_outside (b : BayNo) (x : Bool) (c : Course) (s : State) :
    (carryCourse b x c s).1.outside .heat = s.outside .heat := rfl

@[simp] theorem takeCourse_outside (b : BayNo) (c : Course) (s : State) :
    (takeCourse b c s).1.outside .heat = s.outside .heat := rfl

@[simp] theorem formCourse_outside (b : BayNo) (c : Course) (s : State) :
    (formCourse b c s).1.outside .heat = s.outside .heat := rfl

theorem hplNone_outside (b : BayNo) (s : State) : (hplNone b s).1.outside .heat = s.outside .heat := by
  unfold hplNone; dsimp only; split <;> rfl

theorem hplAmended_outside (b : BayNo) (s : State) : (hplAmended b s).1.outside .heat = s.outside .heat := by
  unfold hplAmended; dsimp only
  split
  · rfl
  · split
    · rfl
    · split
      · rfl
      · split
        · split <;> rfl
        · rfl

theorem hplRecompute_outside (b : BayNo) (s : State) : (hplRecompute b s).1.outside .heat = s.outside .heat := by
  unfold hplRecompute; split <;> rfl

theorem hplStart_outside (b : BayNo) (s : State) : (hplStart b s).1.outside .heat = s.outside .heat := by
  unfold hplStart; dsimp only; split <;> rfl

theorem hplPoint_outside (b : BayNo) (s : State) : (hplPoint b s).1.outside .heat = s.outside .heat := by
  unfold hplPoint; dsimp only; split <;> rfl

theorem hplCauseDropped_outside (b : BayNo) (s : State) :
    (hplCauseDropped b s).1.outside .heat = s.outside .heat := by
  unfold hplCauseDropped; dsimp only; split <;> rfl

/-! ### The FAL -/

@[simp] theorem submitStage_outside (b : BayNo) (n : Nat) (s : State) :
    (submitStage b n s).outside .feeder = s.outside .feeder := rfl

@[simp] theorem endStageUp_outside (b : BayNo) (s : State) :
    (endStageUp b s).outside .feeder = s.outside .feeder := rfl

@[simp] theorem cancelStageUp_outside (b : BayNo) (s : State) :
    (cancelStageUp b s).outside .feeder = s.outside .feeder := by
  unfold cancelStageUp; split <;> rfl

@[simp] theorem stripRows_outside (bs : List BayNo) (n : Nat) (s : State) :
    (stripRows bs n s).outside .feeder = s.outside .feeder := by
  induction bs generalizing n s with
  | nil => rfl
  | cons b bs ih =>
    simp only [stripRows]
    rw [ih]
    split <;> simp

@[simp] theorem submitStages_outside (bs : List BayNo) (s : State) :
    (submitStages bs s).outside .feeder = s.outside .feeder := by
  unfold submitStages
  induction bs generalizing s with
  | nil => rfl
  | cons b bs ih => exact ih _

@[simp] theorem forcedRemoval_outside (s : State) : (forcedRemoval s).outside .feeder = s.outside .feeder := by
  simp [forcedRemoval]

@[simp] theorem commitStageUp_outside (b : BayNo) (s : State) :
    (commitStageUp b s).outside .feeder = s.outside .feeder := rfl

@[simp] theorem preempt_outside (b : BayNo) (s : State) : (preempt b s).outside .feeder = s.outside .feeder := by
  unfold preempt; dsimp only; split <;> simp

@[simp] theorem selection_outside (s : State) : (selection s).outside .feeder = s.outside .feeder := by
  unfold selection; dsimp only
  split
  · split
    · rfl
    · split
      · rfl
      · exact preempt_outside ..
  · rfl

@[simp] theorem cutGrant_outside (b : BayNo) (s : State) : (cutGrant b s).1.outside .feeder = s.outside .feeder := by
  simp [cutGrant]

@[simp] theorem setRequested_outside (b : BayNo) (s : State) :
    (setRequested b s).1.outside .feeder = s.outside .feeder := by
  unfold setRequested; dsimp only
  split
  · simp
  · split <;> rfl

theorem falLost_outside (b : BayNo) (s : State) : (falLost b s).1.outside .feeder = s.outside .feeder := by
  unfold falLost; dsimp only; split <;> simp

@[simp] theorem falEmpty_outside (b : BayNo) (s : State) : (falEmpty b s).1.outside .feeder = s.outside .feeder := by
  unfold falEmpty; split <;> simp

theorem falUndock_outside (b : BayNo) (s : State) : (falUndock b s).1.outside .feeder = s.outside .feeder := by
  unfold falUndock; dsimp only; split <;> simp

theorem falRecompute_outside (s : State) : (falRecompute s).1.outside .feeder = s.outside .feeder := by
  unfold falRecompute; dsimp only; split <;> simp

theorem commandResult_outside (b : BayNo) (x : TxResult) (s : State) :
    (commandResult b x s).1.outside .feeder = s.outside .feeder := by
  unfold commandResult; dsimp only; split <;> rfl

@[simp] theorem stageUpFails_outside (b : BayNo) (why : CommandResult) (s : State) :
    (stageUpFails b why s).1.outside .feeder = s.outside .feeder := rfl

theorem stageUpResult_outside (b : BayNo) (u : StageUp) (x : TxResult) (s : State) :
    (stageUpResult b u x s).1.outside .feeder = s.outside .feeder := by
  cases x with
  | done r => rfl
  | refused => rfl
  | failed => simp only [stageUpResult]; split <;> rfl

theorem falResult_outside (b : BayNo) (n : Nat) (x : TxResult) (s : State) :
    (falResult b n x s).1.outside .feeder = s.outside .feeder := by
  unfold falResult
  split
  · split
    · exact stageUpResult_outside ..
    · exact commandResult_outside ..
  · exact commandResult_outside ..

/-! ### The LCS -/

@[simp] theorem takeChannel_outside (b : BayNo) (c : Fin 4) (s : State) :
    (takeChannel b c s).outside .lamps = s.outside .lamps := by
  simp [takeChannel]

@[simp] theorem askChannel_outside (b : BayNo) (s : State) : (askChannel b s).outside .lamps = s.outside .lamps := by
  unfold askChannel; split <;> simp

@[simp] theorem freeChannelOf_outside (b : BayNo) (s : State) :
    (freeChannelOf b s).outside .lamps = s.outside .lamps := by
  unfold freeChannelOf; dsimp only
  split
  · rfl
  · split
    · rfl
    · rw [takeChannel_outside]; rfl

@[simp] theorem releaseStep_outside (b : BayNo) (s : State) :
    (releaseStep b s).1.outside .lamps = s.outside .lamps := by
  simp [releaseStep]

@[simp] theorem submitLampOf_outside (b : BayNo) (c : Nat) (on : Bool) (s : State) :
    (submitLampOf b c on s).1.outside .lamps = s.outside .lamps := by
  unfold submitLampOf; split <;> rfl

@[simp] theorem submitOwed_outside (b : BayNo) (c : Nat) (s : State) :
    (submitOwed b c s).outside .lamps = s.outside .lamps := by
  unfold submitOwed; split <;> rfl

@[simp] theorem goOff_outside (b : BayNo) (s : State) : (goOff b s).1.outside .lamps = s.outside .lamps := by
  unfold goOff; split <;> simp

@[simp] theorem abandonStep_outside (b : BayNo) (s : State) :
    (abandonStep b s).1.outside .lamps = s.outside .lamps := by
  unfold abandonStep; dsimp only; split <;> simp

@[simp] theorem addReason_outside (b : BayNo) (f : PauseReasons → PauseReasons) (s : State) :
    (addReason b f s).1.outside .lamps = s.outside .lamps := by
  unfold addReason; split <;> simp [pauseRun]

@[simp] theorem dropReason_outside (b : BayNo) (f : PauseReasons → PauseReasons) (s : State) :
    (dropReason b f s).1.outside .lamps = s.outside .lamps := by
  unfold dropReason; dsimp only
  split
  · split <;> rfl
  · rfl

@[simp] theorem lcsAutomatic_outside (b : BayNo) (s : State) :
    (lcsAutomatic b s).1.outside .lamps = s.outside .lamps := by
  unfold lcsAutomatic; split <;> rfl

theorem lcsSwitchOff_outside (b : BayNo) (s : State) : (lcsSwitchOff b s).1.outside .lamps = s.outside .lamps := by
  unfold lcsSwitchOff; split <;> simp

theorem lcsNext_outside (b : BayNo) (s : State) : (lcsNext b s).1.outside .lamps = s.outside .lamps := by
  unfold lcsNext; dsimp only
  split
  · split
    · rfl
    · split <;> simp
  · rfl

theorem lcsStepEnd_outside (b : BayNo) (s : State) : (lcsStepEnd b s).1.outside .lamps = s.outside .lamps := by
  unfold lcsStepEnd; dsimp only; split <;> simp

theorem lcsRunEnd_outside (b : BayNo) (s : State) : (lcsRunEnd b s).1.outside .lamps = s.outside .lamps := by
  unfold lcsRunEnd; dsimp only; split <;> rfl

theorem lampOnResult_outside (b : BayNo) (x : TxResult) (s : State) :
    (lampOnResult b x s).1.outside .lamps = s.outside .lamps := by
  cases x <;> simp only [lampOnResult]
  · split <;> simp
  · rfl
  · split <;> simp

theorem lampOffResult_outside (b : BayNo) (c : Nat) (x : TxResult) (s : State) :
    (lampOffResult b c x s).1.outside .lamps = s.outside .lamps := by
  cases x <;> simp [lampOffResult]

theorem lampOwedResult_outside (b : BayNo) (c : Nat) (on : Bool) (x : TxResult) (s : State) :
    (lampOwedResult b c on x s).1.outside .lamps = s.outside .lamps := by
  unfold lampOwedResult; split <;> simp

theorem lcsResult_outside (b : BayNo) (c : Nat) (on : Bool) (x : TxResult) (s : State) :
    (lcsResult b c on x s).1.outside .lamps = s.outside .lamps := by
  unfold lcsResult; dsimp only
  split
  · exact lampOnResult_outside ..
  · split
    · exact lampOffResult_outside ..
    · split
      · exact lampOwedResult_outside ..
      · rfl

theorem lcsRemoved_outside (b : BayNo) (s : State) : (lcsRemoved b s).1.outside .lamps = s.outside .lamps := by
  unfold lcsRemoved; dsimp only
  split
  · split <;> simp
  · rfl

theorem lcsIgnition_outside (b : BayNo) (on : Bool) (s : State) :
    (lcsIgnition b on s).1.outside .lamps = s.outside .lamps := by
  unfold lcsIgnition; dsimp only
  split <;> split <;> simp

theorem lcsLost_outside (b : BayNo) (s : State) : (lcsLost b s).1.outside .lamps = s.outside .lamps := by
  unfold lcsLost; dsimp only; split <;> simp

theorem lcsRecovered_outside (b : BayNo) (s : State) : (lcsRecovered b s).1.outside .lamps = s.outside .lamps := by
  unfold lcsRecovered; dsimp only
  split <;> split <;> simp

theorem lcsDocked_outside (b : BayNo) (s : State) : (lcsDocked b s).1.outside .lamps = s.outside .lamps := by
  unfold lcsDocked; dsimp only
  split
  · split <;> simp
  · rfl

/-! ### The DPM -/

@[simp] theorem rederive_outside (b : BayNo) (s : State) : (rederive b s).1.outside .holds = s.outside .holds := by
  unfold rederive; dsimp only; split <;> rfl

@[simp] theorem report_outside (b : BayNo) (f : Conditions → Conditions) (s : State) :
    (report b f s).1.outside .holds = s.outside .holds := by
  simp [report]

@[simp] theorem reportChange_outside (b : BayNo) (f : Conditions → Conditions) (s : State) :
    (reportChange b f s).1.outside .holds = s.outside .holds := by
  unfold reportChange; split <;> simp

theorem tellReliance_outside (b : BayNo) (s : State) : (tellReliance b s).1.outside .holds = s.outside .holds := by
  unfold tellReliance; dsimp only; split <;> simp

theorem tellFreeze_outside (b : BayNo) (on : Bool) (s : State) :
    (tellFreeze b on s).1.outside .holds = s.outside .holds := by
  unfold tellFreeze; split <;> simp

theorem workOut_outside (b : BayNo) (s : State) : (workOut b s).1.outside .holds = s.outside .holds := by
  unfold workOut; dsimp only; split <;> rfl

/-! ### The CLR -/

@[simp] theorem leaveOrder_outside (b : BayNo) (s : State) :
    (leaveOrder b s).outside .clearance = s.outside .clearance := rfl

@[simp] theorem joinOrder_outside (b : BayNo) (s : State) :
    (joinOrder b s).outside .clearance = s.outside .clearance := rfl

@[simp] theorem leaveCleared_outside (b : BayNo) (s : State) :
    (leaveCleared b s).outside .clearance = s.outside .clearance := rfl

@[simp] theorem grantLane_outside (l : Lane) (b : BayNo) (s : State) :
    (grantLane l b s).1.outside .clearance = s.outside .clearance := by
  unfold grantLane; dsimp only; split <;> simp [enterClear]

@[simp] theorem laneOffer_outside (l : Lane) (s : State) :
    (laneOffer l s).1.outside .clearance = s.outside .clearance := by
  unfold laneOffer
  split
  · split <;> simp
  · rfl

@[simp] theorem clrOfferTo_outside (b : BayNo) (s : State) :
    (clrOfferTo b s).1.outside .clearance = s.outside .clearance := by
  unfold clrOfferTo
  split
  · split
    · simp
    · split <;> simp
  · rfl

@[simp] theorem laneReleaseOf_outside (b : BayNo) (s : State) :
    (laneReleaseOf b s).1.outside .clearance = s.outside .clearance := by
  unfold laneReleaseOf; split <;> simp [laneRelease]

@[simp] theorem lanePassageWait_outside (b : BayNo) (s : State) :
    (lanePassageWait b s).1.outside .clearance = s.outside .clearance := by
  unfold lanePassageWait; split <;> simp

@[simp] theorem moveTo_outside (b : BayNo) (st : ClearState) (s : State) :
    (moveTo b st s).1.outside .clearance = s.outside .clearance := by
  unfold moveTo; dsimp only
  split <;> split <;> simp [enterClear]

@[simp] theorem settle_outside (b : BayNo) (s : State) : (settle b s).1.outside .clearance = s.outside .clearance := by
  unfold settle; split <;> simp

theorem clrSettle_outside (b : BayNo) (s : State) : (clrSettle b s).1.outside .clearance = s.outside .clearance := by
  unfold clrSettle; split <;> simp

theorem clrDocked_outside (b : BayNo) (s : State) : (clrDocked b s).1.outside .clearance = s.outside .clearance := by
  unfold clrDocked; split <;> simp

theorem clrScanCommitted_outside (b : BayNo) (s : State) :
    (clrScanCommitted b s).1.outside .clearance = s.outside .clearance := by
  unfold clrScanCommitted; split <;> simp

theorem clrDeparture_outside (b : BayNo) (s : State) :
    (clrDeparture b s).1.outside .clearance = s.outside .clearance := by
  unfold clrDeparture; dsimp only; split <;> rfl

theorem clrFromSensors_outside (b : BayNo) (s : State) :
    (clrFromSensors b s).1.outside .clearance = s.outside .clearance := by
  unfold clrFromSensors; split <;> rfl

@[simp] theorem clrLeft_outside (b : BayNo) (x : Bool) (s : State) :
    (clrLeft b x s).1.outside .clearance = s.outside .clearance := by
  simp [clrLeft, enterClear]

theorem clrPresence_outside (b : BayNo) (x : Bool) (s : State) :
    (clrPresence b x s).1.outside .clearance = s.outside .clearance := by
  unfold clrPresence; split <;> simp [enterClear]

theorem clrPlugIn_outside (b : BayNo) (s : State) : (clrPlugIn b s).1.outside .clearance = s.outside .clearance := by
  unfold clrPlugIn; split <;> simp [enterClear]

theorem clrPlugOut_outside (b : BayNo) (s : State) : (clrPlugOut b s).1.outside .clearance = s.outside .clearance := by
  unfold clrPlugOut; split <;> simp [clearedByPlugOut, enterClear]

theorem clrUndocked_outside (b : BayNo) (why : UndockReason) (s : State) :
    (clrUndocked b why s).1.outside .clearance = s.outside .clearance := by
  cases why with
  | plugOut => rfl
  | disabled => rfl
  | redock => unfold clrUndocked; dsimp only; split <;> simp
  | identity => unfold clrUndocked; dsimp only; split <;> simp

theorem clrDisable_outside (b : BayNo) (s : State) : (clrDisable b s).1.outside .clearance = s.outside .clearance := by
  simp [clrDisable, enterClear]

theorem clrStartTimers_outside (b : BayNo) (s : State) :
    (clrStartTimers b s).1.outside .clearance = s.outside .clearance := by
  unfold clrStartTimers; split <;> rfl

@[simp] theorem clrOpenPoint_outside (b : BayNo) (s : State) :
    (clrOpenPoint b s).1.outside .clearance = s.outside .clearance := by
  unfold clrOpenPoint; split <;> rfl

theorem clrOpenTest_outside (b : BayNo) (s : State) :
    (clrOpenTest b s).1.outside .clearance = s.outside .clearance := by
  unfold clrOpenTest; split <;> simp

@[simp] theorem clrRevoke_outside (b : BayNo) (x : Bool) (s : State) :
    (clrRevoke b x s).1.outside .clearance = s.outside .clearance := by
  unfold clrRevoke; split <;> simp

theorem clrRevokeEnd_outside (b : BayNo) (x : Bool) (s : State) :
    (clrRevokeEnd b x s).1.outside .clearance = s.outside .clearance := by
  unfold clrRevokeEnd; dsimp only
  split
  · split <;> rfl
  · rfl

@[simp] theorem clrRecall_outside (b : BayNo) (s : State) :
    (clrRecall b s).1.outside .clearance = s.outside .clearance := by
  simp [clrRecall, enterClear]

theorem clrHolds_outside (b : BayNo) (s : State) : (clrHolds b s).1.outside .clearance = s.outside .clearance := by
  unfold clrHolds; dsimp only
  split
  iterate 4 · split <;> simp
  · split <;> simp
  · split <;> simp
  · split <;> simp
  all_goals simp

/-! ### Every notice -/

/-- A notice leaves everything outside what its writer writes as it stands. -/
theorem handle_outside (n : Notice) (s : State) : (handle n s).1.outside n.writer = s.outside n.writer := by
  cases n with
  | contactor b => unfold handle bfeContactor; dsimp only; split <;> rfl
  | clearTrip b => unfold handle clearTrip; dsimp only; split <;> rfl
  | dkuResult b r x => exact dkuResult_outside b r x s
  | dkuRecovered b => exact dkuRecovered_outside b s
  | dkuScanCommitted b => exact dkuScanCommitted_outside b s
  | dkuUndock b why => exact dkuUndock_outside b why s
  | dkuDiscard b => exact dkuDiscard_outside b s
  | dkuMatch b => exact dkuMatch_outside b s
  | dkuWrongBay b => exact dkuWrongBay_outside b s
  | frdRequest b k => exact frdRequest_outside b k s
  | frdTakeRescan b => exact frdTakeRescan_outside b s
  | frdResult b r x => exact frdResult_outside b r x s
  | frdLost b => exact frdLost_outside b s
  | frdRecovered b => exact frdRecovered_outside b s
  | frdReclassify b => exact frdReclassify_outside b s
  | hplNone b => exact hplNone_outside b s
  | hplAmended b => exact hplAmended_outside b s
  | hplRecompute b => exact hplRecompute_outside b s
  | hplStart b => exact hplStart_outside b s
  | hplPoint b => exact hplPoint_outside b s
  | hplDropLink b => exact hplCauseDropped_outside b _
  | hplDropClearing b => exact hplCauseDropped_outside b _
  | falTake b => exact setRequested_outside b _
  | falContactor b => exact setRequested_outside b s
  | falLost b => exact falLost_outside b s
  | falRecovered b => exact setRequested_outside b _
  | falEmpty b => exact falEmpty_outside b s
  | falUndock b => exact falUndock_outside b s
  | falRecompute => exact falRecompute_outside s
  | falResult b n x => exact falResult_outside b n x s
  | falSelect => exact selection_outside s
  | lcsAutomatic b => exact lcsAutomatic_outside b s
  | lcsNext b => exact lcsNext_outside b s
  | lcsStepEnd b => exact lcsStepEnd_outside b s
  | lcsRunEnd b => exact lcsRunEnd_outside b s
  | lcsResult b c on x => exact lcsResult_outside b c on x s
  | lcsRemoved b => exact lcsRemoved_outside b s
  | lcsSwitchOff b => exact lcsSwitchOff_outside b s
  | lcsIgnition b on => exact lcsIgnition_outside b on s
  | lcsLost b => exact lcsLost_outside b s
  | lcsRecovered b => exact lcsRecovered_outside b s
  | lcsDocked b => exact lcsDocked_outside b s
  | lcsAbandonRun b => exact releaseStep_outside b s
  | lcsUndock b => exact releaseStep_outside b s
  | lcsRetain b => exact releaseStep_outside b s
  | tellService b => exact report_outside b _ s
  | tellDock b => exact report_outside b _ s
  | tellLink b => exact report_outside b _ s
  | tellScan b => exact report_outside b _ s
  | tellHeat b => exact reportChange_outside b _ s
  | tellLamp b => exact report_outside b _ s
  | tellReliance b => exact tellReliance_outside b s
  | tellFreeze b on => exact tellFreeze_outside b on s
  | ownConditions b => exact reportChange_outside b _ s
  | rederive b => exact rederive_outside b s
  | workOut b => exact workOut_outside b s
  | lateCheck id => cases id <;> rfl
  | clrHolds b => exact clrHolds_outside b s
  | clrSettle b => exact clrSettle_outside b s
  | clrDocked b => exact clrDocked_outside b s
  | clrScanCommitted b => exact clrScanCommitted_outside b s
  | clrFromSensors b => exact clrFromSensors_outside b s
  | clrPresence b x => exact clrPresence_outside b x s
  | clrPlugIn b => exact clrPlugIn_outside b s
  | clrPlugOut b => exact clrPlugOut_outside b s
  | clrUndocked b why => exact clrUndocked_outside b why s
  | clrDisable b => exact clrDisable_outside b s
  | clrDeparture b => exact clrDeparture_outside b s
  | clrOfferTo b => exact clrOfferTo_outside b s
  | clrSuspend b => unfold handle clrSuspend; dsimp only; split <;> rfl
  | clrStartTimers b => exact clrStartTimers_outside b s
  | clrOpenTest b => exact clrOpenTest_outside b s
  | clrRevokeEnd b x => exact clrRevokeEnd_outside b x s
  | laneOffer l => exact laneOffer_outside l s
  | _ => rfl

end Sys2Proof.Machine
end

section
/-! What a command can do, said once. Every command is a chain of moves: an event begun and carried through with its
notices, a reply, a change of the host link's receiver or of the flags, a reset. An invariant that may rest on the notices
still to be taken (an event in between may break what the next notice mends) is proved move by move. -/

namespace Sys2Proof.Machine

/-- The sorts of held values that a command may alter: the flags that are set, or a part of what is given. -/
inductive Held | nothing | flags | settings | clock | mask | map | ambient | shedHost | operator | hallHold | enabled | all

/-- What a command alters, but for the two rows that take a request from a frame. -/
def alters : Instr → Held
  | .powerOn => .all
  | .restart | .eventsFetch => .flags
  | .eventMask _ => .mask
  | .settingsWrite _ _ => .settings
  | .setTime _ | .clockTick => .clock
  | .bayEnable _ | .bayDisable _ => .enabled
  | .mapClear | .mapAppend _ | .mapInsert _ _ => .map
  | .ambientSet _ => .ambient
  | .shedEnter | .shedLeave => .shedHost
  | .holdPush _ _ | .holdPop _ => .operator
  | .hallHoldPush _ | .hallHoldPop => .hallHold
  | _ => .nothing

/-- The rows that are one block's own action, by the block that acts (R17 to R35, R94, R110, R116, R123 to R140, R167 to
R175). -/
inductive Acts (s : State) : Writer → Reaction → Prop
  | send (b : BayNo) : Acts s .link (clcSend b s)
  | sent (b : BayNo) : Acts s .link (clcSent b s)
  | replyStart (b : BayNo) (start : Byte) : Acts s .link (clcReplyStart b start s)
  | replyFrame (b : BayNo) (start kind : Byte) (payload : List Byte) (check : Byte) :
      Acts s .link (clcReply b start kind payload check s)
  | characterError (b : BayNo) : Acts s .link (clcFailure b AttemptPhase.open (clcHeard b s))
  | failure (b : BayNo) (p : AttemptPhase → Bool) : Acts s .link (clcFailure b p s)
  | reprobe (b : BayNo) : Acts s .link (clcReprobe b s)
  | poll (b : BayNo) : Acts s .link (clcPoll b s)
  | stale (b : BayNo) : Acts s .heat (hplStale b s)
  | ramp : Acts s .feeder (falRampExpired s)
  | confirm : Acts s .feeder (falConfirmExpired s)
  | meter (b : BayNo) (ns : List Notice) : Acts s .feeder (falMeter b s, ns)
  | baseline (b : BayNo) (amps : FourSamples) : Acts s .lamps (lcsBaseline b amps s)
  | settle (b : BayNo) : Acts s .lamps (lcsSettled b s)
  | lit (b : BayNo) (amps volts : FourSamples) : Acts s .lamps (lcsLit b amps volts s)
  | validity (b : BayNo) : Acts s .lamps (lcsExpired b s)
  | lampStart (b : BayNo) (m : LampMode) (n : Nat) (free : (s.lcsAt b).status.active = false) :
      Acts s .lamps (lcsStart b m n s)
  | advance (b : BayNo) : Acts s .lamps (dropReason b (fun r => { r with step := false }) s)
  | abort (b : BayNo) (stands : (s.lcsAt b).status.active = true) : Acts s .lamps (lcsAbort b s)
  | openWait (b : BayNo) : Acts s .clearance (clrOpenWaitExpired b s)
  | plugTimer (b : BayNo) : Acts s .clearance (clrPlugExpired b s)
  | laneTimer (l : Lane) : Acts s .clearance (laneExpired l s)
  | passage (l : Lane) : Acts s .clearance (passagePulse l s)
  | closeLane (l : Lane) : Acts s .clearance (closeLane l s)
  | openLane (l : Lane) : Acts s .clearance (openLane l s)

theorem attemptFails_outside (b : BayNo) (f : InFlight) (s : State) :
    (attemptFails b f s).1.outside .link = s.outside .link := by
  unfold attemptFails; dsimp only
  split
  · rfl
  · split
    · unfold transactionFailed; split <;> rfl
    · rfl

theorem attemptSucceeds_outside (b : BayNo) (f : InFlight) (x : TxResult) (s : State) :
    (attemptSucceeds b f x s).1.outside .link = s.outside .link := by
  unfold attemptSucceeds
  split
  · unfold transactionGood; dsimp only; split <;> rfl
  · rfl

theorem clcFailure_outside (b : BayNo) (p : AttemptPhase → Bool) (s : State) :
    (clcFailure b p s).1.outside .link = s.outside .link := by
  unfold clcFailure
  split
  · split
    · exact attemptFails_outside ..
    · rfl
  · rfl

theorem clcReplyStart_outside (b : BayNo) (start : Byte) (s : State) :
    (clcReplyStart b start s).1.outside .link = s.outside .link := by
  unfold clcReplyStart; dsimp only
  split
  · split
    · split
      · rfl
      · exact attemptFails_outside b _ (clcHeard b s)
    all_goals rfl
  · rfl

theorem clcReply_outside (b : BayNo) (start kind : Byte) (payload : List Byte) (check : Byte) (s : State) :
    (clcReply b start kind payload check s).1.outside .link = s.outside .link := by
  unfold clcReply; dsimp only
  split
  · split
    · split
      · split
        · exact attemptSucceeds_outside b _ _ (clcHeard b s)
        · exact attemptFails_outside b _ (clcHeard b s)
      · exact attemptFails_outside b _ (clcHeard b s)
    · rfl
  · rfl

theorem falMeter_outside (b : BayNo) (s : State) : (falMeter b s).outside .feeder = s.outside .feeder := by
  unfold falMeter
  split
  · split
    · split <;> simp
    · rfl
  · rfl

theorem lcsBaseline_outside (b : BayNo) (amps : FourSamples) (s : State) :
    (lcsBaseline b amps s).1.outside .lamps = s.outside .lamps := by
  unfold lcsBaseline; dsimp only
  split
  · split <;> simp
  · rfl

theorem lcsLit_outside (b : BayNo) (amps volts : FourSamples) (s : State) :
    (lcsLit b amps volts s).1.outside .lamps = s.outside .lamps := by
  unfold lcsLit; dsimp only
  split
  · split
    · split <;> simp
    · rfl
  · rfl

/-- The reactions that events begin with: a block's own action, a change of the field, or a request's change with what it
hands on, under what the request's checks have established. -/
inductive Begins (s : State) : Held → Reaction → Prop
  | acts {part : Held} {k : Writer} {r : Reaction} (h : Acts s k r) : Begins s part r
  | asks {part : Held} (ns : List Notice) : Begins s part (s, ns)
  | plug {part : Held} (b : BayNo) : Begins s part (s.modBfe b (fun f => { f with plug := !f.plug, plugTimer := none }),
      if (s.bfeAt b).plug then plugOutNotices b (s.bfeAt b) ((s.clrAt b).state == .clearing)
      else plugInNotices b (s.bfeAt b))
  | trip {part : Held} (b : BayNo) : Begins s part (s.modBfe b (fun f => { f with tripped := true, overdraw := none }),
      [.contactor b, .hplEnd b .overdraw, .raise b .overdraw .plain false])
  | enable (b : BayNo) (disabled : (s.bfeAt b).enabled = false) :
      Begins s .enabled (s.modBfe b (fun f => { f with enabled := true }), enableNotices b (s.bfeAt b).plug)
  | disable (b : BayNo) (free : s.holdsLane b = false) :
      Begins s .enabled (s.modBfe b (fun f => { f with enabled := false, tripped := false, overdraw := none }),
        disableNotices b (s.dkuAt b).retained)
  | shedLine {part : Held} (n : Nat) :
      Begins s part (s.modFeeder (fun f => { f with shedLine := n }), [.raiseHall .shed (.shed true), .falRecompute])
  | shed (n : Nat) (fits : s.feeder.shedHost ≤ Config.maxShedHost → n ≤ Config.maxShedHost) :
      Begins s .shedHost (s.modFeeder (fun f => { f with shedHost := n }), [.raiseHall .shed (.shed false), .falRecompute])
  | clock (f : Clock → Clock) (ns : List Notice) : Begins s .clock (s.modClock f, ns)
  | setting (n : Fin 17) (v : Nat) :
      Begins s .settings (s.putSetting n (settingTaken n v), if s.setting n = settingTaken n v then [] else settingNotices n)
  | map (m : List MapEntry) (fits : s.map.length ≤ Config.mapSize → m.length ≤ Config.mapSize) :
      Begins s .map ({ s with map := m }, mapChangeNotices)
  | ambient (t : Int) : Begins s .ambient ({ s with ambient := t }, allBays.map .hplRecompute)
  | hold (b : BayNo) (h : HoldStack)
      (fits : (s.dpmAt b).operator.saved.length ≤ Config.stackSize → h.saved.length ≤ Config.stackSize) :
      Begins s .operator (s.modDpm b (fun d => { d with operator := h }), [.rederive b])
  | hallHold (h : HoldStack)
      (fits : s.hallHold.saved.length ≤ Config.stackSize → h.saved.length ≤ Config.stackSize) :
      Begins s .hallHold ({ s with hallHold := h }, allBays.map .rederive)
  | add {part : Held} (id : Word16) (b : BayNo) (w : DepartureWords) (f : DepartureFields) (x : Waivers)
      (inRange : departureFieldsOf w = some f) (named : id.toNat ≠ 0) (new : s.departureOf id.toNat = none)
      (room : s.departures.length < Config.listSize) :
      Begins s part ({ s with departures := insertDeparture (f.record id.toNat b x) s.departures },
        [.workOut b, .lateCheck (some id.toNat)] ++ wrongBayPass)
  | amend {part : Held} (d : Departure) (w : DepartureWords) (f : DepartureFields) (inRange : departureFieldsOf w = some f)
      (listed : s.departureOf d.id = some d) :
      Begins s part (s.replaceDeparture d f, amendNotices d f (s.replaceDeparture d f))
  | cancel {part : Held} (d : Departure) :
      Begins s part ({ s with departures := removeDeparture d.id s.departures },
        cancelNotices d.bay ((s.dpmAt d.bay).active == some d.id))
  | waive {part : Held} (d : Departure) (w : Waivers) :
      Begins s part ({ s with departures := modDeparture d.id (fun x => { x with waivers := w }) s.departures },
        if (s.dpmAt d.bay).active = some d.id then [.ownConditions d.bay] else [])

/-- A bay's enable state, debounced plug, trip, contactor, latch and signal: what is left of its field unit when raw levels,
debounce timers, presence, samples and the overdraw timer are blanked. -/
def Bfe.steady (f : Bfe) : Bfe :=
  { f with rawPresence := false, rawPlug := false, presence := false, presenceTimer := none, plugTimer := none,
           overdraw := none, shore := [], auxVolts := [], auxAmps := [] }

/-- The moves a command is made of. -/
inductive Does : Held → State → State → Prop
  | nothing {part : Held} (s : State) : Does part s s
  | event {part : Held} {s : State} {r : Reaction} (begun : Begins s part r) : Does part s (perform r)
  | senses {part : Held} (b : BayNo) (f : Bfe → Bfe) (s : State) (only : (f (s.bfeAt b)).steady = (s.bfeAt b).steady) :
      Does part s (s.modBfe b f)
  | inputs {part : Held} (f : HallInputs → HallInputs) (s : State) : Does part s (s.modInputs f)
  | reply {part : Held} (kind : Nat) (payload : List Byte) (s : State) : Does part s (reply kind payload s)
  | receiver {part : Held} (inFrame : Bool) (held : Option HostFrame) (s : State) :
      Does part s (s.modHli (fun h => { h with inFrame := inFrame, held := held }))
  | freed {part : Held} (held : Option HostFrame) (s : State) :
      Does part s (s.modHli (fun h => { h with sending := none, lineOut := [], held := held }))
  | raisesHall {part : Held} (k : HallFlag) (r : Reason) (s : State) : Does part s (raiseHallFlag s k r)
  | fetched (s : State) : Does .flags s s.fetched
  | masked (m : BitVec 24) (s : State) : Does .mask s (s.withMask m)
  | restarted (s : State) : Does .flags s (restarted s)
  | poweredOn (s : State) : Does .all s (poweredOn s)
  | andThen {part : Held} {s t u : State} (first : Does part s t) (next : Does part t u) : Does part s u

variable {part : Held}

@[simp] theorem perform_done (s : State) : perform (done s) = s := rfl

/-- A block's own action leaves everything outside what the block writes as it stands. -/
theorem Acts.outside {s : State} {k : Writer} {r : Reaction} (h : Acts s k r) : r.1.outside k = s.outside k := by
  cases h with
  | replyStart b start => exact clcReplyStart_outside b start s
  | replyFrame b start kind payload check => exact clcReply_outside b start kind payload check s
  | characterError b => exact clcFailure_outside b _ _
  | failure b p => exact clcFailure_outside b p s
  | reprobe b => unfold clcReprobe; dsimp only; split <;> rfl
  | poll b => unfold clcPoll; split <;> rfl
  | stale b => unfold hplStale; split <;> rfl
  | ramp => unfold falRampExpired; split <;> rfl
  | confirm => unfold falConfirmExpired; split <;> (try split) <;> rfl
  | meter b ns => exact falMeter_outside b s
  | baseline b amps => exact lcsBaseline_outside b amps s
  | settle b => unfold lcsSettled; dsimp only; split <;> rfl
  | lit b amps volts => exact lcsLit_outside b amps volts s
  | validity b => unfold lcsExpired; dsimp only; split <;> rfl
  | advance b => exact dropReason_outside b _ s
  | abort b stands => simp [lcsAbort, handOutcomes]
  | openWait b => unfold clrOpenWaitExpired; split <;> simp
  | plugTimer b => unfold clrPlugExpired; split <;> simp
  | laneTimer l => unfold laneExpired; dsimp only; split <;> simp [laneRelease]
  | passage l => unfold passagePulse; split <;> simp [laneRelease]
  | closeLane l => unfold Machine.closeLane; split <;> simp
  | openLane l => unfold Machine.openLane; split <;> simp
  | _ => rfl

/-! ### Rows of the field -/

theorem Acts.does {s : State} {k : Writer} {r : Reaction} (h : Acts s k r) : Does part s (perform r) := .event (.acts h)

/-- A change of what a bay's sensors show, then notices. -/
theorem Does.sensesThen (b : BayNo) (f : Bfe → Bfe) (s : State) (ns : List Notice)
    (only : (f (s.bfeAt b)).steady = (s.bfeAt b).steady) : Does part s (perform (s.modBfe b f, ns)) :=
  (Does.senses b f s only).andThen (.event (.asks ns))

theorem gateLevel_does (l : Lane) (active : Bool) (s : State) : Does part s (perform (gateLevel l active s)) := by
  cases l <;> dsimp only [gateLevel]
  case a =>
    split
    · exact (Does.inputs _ s).andThen (Acts.passage .a).does
    · rw [perform_done]; exact .inputs _ s
  case b =>
    split
    · exact (Does.inputs _ s).andThen (Acts.passage .b).does
    · rw [perform_done]; exact .inputs _ s

theorem rawChange_does (i : FieldInput) (level : Bool) (s : State) : Does part s (perform (rawChange i level s)) := by
  cases i with
  | presence b => simp only [rawChange, perform_done]; exact .senses b _ s rfl
  | plug b => simp only [rawChange, perform_done]; exact .senses b _ s rfl
  | shed => simp only [rawChange, perform_done]; exact .inputs _ s
  | gate l => exact gateLevel_does l level s

theorem presenceChange_does (b : BayNo) (s : State) : Does part s (perform (presenceChange b s)) := by
  unfold presenceChange
  dsimp only
  split
  · exact .nothing s
  · exact .sensesThen b _ s _ rfl

theorem plugChange_does (b : BayNo) (s : State) : Does part s (perform (plugChange b s)) := by
  unfold plugChange
  dsimp only
  split
  · exact .nothing s
  · exact .event (.plug b)

theorem shedLineChange_does (s : State) : Does part s (perform (shedLineChange s)) := by
  unfold shedLineChange
  dsimp only
  split
  · exact .nothing s
  · exact (Does.inputs _ s).andThen (.event (.shedLine _))

theorem gatePassage_does (l : Lane) (s : State) : Does part s (perform (gatePassage l s)) := by
  unfold gatePassage
  split
  · split
    · exact (Does.inputs _ s).andThen (Acts.passage .a).does
    · exact .nothing s
  · split
    · exact (Does.inputs _ s).andThen (Acts.passage .b).does
    · exact .nothing s

theorem meterSample_does (b : BayNo) (shore volts amps : Int) (s : State) :
    Does part s (perform (meterSample b shore volts amps s)) := by
  unfold meterSample
  exact ((Does.senses b _ s rfl).andThen (Does.senses b _ _ rfl)).andThen (Acts.meter b _).does

theorem overdrawTrip_does (b : BayNo) (s : State) : Does part s (perform (overdrawTrip b s)) := by
  unfold overdrawTrip
  split
  · exact .event (.trip b)
  · exact .nothing s

/-! ### Requests -/

theorem Does.answers {s t : State} (h : Does part s t) (kind : Nat) (payload : List Byte) :
    Does part s (Machine.reply kind payload t) := h.andThen (.reply kind payload t)

theorem Does.performs {s : State} {r : Reaction} (begun : Begins s part r) (kind : Nat) (payload : List Byte) :
    Does part s (Machine.reply kind payload (perform r)) := (Does.event begun).answers kind payload

theorem reqEventMask_does (m : Option (BitVec 24)) (s : State) : Does .mask s (reqEventMask m s) := by
  cases m with
  | none => exact .reply _ _ s
  | some m => exact (Does.masked m s).answers _ _

theorem reqSettingsWrite_does (n : Byte) (v : Word32) (s : State) : Does .settings s (reqSettingsWrite n v s) := by
  unfold reqSettingsWrite
  split
  · exact .reply _ _ s
  · exact .performs (.setting _ _) _ _

theorem reqSettingsRead_does (n : Byte) (s : State) : Does part s (reqSettingsRead n s) := by
  unfold reqSettingsRead; split <;> exact .reply _ _ s

theorem reqBayEnable_does (x : Byte) (s : State) : Does .enabled s (reqBayEnable x s) := by
  unfold reqBayEnable
  split
  · exact .reply _ _ s
  · split
    · exact .reply _ _ s
    case isFalse h => exact .performs (.enable _ (Bool.not_eq_true _ ▸ h)) _ _

theorem reqBayDisable_does (x : Byte) (s : State) : Does .enabled s (reqBayDisable x s) := by
  unfold reqBayDisable
  split
  · exact .reply _ _ s
  · split
    · exact .reply _ _ s
    · split
      · exact .reply _ _ s
      case isFalse h => exact .performs (.disable _ (Bool.not_eq_true _ ▸ h)) _ _

theorem reqBayRead_does (x : Byte) (s : State) :
    Does part s (reqBayStatus x s) ∧ Does part s (reqLinkRead x s) ∧ Does part s (reqProfileRead x s) ∧ Does part s (reqFaultsRead x s) ∧
      Does part s (reqHeatRead x s) ∧ Does part s (reqLampRead x s) ∧ Does part s (reqHoldsRead x s) := by
  unfold reqBayStatus reqLinkRead reqProfileRead reqFaultsRead reqHeatRead reqLampRead reqHoldsRead
  cases bayOf x with
  | none => exact ⟨.reply .., .reply .., .reply .., .reply .., .reply .., .reply .., .reply ..⟩
  | some b => exact ⟨.reply .., .reply .., .reply .., .reply .., .reply .., .reply .., .reply ..⟩

theorem reqRedock_does (x : Byte) (s : State) : Does part s (reqRedock x s) := by
  unfold reqRedock
  split
  · exact .reply _ _ s
  · split
    · exact .reply _ _ s
    · split
      · exact .reply _ _ s
      · split
        · exact .reply _ _ s
        · exact .performs (.asks _) _ _

theorem reqMapClear_does (s : State) : Does .map s (reqMapClear s) := by
  unfold reqMapClear
  split
  · exact .reply _ _ s
  · exact .performs (.map [] fun _ => Nat.zero_le _) _ _

theorem reqMapAppend_does (e : MapWords) (s : State) : Does .map s (reqMapAppend e s) := by
  unfold reqMapAppend
  split
  · exact .reply _ _ s
  · split
    · exact .reply _ _ s
    · exact .performs (.map _ fun _ => by simp only [List.length_append, List.length_singleton]; omega) _ _

theorem reqMapInsert_does (p : Byte) (e : MapWords) (s : State) : Does .map s (reqMapInsert p e s) := by
  unfold reqMapInsert
  split
  · exact .reply _ _ s
  · split
    · exact .reply _ _ s
    · split
      · exact .reply _ _ s
      · refine .performs (.map _ fun _ => ?_) _ _
        simp only [List.length_append, List.length_take, List.length_cons, List.length_drop]; omega

theorem reqFaultScan_does (x : Byte) (s : State) : Does part s (reqFaultScan x s) := by
  unfold reqFaultScan
  split
  · exact .reply _ _ s
  · split
    · exact .reply _ _ s
    · split
      · exact .reply _ _ s
      · exact .performs (.asks _) _ _

theorem reqShedEnter_does (s : State) : Does .shedHost s (reqShedEnter s) := by
  unfold reqShedEnter
  split
  · exact .reply _ _ s
  · exact .performs (.shed _ fun _ => by omega) _ _

theorem reqShedLeave_does (s : State) : Does .shedHost s (reqShedLeave s) := by
  unfold reqShedLeave
  split
  · exact .reply _ _ s
  · exact .performs (.shed _ fun _ => by omega) _ _

theorem reqLampStart_does (x m n : Byte) (s : State) : Does part s (reqLampStart x m n s) := by
  unfold reqLampStart
  split
  · split
    · exact .reply _ _ s
    · split
      · exact .reply _ _ s
      · split
        · exact .reply _ _ s
        case isFalse h => exact .performs (.acts (.lampStart _ _ _ (Bool.not_eq_true _ ▸ h))) _ _
  · exact .reply _ _ s

theorem reqLampAdvance_does (x : Byte) (s : State) : Does part s (reqLampAdvance x s) := by
  unfold reqLampAdvance
  split
  · exact .reply _ _ s
  · split
    · exact .reply _ _ s
    · split
      · exact .reply _ _ s
      · split
        · exact .performs (.acts (.advance _)) _ _
        · exact .reply _ _ s

theorem reqLampAbort_does (x : Byte) (s : State) : Does part s (reqLampAbort x s) := by
  unfold reqLampAbort
  split
  · exact .reply _ _ s
  · split
    · exact .reply _ _ s
    · split
      · exact .reply _ _ s
      · split
        case isTrue h => exact .performs (.acts (.abort _ h)) _ _
        · exact .reply _ _ s

theorem reqDepartureAdd_does (id : Word16) (x : Byte) (w : DepartureWords) (v : Byte) (s : State) :
    Does part s (reqDepartureAdd id x w v s) := by
  unfold reqDepartureAdd
  split
  case h_2 => exact .reply _ _ s
  case h_1 inRange _ =>
    split
    · exact .reply _ _ s
    case isFalse named =>
      unfold addDeparture
      split
      · exact .reply _ _ s
      · split
        · exact .reply _ _ s
        case isFalse new =>
          split
          · exact .reply _ _ s
          case isFalse room =>
            split
            · exact .reply _ _ s
            · exact .performs (.add id _ w _ _ inRange named (by simpa using new) (Nat.not_le.mp room)) _ _

theorem departureOf_id {s : State} {id : Nat} {d : Departure} (h : s.departureOf id = some d) : d.id = id := by
  simpa using List.find?_some h

theorem reqDepartureAmend_does (id : Word16) (w : DepartureWords) (s : State) : Does part s (reqDepartureAmend id w s) := by
  unfold reqDepartureAmend
  split
  · exact .reply _ _ s
  case h_2 inRange =>
    split
    · exact .reply _ _ s
    · split
      · exact .reply _ _ s
      case h_2 listed =>
        split
        · exact .reply _ _ s
        · unfold amendDeparture
          dsimp only
          split
          · exact .reply _ _ s
          · refine .performs (.amend _ w _ inRange ?_) _ _
            rw [departureOf_id listed, listed]

theorem reqDepartureCancel_does (id : Word16) (s : State) : Does part s (reqDepartureCancel id s) := by
  unfold reqDepartureCancel
  split
  · exact .reply _ _ s
  · split
    · exact .reply _ _ s
    · split
      · exact .reply _ _ s
      · exact .performs (.cancel _) _ _

theorem reqDepartureWaive_does (id : Word16) (v : Byte) (s : State) : Does part s (reqDepartureWaive id v s) := by
  unfold reqDepartureWaive
  split
  · exact .reply _ _ s
  · split
    · exact .reply _ _ s
    · split
      · exact .reply _ _ s
      · exact .performs (.waive _ _) _ _

theorem reqDepartureRead_does (id : Word16) (s : State) : Does part s (reqDepartureRead id s) := by
  unfold reqDepartureRead; split <;> exact .reply _ _ s

theorem reqDepartureList_does (n : Byte) (s : State) : Does part s (reqDepartureList n s) := by
  unfold reqDepartureList; split <;> exact .reply _ _ s

theorem HoldStack.pop_fits {h : HoldStack} {n : Nat} (fits : h.saved.length ≤ n) : h.pop.saved.length ≤ n := by
  unfold HoldStack.pop
  split
  · exact fits
  case h_2 e => rw [e, List.length_cons] at fits; exact Nat.le_of_succ_le fits

theorem reqHoldPush_does (x r : Byte) (s : State) : Does .operator s (reqHoldPush x r s) := by
  unfold reqHoldPush
  split
  · exact .reply _ _ s
  · split
    · exact .reply _ _ s
    case isFalse room => exact .performs (.hold _ (HoldStack.push _ r) fun _ => Nat.not_le.mp room) _ _

theorem reqHoldPop_does (x : Byte) (s : State) : Does .operator s (reqHoldPop x s) := by
  unfold reqHoldPop
  split
  · exact .reply _ _ s
  · split
    · exact .reply _ _ s
    · exact .performs (.hold _ _ HoldStack.pop_fits) _ _

theorem reqHallHoldPush_does (r : Byte) (s : State) : Does .hallHold s (reqHallHoldPush r s) := by
  unfold reqHallHoldPush
  split
  · exact .reply _ _ s
  case isFalse room => exact .performs (.hallHold (s.hallHold.push r) fun _ => Nat.not_le.mp room) _ _

theorem reqHallHoldPop_does (s : State) : Does .hallHold s (reqHallHoldPop s) := by
  unfold reqHallHoldPop
  split
  · exact .reply _ _ s
  · exact .performs (.hallHold _ HoldStack.pop_fits) _ _

theorem reqLaneClose_does (x : Byte) (s : State) : Does part s (reqLaneClose x s) := by
  unfold reqLaneClose
  split
  · exact .reply _ _ s
  · exact .performs (.acts (.closeLane _)) _ _

theorem reqLaneOpen_does (x : Byte) (s : State) : Does part s (reqLaneOpen x s) := by
  unfold reqLaneOpen
  split
  · exact .reply _ _ s
  · exact .performs (.acts (.openLane _)) _ _

theorem reqUnknownKind_does (k : Byte) (s : State) : Does part s (reqUnknownKind k s) := by
  unfold reqUnknownKind
  split
  · exact .nothing s
  · exact .reply _ _ s

/-- Taking any request is a chain of moves. -/
theorem performRequest_does (i : Instr) (s : State) : Does (alters i) s (performRequest i s) := by
  obtain ⟨status, link, profile, faults, heat, lamp, holds⟩ : (∀ x, Does (alters i) s (reqBayStatus x s)) ∧
      (∀ x, Does (alters i) s (reqLinkRead x s)) ∧ (∀ x, Does (alters i) s (reqProfileRead x s)) ∧ (∀ x, Does (alters i) s (reqFaultsRead x s)) ∧
      (∀ x, Does (alters i) s (reqHeatRead x s)) ∧ (∀ x, Does (alters i) s (reqLampRead x s)) ∧ ∀ x, Does (alters i) s (reqHoldsRead x s) := by
    simpa only [forall_and] using fun x => reqBayRead_does x s
  cases i with
  | ident | timeRead | mapRead | budgetRead | lanesRead => exact .reply _ _ s
  | restart => exact (Does.restarted s).answers _ _
  | eventsFetch => exact (Does.fetched s).answers _ _
  | eventMask m => exact reqEventMask_does m s
  | settingsWrite n v => exact reqSettingsWrite_does n v s
  | settingsRead n => exact reqSettingsRead_does n s
  | setTime t => exact .performs (.clock _ _) _ _
  | bayEnable x => exact reqBayEnable_does x s
  | bayDisable x => exact reqBayDisable_does x s
  | bayStatus x => exact status x
  | linkRead x => exact link x
  | redock x => exact reqRedock_does x s
  | profileRead x => exact profile x
  | mapClear => exact reqMapClear_does s
  | mapAppend e => exact reqMapAppend_does e s
  | mapInsert p e => exact reqMapInsert_does p e s
  | faultScan x => exact reqFaultScan_does x s
  | faultsRead x => exact faults x
  | ambientSet t => exact .performs (.ambient _) _ _
  | heatRead x => exact heat x
  | shedEnter => exact reqShedEnter_does s
  | shedLeave => exact reqShedLeave_does s
  | lampStart x m n => exact reqLampStart_does x m n s
  | lampAdvance x => exact reqLampAdvance_does x s
  | lampAbort x => exact reqLampAbort_does x s
  | lampRead x => exact lamp x
  | departureAdd id x w v => exact reqDepartureAdd_does id x w v s
  | departureAmend id w => exact reqDepartureAmend_does id w s
  | departureCancel id => exact reqDepartureCancel_does id s
  | departureWaive id v => exact reqDepartureWaive_does id v s
  | departureRead id => exact reqDepartureRead_does id s
  | departureList n => exact reqDepartureList_does n s
  | holdPush x r => exact reqHoldPush_does x r s
  | holdPop x => exact reqHoldPop_does x s
  | hallHoldPush r => exact reqHallHoldPush_does r s
  | hallHoldPop => exact reqHallHoldPop_does s
  | holdsRead x => exact holds x
  | laneClose x => exact reqLaneClose_does x s
  | laneOpen x => exact reqLaneOpen_does x s
  | unknownKind k => exact reqUnknownKind_does k s
  | _ => exact .nothing s

/-! ### Frames and commands -/

theorem takeFrame_does (f : HostFrame) (s : State) : ∃ part, Does part s (takeFrame f s) := by
  unfold takeFrame
  split
  · exact ⟨_, performRequest_does _ s⟩
  · exact ⟨.nothing, .reply _ _ s⟩

theorem discardFrame_does (why : HostLinkReason) (s : State) : Does part s (discardFrame why s) := by
  unfold discardFrame
  split
  · exact (Does.receiver false s.hli.held s).andThen (.raisesHall ..)
  · exact .nothing s

theorem hostFrame_does (f : HostFrame) (s : State) : ∃ part, Does part s (hostFrame f s) := by
  unfold hostFrame
  split
  · exact takeFrame_does f s
  case h_2 older _ _ =>
    obtain ⟨part, taken⟩ := takeFrame_does older (s.modHli (fun h => { h with held := some f }))
    exact ⟨part, (Does.receiver s.hli.inFrame (some f) s).andThen taken⟩
  · exact ⟨.nothing, .receiver s.hli.inFrame (some f) s⟩
  · exact ⟨.nothing, .raisesHall ..⟩

theorem evHostFrameReceived_does (kind : Byte) (body : CheckedPayload) (s : State) :
    ∃ part, Does part s (evHostFrameReceived kind body s) := by
  unfold evHostFrameReceived
  dsimp only
  split
  · split
    · obtain ⟨part, taken⟩ := hostFrame_does ⟨kind, body.payload⟩ s.hunting
      exact ⟨part, (Does.receiver false s.hli.held s).andThen taken⟩
    · exact ⟨.nothing, discardFrame_does ..⟩
  · exact ⟨.nothing, .nothing s⟩

theorem evReplySent_does (s : State) : ∃ part, Does part s (evReplySent s) := by
  unfold evReplySent
  split
  · exact ⟨.nothing, .nothing s⟩
  · exact ⟨.nothing, .freed s.hli.held s⟩
  case h_3 f _ _ =>
    obtain ⟨part, taken⟩ := takeFrame_does f (s.modHli (fun h => { h with sending := none, lineOut := [], held := none }))
    exact ⟨part, (Does.freed none s).andThen taken⟩

/-- A request row does what the taking of its request does (R179). -/
theorem exec_of_encodeRequest {i : Instr} {f : HostFrame} (h : encodeRequest i = some f) (s : State) :
    exec i s = .next (performRequest i s) := by
  cases i <;> first | rfl | simp [encodeRequest] at h

/-- A command that takes no request from a frame answers a next state by a chain of moves that alter what it alters. -/
theorem exec_does_own {i : Instr} (notFrame : ∀ k p, i ≠ .hostFrameReceived k p) (notSent : i ≠ .replySent) (s : State) :
    ∃ t, exec i s = .next t ∧ Does (alters i) s t := by
  by_cases request : (encodeRequest i).isSome
  · obtain ⟨f, h⟩ := Option.isSome_iff_exists.mp request
    exact ⟨_, exec_of_encodeRequest h s, performRequest_does i s⟩
  · cases i with
    | powerOn => exact ⟨_, rfl, .poweredOn s⟩
    | hostFrameReceived kind body => exact absurd rfl (notFrame kind body)
    | replySent => exact absurd rfl notSent
    | hostFrameFault cause => exact ⟨_, rfl, discardFrame_does _ s⟩
    | hostFrameGap => exact ⟨_, rfl, discardFrame_does _ s⟩
    | unknownKind k => exact ⟨_, rfl, reqUnknownKind_does k s⟩
    | rawInputChange i level => exact ⟨_, rfl, rawChange_does i level s⟩
    | presenceChange b => exact ⟨_, rfl, presenceChange_does b s⟩
    | plugChange b => exact ⟨_, rfl, plugChange_does b s⟩
    | shedLineChange => exact ⟨_, rfl, shedLineChange_does s⟩
    | gatePassage l => exact ⟨_, rfl, gatePassage_does l s⟩
    | meterSample b x y z => exact ⟨_, rfl, meterSample_does b x y z s⟩
    | overdrawTrip b => exact ⟨_, rfl, overdrawTrip_does b s⟩
    | openWaitTimer b => exact ⟨_, rfl, Acts.does (.openWait b)⟩
    | plugTimer b => exact ⟨_, rfl, Acts.does (.plugTimer b)⟩
    | clockTick => exact ⟨_, rfl, .event (.clock _ _)⟩
    | lineQuietSend b => exact ⟨_, rfl, Acts.does (.send b)⟩
    | requestSent b => exact ⟨_, rfl, Acts.does (.sent b)⟩
    | replyFrame b kind payload check => exact ⟨_, rfl, Acts.does (.replyFrame b.bay b.start kind payload check)⟩
    | replyCharacterError b => exact ⟨_, rfl, Acts.does (.characterError b)⟩
    | noReply b => exact ⟨_, rfl, Acts.does (.failure b _)⟩
    | replyGap b => exact ⟨_, rfl, Acts.does (.failure b _)⟩
    | reprobeTimer b => exact ⟨_, rfl, Acts.does (.reprobe b)⟩
    | pollTimer b => exact ⟨_, rfl, Acts.does (.poll b)⟩
    | staleTimer b => exact ⟨_, rfl, Acts.does (.stale b)⟩
    | rampTimer => exact ⟨_, rfl, Acts.does .ramp⟩
    | confirmTimer => exact ⟨_, rfl, Acts.does .confirm⟩
    | baselineComplete b x => exact ⟨_, rfl, Acts.does (.baseline b x)⟩
    | settleTimer b => exact ⟨_, rfl, Acts.does (.settle b)⟩
    | litComplete b x y => exact ⟨_, rfl, Acts.does (.lit b x y)⟩
    | validityTimer b => exact ⟨_, rfl, Acts.does (.validity b)⟩
    | laneTimer l => exact ⟨_, rfl, Acts.does (.laneTimer l)⟩
    | sofCharacter => exact ⟨_, rfl, .receiver true s.hli.held s⟩
    | replyStart b => exact ⟨_, rfl, Acts.does (.replyStart b.bay b.start)⟩
    | eventMask m => cases m <;> exact absurd rfl request
    | _ => exact absurd rfl request

/-- Every command answers a next state, by a chain of moves. -/
theorem exec_does (i : Instr) (s : State) : ∃ part t, exec i s = .next t ∧ Does part s t := by
  by_cases frame : ∃ k p, i = .hostFrameReceived k p
  · obtain ⟨kind, body, rfl⟩ := frame
    obtain ⟨part, taken⟩ := evHostFrameReceived_does kind body s
    exact ⟨part, _, rfl, taken⟩
  · by_cases sent : i = .replySent
    · subst sent
      obtain ⟨part, taken⟩ := evReplySent_does s
      exact ⟨part, _, rfl, taken⟩
    · exact ⟨_, exec_does_own (fun k p h => frame ⟨k, p, h⟩) sent s⟩

/-! ### Invariants of an event under way -/

/-- An invariant of the notices still to be taken and the state, kept by taking one and by leaving them over (log 5). -/
structure KeptByNotices (P : List Notice → State → Prop) : Prop where
  taken : ∀ n ns s, P (n :: ns) s → P ((handle n s).2 ++ ns) (handle n s).1
  leftOver : ∀ ns s, P ns s → P [] { s with unfinished := s.unfinished ++ ns }

theorem KeptByNotices.run {P : List Notice → State → Prop} (kept : KeptByNotices P) (k : Nat) {ns : List Notice}
    {s : State} (h : P ns s) : P [] (run k ns s) := by
  induction k generalizing ns s with
  | zero =>
    cases ns with
    | nil => exact h
    | cons n ns => exact kept.leftOver _ _ h
  | succ k ih =>
    cases ns with
    | nil => exact h
    | cons n ns => exact ih (kept.taken n ns s h)

theorem KeptByNotices.perform {P : List Notice → State → Prop} (kept : KeptByNotices P) {r : Reaction} (h : P r.2 r.1) :
    P [] (perform r) := kept.run _ h

/-- An invariant of the state kept by every notice whatever notices stand. -/
theorem KeptByNotices.of_state {P : State → Prop} (taken : ∀ n s, P s → P (handle n s).1)
    (leftOver : ∀ s ns, P s → P { s with unfinished := ns }) : KeptByNotices (fun _ s => P s) :=
  ⟨fun n _ s h => taken n s h, fun _ s h => leftOver s _ h⟩

/-- An invariant of states kept by every event, by every other move and by a millisecond. -/
structure KeptByMoves (P : State → Prop) : Prop where
  event : ∀ {part s r}, Begins s part r → P s → P (perform r)
  carriedOn : ∀ s, P s → P (perform ({ s with unfinished := [] }, s.unfinished))
  timers : ∀ s, P s → P (tickTimers s)
  senses : ∀ b f s, (f (s.bfeAt b)).steady = (s.bfeAt b).steady → P s → P (s.modBfe b f)
  inputs : ∀ f s, P s → P (s.modInputs f)
  queue : ∀ s q, P s → P { s with pending := q }
  reply : ∀ kind payload s, P s → P (reply kind payload s)
  receiver : ∀ inFrame held s, P s → P (s.modHli (fun h => { h with inFrame := inFrame, held := held }))
  freed : ∀ held s, P s → P (s.modHli (fun h => { h with sending := none, lineOut := [], held := held }))
  raisesHall : ∀ k r s, P s → P (raiseHallFlag s k r)
  fetched : ∀ s, P s → P s.fetched
  masked : ∀ m s, P s → P (s.withMask m)
  restarted : ∀ s, P s → P (restarted s)
  poweredOn : ∀ s, P (poweredOn s)

theorem KeptByMoves.does {P : State → Prop} (kept : KeptByMoves P) {s t : State} (h : Does part s t) (hs : P s) : P t := by
  induction h with
  | nothing s => exact hs
  | event begun => exact kept.event begun hs
  | senses b f s only => exact kept.senses b f s only hs
  | inputs f s => exact kept.inputs f s hs
  | reply kind payload s => exact kept.reply kind payload s hs
  | receiver inFrame held s => exact kept.receiver inFrame held s hs
  | freed held s => exact kept.freed held s hs
  | raisesHall k r s => exact kept.raisesHall k r s hs
  | fetched s => exact kept.fetched s hs
  | masked m s => exact kept.masked m s hs
  | restarted s => exact kept.restarted s hs
  | poweredOn s => exact kept.poweredOn s
  | andThen _ _ ih ih' => exact ih' (ih hs)

/-- What every move keeps, every step keeps. -/
theorem KeptByMoves.step {P : State → Prop} (kept : KeptByMoves P) {s t : State} (hs : P s) (h : step s = .next t) :
    P t := by
  unfold Machine.step at h
  split at h
  · cases h
    unfold idle
    split
    · exact kept.queue _ _ (kept.timers s hs)
    · exact kept.carriedOn s hs
  case h_2 i rest _ =>
    obtain ⟨_, u, answered, does⟩ := exec_does i (s.dequeue rest)
    cases answered.symm.trans h
    exact kept.does does (kept.queue s rest hs)

/-- An invariant kept by every move that may rest on the notices still to be taken: what an event begins with sets it up
for the event's notices, and each notice keeps it. -/
structure KeptBySteps (P : List Notice → State → Prop) : Prop extends KeptByNotices P where
  begins : ∀ {part s r}, Begins s part r → P [] s → P r.2 r.1
  carriedOn : ∀ s, P [] s → P s.unfinished { s with unfinished := [] }
  timers : ∀ s, P [] s → P [] (tickTimers s)
  senses : ∀ b f s, (f (s.bfeAt b)).steady = (s.bfeAt b).steady → P [] s → P [] (s.modBfe b f)
  inputs : ∀ f s, P [] s → P [] (s.modInputs f)
  queue : ∀ s q, P [] s → P [] { s with pending := q }
  reply : ∀ kind payload s, P [] s → P [] (reply kind payload s)
  receiver : ∀ inFrame held s, P [] s → P [] (s.modHli (fun h => { h with inFrame := inFrame, held := held }))
  freed : ∀ held s, P [] s → P [] (s.modHli (fun h => { h with sending := none, lineOut := [], held := held }))
  raisesHall : ∀ k r s, P [] s → P [] (raiseHallFlag s k r)
  fetched : ∀ s, P [] s → P [] s.fetched
  masked : ∀ m s, P [] s → P [] (s.withMask m)
  restarted : ∀ s, P [] s → P [] (restarted s)
  poweredOn : ∀ s, P [] (poweredOn s)

theorem KeptBySteps.moves {P : List Notice → State → Prop} (kept : KeptBySteps P) : KeptByMoves (P []) :=
  { kept with
    event := fun begun hs => kept.perform (kept.begins begun hs)
    carriedOn := fun s hs => kept.perform (r := ({ s with unfinished := [] }, s.unfinished)) (kept.carriedOn s hs) }

theorem KeptBySteps.step {P : List Notice → State → Prop} (kept : KeptBySteps P) {s t : State} (hs : P [] s)
    (h : step s = .next t) : P [] t := kept.moves.step hs h

end Sys2Proof.Machine
end

section
/-! O5 (R185). Only a settings write touches a setting, and it takes a value held within the range. -/

namespace Sys2Proof.Machine

theorem settings_of_outside {s t : State} {k : Writer} (h : t.outside k = s.outside k) : t.settings = s.settings :=
  eq_of_outside State.settings (fun _ => by cases k <;> rfl) h

theorem tickBay_settings (b : BayNo) (s : State) : (tickBay b s).settings = s.settings := rfl

theorem tickTimers_settings (s : State) : (tickTimers s).settings = s.settings := by
  unfold tickTimers
  rw [State.modLane_settings, State.modLane_settings]
  exact forBays_keeps State.settings tickBay_settings s

theorem settingsInRange_of_settings {s t : State} (h : t.settings = s.settings) (hs : s.SettingsInRange) :
    t.SettingsInRange := by
  simpa only [State.SettingsInRange, State.setting, h] using hs

theorem clampNat_bounds {lo hi : Nat} (h : lo ≤ hi) (v : Nat) : lo ≤ clampNat lo hi v ∧ clampNat lo hi v ≤ hi := by
  unfold clampNat; split
  · omega
  · split <;> omega

theorem settingRows_ordered (n : Fin 17) : Config.settingRows[n].lo ≤ Config.settingRows[n].hi := by
  revert n; decide

theorem settingTaken_inRange (n : Fin 17) (v : Nat) :
    Config.settingRows[n].lo ≤ settingTaken n v ∧ settingTaken n v ≤ Config.settingRows[n].hi :=
  clampNat_bounds (settingRows_ordered n) v

@[simp] theorem putSetting_same (s : State) (n : Fin 17) (v : Nat) : (s.putSetting n v).setting n = v :=
  Vector.getElem_set_self n.isLt

@[simp] theorem putSetting_ne (s : State) {n m : Fin 17} (v : Nat) (h : m ≠ n) :
    (s.putSetting n v).setting m = s.setting m :=
  Vector.getElem_set_ne n.isLt m.isLt (fun e => h (Fin.ext e.symm))

theorem putSetting_inRange {s : State} (hs : s.SettingsInRange) (n : Fin 17) (v : Nat) :
    (s.putSetting n (settingTaken n v)).SettingsInRange := by
  intro m
  by_cases h : m = n
  · subst h; rw [putSetting_same]; exact settingTaken_inRange m v
  · rw [putSetting_ne s _ h]; exact hs m

theorem fetched_settings (s : State) : s.fetched.settings = s.settings := rfl

theorem poweredOn_settings (s : State) : (poweredOn s).settings = State.reset.settings :=
  forBays_keeps State.settings (fun _ _ => rfl) _

theorem reset_settingsInRange : State.reset.SettingsInRange := by unfold State.SettingsInRange; decide

theorem settings_of_given {s t : State} (h : t.given = s.given) : t.settings = s.settings := congrArg Given.settings h

theorem restarted_settings (s : State) : (restarted s).settings = s.settings :=
  settings_of_given (restarted_given s)

theorem poweredOn_settingsInRange (s : State) : (poweredOn s).SettingsInRange :=
  settingsInRange_of_settings (poweredOn_settings s) reset_settingsInRange

theorem settingsInRange_kept : KeptBySteps (fun _ s => s.SettingsInRange) where
  taken n _ s := settingsInRange_of_settings (settings_of_outside (handle_outside n s))
  leftOver _ _ h := h
  begins {_ s r} begun h := by
    cases begun with
    | acts acted => exact settingsInRange_of_settings (settings_of_outside acted.outside) h
    | setting n v => exact putSetting_inRange h n v
    | _ => exact h
  carriedOn _ h := h
  timers s := settingsInRange_of_settings (tickTimers_settings s)
  senses _ _ _ _ h := h
  inputs _ _ h := h
  queue _ _ h := h
  reply _ _ _ h := h
  receiver _ _ _ h := h
  freed _ _ h := h
  raisesHall _ _ _ h := h
  fetched s := settingsInRange_of_settings (fetched_settings s)
  masked _ _ h := h
  restarted s := settingsInRange_of_settings (restarted_settings s)
  poweredOn := poweredOn_settingsInRange

/-- Settles O5: every move leaves the settings but a write, which takes a value within the range. -/
theorem stepKeepsSettingsInRange : Obligations.StepKeepsSettingsInRange := by
  unfold Obligations.StepKeepsSettingsInRange
  exact fun _ _ hs h => settingsInRange_kept.step hs h

end Sys2Proof.Machine
end

section
/-! O8 (R178, R184, R190). Raisings and re-evaluations keep ATTN with the flags; a reply puts its own frame on the line, and
the end of a reply clears both. -/

namespace Sys2Proof.Machine

/-! ## ATTN -/

/-- What ATTN's rule reads. -/
def State.flagView (s : State) : Vector (Vector Flag 13) 16 × Vector Flag 7 × HostLink := (s.flags, s.hallFlags, s.hli)

theorem attnFollows_of_flagView {s t : State} (h : t.flagView = s.flagView) (hs : s.AttnFollows) : t.AttnFollows := by
  simp only [State.flagView, Prod.mk.injEq] at h
  obtain ⟨flags, hallFlags, hli⟩ := h
  simpa only [State.AttnFollows, State.anyEnabledFlag, State.flag, State.flagsAt, State.hallFlag, flags, hallFlags, hli]
    using hs

theorem Acts.writer_ne {s : State} {k : Writer} {r : Reaction} (h : Acts s k r) : k ≠ .raising := by
  cases h <;> exact nofun

theorem Acts.flagView {s : State} {k : Writer} {r : Reaction} (h : Acts s k r) : r.1.flagView = s.flagView := by
  have ne := h.writer_ne
  refine eq_of_outside State.flagView (k := k) (fun _ => ?_) h.outside
  cases k
  case raising => exact absurd rfl ne
  all_goals rfl

theorem tickBay_flagView (b : BayNo) (s : State) : (tickBay b s).flagView = s.flagView := rfl

theorem tickTimers_flagView (s : State) : (tickTimers s).flagView = s.flagView := by
  have lanes (l : Lane) (t : State) : (t.modLane l LaneRecord.tick).flagView = t.flagView := by cases l <;> rfl
  unfold tickTimers
  rw [lanes, lanes]
  exact forBays_keeps State.flagView tickBay_flagView s

theorem reattend_attnFollows (s : State) : s.reattend.AttnFollows := rfl

theorem poweredOn_flagView (s : State) : (poweredOn s).flagView = State.reset.flagView :=
  forBays_keeps State.flagView (fun _ _ => rfl) _

theorem reset_attnFollows : State.reset.AttnFollows := by unfold State.AttnFollows; decide

theorem poweredOn_attnFollows (s : State) : (poweredOn s).AttnFollows :=
  attnFollows_of_flagView (poweredOn_flagView s) reset_attnFollows

theorem attnFollows_kept : KeptBySteps (fun _ s => s.AttnFollows) where
  taken n _ _ := handle_attn n
  leftOver _ _ h := h
  begins {_ s r} begun h := by
    cases begun with
    | acts acted => exact attnFollows_of_flagView acted.flagView h
    | _ => exact h
  carriedOn _ h := h
  timers s := attnFollows_of_flagView (tickTimers_flagView s)
  senses _ _ _ _ h := h
  inputs _ _ h := h
  queue _ _ h := h
  reply _ _ _ h := h
  receiver _ _ _ h := h
  freed _ _ h := h
  raisesHall k r _ := raiseHallFlag_attnFollows k r
  fetched _ _ := reattend_attnFollows _
  masked _ _ _ := reattend_attnFollows _
  restarted _ _ := reattend_attnFollows _
  poweredOn := poweredOn_attnFollows

/-! ## The host line -/

/-- What is being sent and what stands on the line. -/
def State.lineView (s : State) : Option HostFrame × List Byte := (s.hli.sending, s.hli.lineOut)

theorem hostLineFollows_of_lineView {s t : State} (h : t.lineView = s.lineView) (hs : s.HostLineFollows) :
    t.HostLineFollows := by
  simp only [State.lineView, Prod.mk.injEq] at h
  simpa only [State.HostLineFollows, h.1, h.2] using hs

theorem lineView_of_outside {s t : State} {k : Writer} (h : t.outside k = s.outside k) : t.lineView = s.lineView :=
  eq_of_outside State.lineView (fun _ => by cases k <;> rfl) h

theorem perform_lineView (r : Reaction) : (perform r).lineView = r.1.lineView := by
  suffices ∀ (k : Nat) (ns : List Notice) (s : State), (run k ns s).lineView = s.lineView from this _ _ _
  intro k
  induction k with
  | zero => intro ns s; cases ns <;> rfl
  | succ k ih =>
    intro ns s
    cases ns with
    | nil => rfl
    | cons n ns => exact (ih _ _).trans (lineView_of_outside (handle_outside n s))

theorem tickBay_lineView (b : BayNo) (s : State) : (tickBay b s).lineView = s.lineView := rfl

theorem tickTimers_lineView (s : State) : (tickTimers s).lineView = s.lineView := by
  unfold tickTimers State.lineView
  rw [State.modLane_hli, State.modLane_hli]
  exact forBays_keeps State.lineView tickBay_lineView s

theorem lineView_of_quiet {s t : State} (h : t.quiet = s.quiet) : t.lineView = s.lineView := by
  have hli : t.hli = s.hli := congrArg Quiet.hli h
  simp only [State.lineView, hli]

theorem restartBlocks_lineView (s : State) : (restartBlocks s).lineView = s.lineView := by
  have clearing (b : BayNo) (t : State) : (restartClearing b t).lineView = t.lineView := by
    unfold restartClearing
    split
    · rw [perform_lineView, lineView_of_quiet (laneReleaseOf_quiet b _)]; rfl
    · rfl
  unfold restartBlocks
  rw [forBays_keeps State.lineView (fun b t => lineView_of_quiet (restartClearance_quiet b t)),
    forBays_keeps State.lineView clearing, lineView_of_quiet (restartOrder_quiet _),
    forBays_keeps State.lineView (fun b t => lineView_of_quiet (restartField_quiet b t)),
    lineView_of_quiet (quiet_of_fixed (restartHall_fixed _)),
    forBays_keeps State.lineView (fun b t => lineView_of_quiet (quiet_of_fixed (restartSession_fixed b t))),
    forBays_keeps State.lineView (fun b t => lineView_of_quiet (quiet_of_fixed (restartLink_fixed b t)))]

theorem restartAllFlags_lineView (s : State) : (restartAllFlags s).lineView = s.lineView := by
  have flags (b : BayNo) (t : State) : (restartFlags b t).lineView = t.lineView := by
    unfold restartFlags; dsimp only; split <;> split <;> rfl
  unfold restartAllFlags
  rw [forBays_keeps State.lineView flags]
  split <;> rfl

/-- RESTART puts nothing on the line before its own reply. -/
theorem restarted_lineView (s : State) : (restarted s).lineView = s.lineView := by
  have reattend (t : State) : t.reattend.lineView = t.lineView := rfl
  have holds (b : BayNo) (t : State) : (restartHolds b t).lineView = t.lineView := by
    unfold restartHolds
    rw [perform_lineView, lineView_of_quiet (quiet_of_fixed (rederive_fixed b _))]; rfl
  unfold restarted
  rw [reattend, forBays_keeps State.lineView holds, restartAllFlags_lineView,
    forBays_keeps State.lineView (fun b t => lineView_of_quiet (quiet_of_fixed (restartDocking_fixed b t))),
    restartBlocks_lineView]

theorem poweredOn_lineView (s : State) : (poweredOn s).lineView = (none, []) :=
  forBays_keeps State.lineView (fun _ _ => rfl) _

theorem poweredOn_hostLineFollows (s : State) : (poweredOn s).HostLineFollows := by
  have line := poweredOn_lineView s
  simp only [State.lineView, Prod.mk.injEq] at line
  simp only [State.HostLineFollows, line]

theorem hostLineFollows_kept : KeptBySteps (fun _ s => s.HostLineFollows) where
  taken n _ s := hostLineFollows_of_lineView (lineView_of_outside (handle_outside n s))
  leftOver _ _ h := h
  begins {_ s r} begun h := by
    cases begun with
    | acts acted => exact hostLineFollows_of_lineView (lineView_of_outside acted.outside) h
    | _ => exact h
  carriedOn _ h := h
  timers s := hostLineFollows_of_lineView (tickTimers_lineView s)
  senses _ _ _ _ h := h
  inputs _ _ h := h
  queue _ _ h := h
  reply _ _ _ _ := rfl
  receiver _ _ _ h := h
  freed _ _ _ := rfl
  raisesHall _ _ _ h := h
  fetched _ h := h
  masked _ _ h := h
  restarted s := hostLineFollows_of_lineView (restarted_lineView s)
  poweredOn := poweredOn_hostLineFollows

/-- Settles O8: ATTN by what raises, re-evaluates or leaves the flags; the line by what sends a reply or frees its slot. -/
theorem stepKeepsAttnWithFlags : Obligations.StepKeepsAttnWithFlags := by
  unfold Obligations.StepKeepsAttnWithFlags
  exact ⟨fun _ _ hs h => attnFollows_kept.step hs h, fun _ _ hs h => hostLineFollows_kept.step hs h⟩

end Sys2Proof.Machine
end

section
/-! O50, O51 and O9 (R144 to R152). The departure list: inserting a record, late checks, and the order every step keeps. -/

namespace Sys2Proof.Machine

/-! ## Inserting a record -/

/-- Settles O50, by induction on the list: a record whose time is later than the new one's has only such behind it. -/
theorem insertedRecordStandsBehindItsTime : Obligations.InsertedRecordStandsBehindItsTime := by
  unfold Obligations.InsertedRecordStandsBehindItsTime
  intro d ds sorted
  induction ds with
  | nil => rfl
  | cons x xs ih =>
    obtain ⟨first, rest⟩ := List.pairwise_cons.mp sorted
    by_cases later : d.time < x.time
    · have all : ∀ y ∈ x :: xs, d.time < y.time := by
        rintro y (_ | ⟨_, hy⟩)
        · exact later
        · exact Nat.lt_of_lt_of_le later (first y hy)
      rw [List.filter_eq_nil_iff.mpr fun y hy => by simpa using all y hy,
        List.filter_eq_self.mpr fun y hy => by simpa using all y hy]
      simp [insertDeparture, later]
    · simp [insertDeparture, later, ih rest, Nat.not_lt.mp later]

theorem insertDeparture_perm (d : Departure) (ds : List Departure) : (insertDeparture d ds).Perm (d :: ds) := by
  induction ds with
  | nil => exact .refl _
  | cons x xs ih =>
    unfold insertDeparture
    split
    · exact .refl _
    · exact (ih.cons x).trans (.swap d x xs)

theorem insertDeparture_sorted (d : Departure) {ds : List Departure} (h : ds.Pairwise (fun x y => x.time ≤ y.time)) :
    (insertDeparture d ds).Pairwise (fun x y => x.time ≤ y.time) := by
  induction ds with
  | nil => exact List.pairwise_singleton _ _
  | cons x xs ih =>
    obtain ⟨first, rest⟩ := List.pairwise_cons.mp h
    unfold insertDeparture
    split
    case isTrue later =>
      refine List.pairwise_cons.mpr ⟨fun y hy => ?_, h⟩
      rcases List.mem_cons.mp hy with rfl | hy
      · exact Nat.le_of_lt later
      · exact Nat.le_trans (Nat.le_of_lt later) (first y hy)
    case isFalse notLater =>
      refine List.pairwise_cons.mpr ⟨fun y hy => ?_, ih rest⟩
      rcases List.mem_cons.mp ((insertDeparture_perm d xs).mem_iff.mp hy) with rfl | hy
      · exact Nat.not_lt.mp notLater
      · exact first y hy

/-! ## Late checks -/

theorem foundLate_of_mark (s : State) (d : Departure) (h : d.lateReported = true) : s.foundLate d = false := by
  simp [State.foundLate, h]

/-- Settles O51: a record found late takes the mark, and one with the mark is not found late. -/
theorem lateRecordIsReportedOnce : Obligations.LateRecordIsReportedOnce := by
  unfold Obligations.LateRecordIsReportedOnce
  intro s
  have checked (d : Departure) :
      s.foundLate (if s.foundLate d then { d with lateReported := true } else d) = false := by
    split
    · exact foundLate_of_mark s _ rfl
    case isFalse h => exact Bool.not_eq_true _ ▸ h
  have again (d : Departure) (hd : d ∈ (lateCheck (fun _ => true) s).1.departures) : s.foundLate d = false := by
    obtain ⟨e, -, rfl⟩ := List.mem_map.mp hd
    simpa using checked e
  refine ⟨fun d hd unmarked => ?_, ?_, ?_, ?_⟩
  · have := again d hd
    simp only [State.foundLate, State.latePoint, unmarked, Config.maxTime, Bool.not_false, Bool.true_and] at this
    exact Nat.not_le.mp (of_decide_eq_false this)
  · simp only [lateCheck, Bool.true_and]; rfl
  · simp only [lateCheck, Bool.true_and, List.map_map]
    refine List.map_congr_left fun d _ => ?_
    simp only [Function.comp_apply]
    split <;> rfl
  · have none (d : Departure) (hd : d ∈ (lateCheck (fun _ => true) s).1.departures) :
        (lateCheck (fun _ => true) s).1.foundLate d = false := again d hd
    generalize (lateCheck (fun _ => true) s).1 = t at none
    simp only [lateCheck, Bool.true_and, Prod.mk.injEq]
    constructor
    · have same : t.departures.map (fun d => if t.foundLate d then { d with lateReported := true } else d) =
          t.departures :=
        (List.map_congr_left fun d hd => by rw [none d hd]; rfl).trans (List.map_id _)
      rw [same]
    · rw [List.filter_eq_nil_iff.mpr fun d hd => by rw [none d hd]; exact Bool.false_ne_true, List.map_nil]

/-! ## The order of the list -/

/-- A departure list as R145 has it. -/
def Orderly (ds : List Departure) : Prop :=
  ds.length ≤ Config.listSize ∧ (ds.map Departure.id).Nodup ∧ ds.Pairwise (fun x y => x.time ≤ y.time) ∧
    ∀ d ∈ ds, d.InRange

theorem State.listOrdered_iff (s : State) : s.ListOrdered ↔ Orderly s.departures := Iff.rfl

theorem Orderly.insert {d : Departure} {ds : List Departure} (h : Orderly ds) (room : ds.length < Config.listSize)
    (new : d.id ∉ ds.map Departure.id) (inRange : d.InRange) : Orderly (insertDeparture d ds) := by
  obtain ⟨-, ids, sorted, ranges⟩ := h
  have perm := insertDeparture_perm d ds
  refine ⟨?_, ?_, insertDeparture_sorted d sorted, fun x hx => ?_⟩
  · rw [perm.length_eq]; exact room
  · exact ((perm.map _).nodup_iff).mpr (List.nodup_cons.mpr ⟨new, ids⟩)
  · rcases List.mem_cons.mp (perm.mem_iff.mp hx) with rfl | hx
    · exact inRange
    · exact ranges x hx

theorem Orderly.filter {ds : List Departure} (h : Orderly ds) (p : Departure → Bool) : Orderly (ds.filter p) := by
  obtain ⟨length, ids, sorted, ranges⟩ := h
  exact ⟨Nat.le_trans (List.length_filter_le p ds) length, (List.filter_sublist.map _).nodup ids, sorted.filter p,
    fun d hd => ranges d (List.mem_filter.mp hd).1⟩

/-- A change of records that leaves id and scheduled time keeps the order. -/
theorem Orderly.map {ds : List Departure} (h : Orderly ds) {f : Departure → Departure}
    (same : ∀ d ∈ ds, (f d).id = d.id ∧ (f d).time = d.time) (inRange : ∀ d ∈ ds, d.InRange → (f d).InRange) :
    Orderly (ds.map f) := by
  obtain ⟨length, ids, sorted, ranges⟩ := h
  refine ⟨by rwa [List.length_map], ?_, ?_, fun d hd => ?_⟩
  · have sameIds : (ds.map f).map Departure.id = ds.map Departure.id := by
      rw [List.map_map]; exact List.map_congr_left fun d hd => (same d hd).1
    rw [sameIds]; exact ids
  · refine List.pairwise_map.mpr (sorted.imp_of_mem fun {x y} hx hy le => ?_)
    rw [(same x hx).2, (same y hy).2]; exact le
  · obtain ⟨e, he, rfl⟩ := List.mem_map.mp hd
    exact inRange e he (ranges e he)

theorem departureOf_none_iff {s : State} {id : Nat} :
    s.departureOf id = none ↔ id ∉ s.departures.map Departure.id := by
  simp [State.departureOf, List.find?_eq_none]

theorem departureOf_mem {s : State} {id : Nat} {d : Departure} (h : s.departureOf id = some d) : d ∈ s.departures :=
  List.mem_of_find?_eq_some h

theorem clampInt_bounds {lo hi : Int} (h : lo ≤ hi) (v : Int) : lo ≤ clampInt lo hi v ∧ clampInt lo hi v ≤ hi := by
  unfold clampInt; split
  · omega
  · split <;> omega

/-- The fields of a record that a request's words give are in range (R144). -/
theorem departureFieldsOf_inRange {w : DepartureWords} {f : DepartureFields} (h : departureFieldsOf w = some f) :
    f.time ≤ Config.maxTime ∧ (∀ t, f.target = some t → 50 ≤ t ∧ t ≤ 300) ∧
      (∀ n, f.fleet = some n → 1 ≤ n ∧ n ≤ 65535) ∧ f.lead ≤ 30 := by
  unfold departureFieldsOf at h
  split at h
  · exact absurd h nofun
  · split at h
    · exact absurd h nofun
    case isFalse nonzero =>
      cases h
      refine ⟨?_, fun t ht => ?_, fun n hn => ?_, Nat.min_le_right _ _⟩
      · have := w.time.isLt; simp only [Config.maxTime]; omega
      · dsimp only at ht
        split at ht
        · cases ht; exact clampInt_bounds (by decide) _
        · exact absurd ht nofun
      · dsimp only at hn
        split at hn
        case isTrue present =>
          cases hn
          have := w.fleet.isLt
          simp only [present, Bool.true_and, beq_iff_eq] at nonzero
          omega
        · exact absurd hn nofun

theorem DepartureFields.record_inRange {w : DepartureWords} {f : DepartureFields} (h : departureFieldsOf w = some f)
    {id : Word16} (named : id.toNat ≠ 0) (b : BayNo) (x : Waivers) : (f.record id.toNat b x).InRange := by
  obtain ⟨time, target, fleet, lead⟩ := departureFieldsOf_inRange h
  have := id.isLt
  exact ⟨Nat.one_le_iff_ne_zero.mpr named, by simp only [DepartureFields.record]; omega, time, target, fleet, lead⟩

theorem Departure.amend_inRange {w : DepartureWords} {f : DepartureFields} (h : departureFieldsOf w = some f)
    {d : Departure} (hd : d.InRange) (late : Bool) : { d.amend f with lateReported := late }.InRange := by
  obtain ⟨time, target, fleet, lead⟩ := departureFieldsOf_inRange h
  exact ⟨hd.1, hd.2.1, time, target, fleet, lead⟩

theorem eq_of_id_eq {ds : List Departure} (ids : (ds.map Departure.id).Nodup) {x y : Departure} (hx : x ∈ ds) (hy : y ∈ ds)
    (same : x.id = y.id) : x = y := by
  induction ds with
  | nil => cases hx
  | cons d ds ih =>
    obtain ⟨new, rest⟩ := List.nodup_cons.mp ids
    rcases List.mem_cons.mp hx with rfl | inX <;> rcases List.mem_cons.mp hy with rfl | inY
    · rfl
    · exact absurd (same ▸ List.mem_map_of_mem inY) new
    · exact absurd (same ▸ List.mem_map_of_mem inX) new
    · exact ih rest inX inY

theorem orderly_replaceDeparture {s : State} (h : Orderly s.departures) {d : Departure} {w : DepartureWords}
    {f : DepartureFields} (inRange : departureFieldsOf w = some f) (listed : s.departureOf d.id = some d) :
    Orderly (s.replaceDeparture d f).departures := by
  have mem := departureOf_mem listed
  unfold State.replaceDeparture modDeparture
  dsimp only
  split
  case isTrue sameTime =>
    refine h.map (fun x hx => ?_) fun x _ hx => ?_
    · split
      case isTrue sameId =>
        have only : x = d := eq_of_id_eq h.2.1 hx mem sameId
        exact ⟨rfl, by rw [only]; exact sameTime.symm⟩
      · exact ⟨rfl, rfl⟩
    · split
      · exact Departure.amend_inRange inRange hx x.lateReported
      · exact hx
  case isFalse =>
    have removed : (removeDeparture d.id s.departures).length < s.departures.length :=
      List.length_filter_lt_length_iff_exists.mpr ⟨d, mem, by simp⟩
    refine (h.filter _).insert (Nat.lt_of_lt_of_le removed h.1) ?_ (Departure.amend_inRange inRange (h.2.2.2 d mem) false)
    simp [Departure.amend]

theorem orderly_lateCheck (p : Departure → Bool) {s : State} (h : Orderly s.departures) :
    Orderly (lateCheck p s).1.departures := by
  refine h.map (fun d _ => ?_) fun d _ hd => ?_
  · split <;> exact ⟨rfl, rfl⟩
  · split <;> exact hd

theorem departures_of_outside {s t : State} {k : Writer} (other : k ≠ .list) (h : t.outside k = s.outside k) :
    t.departures = s.departures := by
  refine eq_of_outside State.departures (fun _ => ?_) h
  cases k
  case list => exact absurd rfl other
  all_goals rfl

theorem listOrdered_of_departures {s t : State} (h : t.departures = s.departures) (hs : s.ListOrdered) :
    t.ListOrdered := by
  rw [State.listOrdered_iff, h]; exact hs

theorem handle_listOrdered (n : Notice) (s : State) (h : s.ListOrdered) : (handle n s).1.ListOrdered := by
  by_cases list : n.writer = .list
  · cases n with
    | departed b cleared => exact Orderly.filter h _
    | lateCheck id => cases id <;> exact orderly_lateCheck _ h
    | _ => exact absurd list nofun
  · exact listOrdered_of_departures (departures_of_outside list (handle_outside n s)) h

theorem listOrdered_notices : KeptByNotices (fun _ s => s.ListOrdered) :=
  .of_state handle_listOrdered fun _ _ h => h

theorem Acts.departures {s : State} {k : Writer} {r : Reaction} (h : Acts s k r) : r.1.departures = s.departures :=
  departures_of_outside (by cases h <;> exact nofun) h.outside

theorem begins_listOrdered {part : Held} {s : State} {r : Reaction} (begun : Begins s part r)
    (h : s.ListOrdered) : r.1.ListOrdered := by
  cases begun with
  | acts acted => exact listOrdered_of_departures acted.departures h
  | add id b w f x inRange named new room =>
    exact Orderly.insert h room (departureOf_none_iff.mp new) (DepartureFields.record_inRange inRange named b x)
  | amend d w f inRange listed => exact orderly_replaceDeparture h inRange listed
  | cancel d => exact Orderly.filter h _
  | waive d w =>
    refine Orderly.map h (fun x _ => ?_) fun x _ hx => ?_
    · split <;> exact ⟨rfl, rfl⟩
    · split <;> exact hx
  | _ => exact h

/-! ## RESTART, for what its notices keep -/

/-- What each bay's turn keeps, all turns keep. -/
theorem forBays_induct {P : State → Prop} {f : BayNo → State → State} (h : ∀ b s, P s → P (f b s)) {s : State}
    (hs : P s) : P (forBays f s) := by
  suffices ∀ bs : List BayNo, P (bs.foldl (fun t b => f b t) s) from this allBays
  intro bs
  induction bs generalizing s with
  | nil => exact hs
  | cons b bs ih => exact ih (h b s hs)

theorem departures_of_quiet {s t : State} (h : t.quiet = s.quiet) : t.departures = s.departures :=
  congrArg Quiet.departures h

theorem departures_of_fixed {s t : State} (h : t.fixed = s.fixed) : t.departures = s.departures :=
  congrArg Fixed.departures h

theorem restartBlocks_listOrdered {s : State} (h : s.ListOrdered) : (restartBlocks s).ListOrdered := by
  have clearing (b : BayNo) (t : State) (ht : t.ListOrdered) : (restartClearing b t).ListOrdered := by
    unfold restartClearing
    split
    · exact listOrdered_notices.perform
        (listOrdered_of_departures (departures_of_quiet (laneReleaseOf_quiet b _)) ht)
    · exact ht
  have before : (restartOrder (forBays restartField (restartHall (forBays restartSession (forBays restartLink s))))).departures
      = s.departures := by
    rw [departures_of_quiet (restartOrder_quiet _),
      forBays_keeps State.departures (fun b t => departures_of_quiet (restartField_quiet b t)),
      departures_of_fixed (restartHall_fixed _),
      forBays_keeps State.departures (fun b t => departures_of_fixed (restartSession_fixed b t)),
      forBays_keeps State.departures (fun b t => departures_of_fixed (restartLink_fixed b t))]
  unfold restartBlocks
  refine listOrdered_of_departures
    (forBays_keeps State.departures (fun b t => departures_of_quiet (restartClearance_quiet b t)) _) ?_
  exact forBays_induct clearing (listOrdered_of_departures before h)

theorem restartAllFlags_departures (s : State) : (restartAllFlags s).departures = s.departures := by
  have flags (b : BayNo) (t : State) : (restartFlags b t).departures = t.departures := by
    unfold restartFlags; dsimp only; split <;> split <;> rfl
  unfold restartAllFlags
  rw [forBays_keeps State.departures flags]
  split <;> rfl

theorem restarted_listOrdered (s : State) (h : s.ListOrdered) : (restarted s).ListOrdered := by
  have holds (b : BayNo) (t : State) (ht : t.ListOrdered) : (restartHolds b t).ListOrdered := by
    unfold restartHolds
    refine listOrdered_notices.perform (listOrdered_of_departures (departures_of_fixed (rederive_fixed b _)) ?_)
    exact ht
  have docked : (forBays restartDocking (restartBlocks s)).departures = (restartBlocks s).departures :=
    forBays_keeps State.departures (fun b t => departures_of_fixed (restartDocking_fixed b t)) _
  have reattend (t : State) (ht : t.ListOrdered) : t.reattend.ListOrdered := ht
  unfold restarted
  refine reattend _ (forBays_induct holds (listOrdered_of_departures ?_ (restartBlocks_listOrdered h)))
  rw [restartAllFlags_departures, docked]

theorem tickBay_departures (b : BayNo) (s : State) : (tickBay b s).departures = s.departures := rfl

theorem tickTimers_departures (s : State) : (tickTimers s).departures = s.departures := by
  unfold tickTimers
  rw [State.modLane_departures, State.modLane_departures]
  exact forBays_keeps State.departures tickBay_departures s

theorem poweredOn_departures (s : State) : (poweredOn s).departures = [] :=
  forBays_keeps State.departures (fun _ _ => rfl) _

theorem poweredOn_listOrdered (s : State) : (poweredOn s).ListOrdered := by
  rw [State.listOrdered_iff, poweredOn_departures]
  exact ⟨Nat.zero_le _, List.nodup_nil, List.Pairwise.nil, nofun⟩

theorem listOrdered_kept : KeptBySteps (fun _ s => s.ListOrdered) where
  toKeptByNotices := listOrdered_notices
  begins := begins_listOrdered
  carriedOn _ h := h
  timers s := listOrdered_of_departures (tickTimers_departures s)
  senses _ _ _ _ h := h
  inputs _ _ h := h
  queue _ _ h := h
  reply _ _ _ h := h
  receiver _ _ _ h := h
  freed _ _ h := h
  raisesHall _ _ _ h := h
  fetched _ h := h
  masked _ _ h := h
  restarted := restarted_listOrdered
  poweredOn := poweredOn_listOrdered

/-- Settles O9: every move leaves the list but a request on it, a late check and a departed event, and each of these keeps
its order. -/
theorem stepKeepsDepartureListOrdered : Obligations.StepKeepsDepartureListOrdered := by
  unfold Obligations.StepKeepsDepartureListOrdered
  exact fun _ _ hs h => listOrdered_kept.step hs h

end Sys2Proof.Machine
end

section
/-! The clearance standing of a bay, read from the CLR, the lanes and the wait order: what each function of the CLR does to
the bay it acts on, while every other bay's standing stays (R162 to R175). -/

namespace Sys2Proof.Machine

/-- Whether a lane is GRANTED to a bay. -/
def LaneRecord.grantedTo (r : LaneRecord) (b : BayNo) : Bool := r.state == .granted && r.holder == some b

theorem LaneRecord.grantedTo_iff {r : LaneRecord} {b : BayNo} :
    r.grantedTo b = true ↔ r.state = .granted ∧ r.holder = some b := by
  simp [LaneRecord.grantedTo]

/-- A bay's clearance state, whether it is held, whether a revocation is under way, whether a lane is GRANTED to it and
whether it stands in the wait order. -/
structure Standing where
  state : ClearState
  held : Bool
  revoking : Bool
  lane : Bool
  waits : Bool

def State.standing (s : State) (b : BayNo) : Standing :=
  { state := (s.clrAt b).state
    held := (s.clrAt b).holds.held
    revoking := (s.clrAt b).revoking
    lane := s.laneA.grantedTo b || s.laneB.grantedTo b
    waits := s.waitOrder.contains b }

/-- What a bay's standing agrees with (R163, R166, R170, R171, R173). -/
structure Standing.Fits (x : Standing) : Prop where
  lane : x.lane = true ↔ x.state = .clearing ∨ x.state = .cleared
  waits : x.waits = true ↔ x.state = .queued ∨ (x.state = .recalled ∧ x.held = false)
  clear : x.state ∈ [ClearState.ready, .scanning, .queued, .clearing, .cleared] → x.held = false
  preparing : x.state = .preparing → x.revoking = false → x.held = true
  revoking : x.revoking = true → x.state = .preparing

/-- The lane records and the wait order are well formed: a lane has a holder exactly while it is GRANTED or in
PASSAGE_WAIT and a timer exactly in the latter, a close is pending only on a held lane, no bay holds both lanes, and the
wait order holds no bay twice. -/
structure State.LanesWell (s : State) : Prop where
  record : ∀ l, ((s.laneAt l).holder ≠ none ↔ (s.laneAt l).state = .granted ∨ (s.laneAt l).state = .passageWait) ∧
    ((s.laneAt l).timer ≠ none ↔ (s.laneAt l).state = .passageWait) ∧
    ((s.laneAt l).closePending = true → (s.laneAt l).holder ≠ none)
  oneLane : ∀ b, ¬ (s.laneA.holder = some b ∧ s.laneB.holder = some b)
  once : s.waitOrder.Nodup

theorem standing_ext {s t : State} (clr : ∀ c, (t.clrAt c).state = (s.clrAt c).state ∧
    (t.clrAt c).holds = (s.clrAt c).holds ∧ (t.clrAt c).revoking = (s.clrAt c).revoking)
    (laneA : t.laneA = s.laneA) (laneB : t.laneB = s.laneB) (order : t.waitOrder = s.waitOrder) :
    t.standing = s.standing := by
  funext c
  obtain ⟨state, holds, revoking⟩ := clr c
  simp only [State.standing, state, holds, revoking, laneA, laneB, order]

theorem lanesWell_of_eq {s t : State} (laneA : t.laneA = s.laneA) (laneB : t.laneB = s.laneB)
    (order : t.waitOrder = s.waitOrder) (h : s.LanesWell) : t.LanesWell := by
  obtain ⟨record, oneLane, once⟩ := h
  refine ⟨fun l => ?_, by rwa [laneA, laneB], by rwa [order]⟩
  have same : t.laneAt l = s.laneAt l := by cases l <;> assumption
  rw [same]; exact record l

theorem standing_of_outside {s t : State} {k : Writer} (other : k ≠ .clearance) (h : t.outside k = s.outside k) :
    t.standing = s.standing := by
  refine standing_ext (fun c => ?_) ?_ ?_ ?_
  · have clr : t.clr = s.clr := eq_of_outside State.clr (fun _ => by cases k <;> first | rfl | exact absurd rfl other) h
    simp [State.clrAt, clr]
  · exact eq_of_outside State.laneA (fun _ => by cases k <;> first | rfl | exact absurd rfl other) h
  · exact eq_of_outside State.laneB (fun _ => by cases k <;> first | rfl | exact absurd rfl other) h
  · exact eq_of_outside State.waitOrder (fun _ => by cases k <;> first | rfl | exact absurd rfl other) h

/-! ### One bay's standing replaced -/

/-- The standings with bay `b`'s replaced. -/
def putStanding (g : BayNo → Standing) (b : BayNo) (x : Standing) : BayNo → Standing := fun c => if c = b then x else g c

@[simp] theorem putStanding_same (g : BayNo → Standing) (b : BayNo) (x : Standing) : putStanding g b x b = x := if_pos rfl

@[simp] theorem putStanding_ne {b c : BayNo} (other : c ≠ b) {g : BayNo → Standing} {x : Standing} : putStanding g b x c = g c :=
  if_neg other

@[simp] theorem putStanding_eq_self (b : BayNo) (g : BayNo → Standing) : putStanding g b (g b) = g := by
  funext c
  unfold putStanding
  split
  · next same => rw [same]
  · rfl

theorem putStanding_eq_self_iff {g : BayNo → Standing} {b : BayNo} {x : Standing} : putStanding g b x = g ↔ x = g b :=
  ⟨fun same => (putStanding_same g b x).symm.trans (congrFun same b), fun same => same ▸ putStanding_eq_self b g⟩

@[simp] theorem putStanding_putStanding {g : BayNo → Standing} {b : BayNo} {x y : Standing} :
    putStanding (putStanding g b x) b y = putStanding g b y := by
  funext c
  unfold putStanding
  split <;> rfl

/-! ### Base operations -/

section
variable (s : State) (b : BayNo)

theorem standing_modClr {f : Clr → Clr} {g : Standing → Standing}
    (h : ({ s.standing b with
      state := (f (s.clrAt b)).state, held := (f (s.clrAt b)).holds.held, revoking := (f (s.clrAt b)).revoking } : Standing)
      = g (s.standing b)) :
    (s.modClr b f).standing = putStanding s.standing b (g (s.standing b)) := by
  funext c
  by_cases same : c = b
  · subst same; rw [putStanding_same, ← h]; simp [State.standing]
  · rw [putStanding_ne same]; simp [State.standing, same]

@[simp] theorem standing_setClear (st : ClearState) : (s.setClear b st).standing =
    putStanding s.standing b { s.standing b with state := st, revoking := false } := by
  funext c
  by_cases same : c = b
  · subst same; simp [State.standing, State.setClear]
  · simp [State.standing, State.setClear, same]

@[simp] theorem standing_leaveOrder : (leaveOrder b s).standing =
    putStanding s.standing b { s.standing b with waits := false } := by
  funext c
  by_cases same : c = b
  · subst same; simp [State.standing, leaveOrder, State.clrAt]
  · simp [State.standing, leaveOrder, State.clrAt, same]

theorem mem_waitPlace {q : List BayNo} {c : BayNo} : c ∈ s.waitPlace b q ↔ c = b ∨ c ∈ q := by
  induction q with
  | nil => simp [State.waitPlace]
  | cons x xs ih =>
    unfold State.waitPlace
    split
    · simp
    · rw [List.mem_cons, ih, List.mem_cons]
      exact or_left_comm

theorem waitPlace_nodup {q : List BayNo} (new : b ∉ q) (once : q.Nodup) : (s.waitPlace b q).Nodup := by
  induction q with
  | nil => simp [State.waitPlace]
  | cons x xs ih =>
    have notHead : b ≠ x := fun e => new (e ▸ List.mem_cons_self)
    have notTail : b ∉ xs := fun mem => new (List.mem_cons_of_mem _ mem)
    obtain ⟨head, tail⟩ := List.nodup_cons.mp once
    unfold State.waitPlace
    split
    · exact List.nodup_cons.mpr ⟨new, once⟩
    · refine List.nodup_cons.mpr ⟨fun mem => ?_, ih notTail tail⟩
      rcases (mem_waitPlace s b).mp mem with rfl | mem
      · exact notHead rfl
      · exact head mem

@[simp] theorem standing_joinOrder : (joinOrder b s).standing =
    putStanding s.standing b { s.standing b with waits := true } := by
  funext c
  by_cases same : c = b
  · subst same; simp [State.standing, joinOrder, leaveOrder, mem_waitPlace, State.clrAt]
  · simp [State.standing, joinOrder, leaveOrder, mem_waitPlace, State.clrAt, same]

end

/-! ### Lanes -/

/-- The lane a bay holds as GRANTED. -/
theorem grantedLane_some {s : State} {b : BayNo} {l : Lane} (h : s.grantedLane b = some l) :
    (s.laneAt l).state = .granted ∧ (s.laneAt l).holder = some b := by
  unfold State.grantedLane at h
  split at h
  · cases h; assumption
  · split at h
    · cases h; assumption
    · cases h

theorem grantedLane_none {s : State} {b : BayNo} (h : s.grantedLane b = none) :
    (s.standing b).lane = false := by
  unfold State.grantedLane at h
  split at h
  · cases h
  case isFalse notA =>
    split at h
    · cases h
    case isFalse notB =>
      simp only [State.standing, Bool.or_eq_false_iff]
      exact ⟨Bool.eq_false_iff.mpr fun g => notA (LaneRecord.grantedTo_iff.mp g),
        Bool.eq_false_iff.mpr fun g => notB (LaneRecord.grantedTo_iff.mp g)⟩

theorem standing_lane_iff {s : State} {b : BayNo} :
    (s.standing b).lane = true ↔ ∃ l, (s.laneAt l).state = .granted ∧ (s.laneAt l).holder = some b := by
  simp only [State.standing, Bool.or_eq_true, LaneRecord.grantedTo_iff]
  constructor
  · rintro (h | h)
    · exact ⟨.a, h⟩
    · exact ⟨.b, h⟩
  · rintro ⟨l, h⟩
    cases l
    · exact .inl h
    · exact .inr h

@[simp] theorem modLane_clrAt (s : State) (l : Lane) (f : LaneRecord → LaneRecord) (b : BayNo) :
    (s.modLane l f).clrAt b = s.clrAt b := by cases l <;> rfl

@[simp] theorem modLane_waitOrder (s : State) (l : Lane) (f : LaneRecord → LaneRecord) :
    (s.modLane l f).waitOrder = s.waitOrder := by cases l <;> rfl

/-- Whether the other lane is GRANTED to a bay. -/
def State.otherGranted (s : State) (l : Lane) (b : BayNo) : Bool :=
  match l with
  | .a => s.laneB.grantedTo b
  | .b => s.laneA.grantedTo b

theorem standing_lane (s : State) (l : Lane) (b : BayNo) :
    (s.standing b).lane = ((s.laneAt l).grantedTo b || s.otherGranted l b) := by
  cases l
  · rfl
  · exact Bool.or_comm ..

theorem modLane_standing (s : State) (l : Lane) (f : LaneRecord → LaneRecord) (b : BayNo) :
    (s.modLane l f).standing b =
      { s.standing b with lane := (f (s.laneAt l)).grantedTo b || s.otherGranted l b } := by
  cases l
  · rfl
  · show (⟨_, _, _, _, _⟩ : Standing) = ⟨_, _, _, _, _⟩
    congr 1
    exact Bool.or_comm ..

/-- A lane that stays as far from GRANTED as it was changes no standing. -/
theorem modLane_standing_same {s : State} {l : Lane} {f : LaneRecord → LaneRecord}
    (h : ∀ b, (f (s.laneAt l)).grantedTo b = (s.laneAt l).grantedTo b) : (s.modLane l f).standing = s.standing := by
  funext b
  rw [modLane_standing, h, ← standing_lane]

theorem LaneRecord.not_grantedTo {r : LaneRecord} (h : r.state ≠ .granted) (b : BayNo) : r.grantedTo b = false := by
  simp [LaneRecord.grantedTo, h]

theorem State.LanesWell.other_of_granted {s : State} (h : s.LanesWell) {l : Lane} {b : BayNo}
    (granted : (s.laneAt l).holder = some b) : s.otherGranted l b = false := by
  refine Bool.eq_false_iff.mpr fun other => ?_
  cases l
  · exact h.oneLane b ⟨granted, (LaneRecord.grantedTo_iff.mp other).2⟩
  · exact h.oneLane b ⟨(LaneRecord.grantedTo_iff.mp other).2, granted⟩

/-- A lane GRANTED to a bay that is GRANTED no more. -/
theorem modLane_standing_released {s : State} (h : s.LanesWell) {l : Lane} {b : BayNo} {f : LaneRecord → LaneRecord}
    (held : (s.laneAt l).holder = some b) (released : (f (s.laneAt l)).state ≠ .granted) :
    (s.modLane l f).standing = putStanding s.standing b { s.standing b with lane := false } := by
  funext c
  rw [modLane_standing, LaneRecord.not_grantedTo released, Bool.false_or]
  by_cases same : c = b
  · subst same; rw [putStanding_same, h.other_of_granted held]
  · rw [putStanding_ne same]
    have notHeld : (s.laneAt l).grantedTo c = false := by
      simp [LaneRecord.grantedTo, held, Ne.symm same]
    have := standing_lane s l c
    rw [notHeld, Bool.false_or] at this
    rw [← this]

/-- A FREE lane granted. -/
theorem modLane_standing_granted {s : State} {l : Lane} {b : BayNo} (free : (s.laneAt l).state = .free) :
    (s.modLane l (fun r => { r with state := .granted, holder := some b })).standing =
      putStanding s.standing b { s.standing b with lane := true } := by
  funext c
  rw [modLane_standing]
  by_cases same : c = b
  · subst same; rw [putStanding_same]; simp [LaneRecord.grantedTo]
  · rw [putStanding_ne same]
    have := standing_lane s l c
    rw [LaneRecord.not_grantedTo (by rw [free]; decide), Bool.false_or] at this
    simp only [LaneRecord.grantedTo, beq_self_eq_true, Bool.true_and, ← this]
    simp [beq_eq_false_iff_ne.mpr (Ne.symm same)]

/-! ### Well-formedness of lanes and wait order -/

section
variable {s : State}

theorem State.LanesWell.modClr (h : s.LanesWell) (b : BayNo) (f : Clr → Clr) : (s.modClr b f).LanesWell :=
  lanesWell_of_eq (s := s) rfl rfl rfl h

theorem State.LanesWell.setClear (h : s.LanesWell) (b : BayNo) (st : ClearState) : (s.setClear b st).LanesWell :=
  lanesWell_of_eq (s := s) rfl rfl rfl h

theorem State.LanesWell.leaveOrder (h : s.LanesWell) (b : BayNo) : (leaveOrder b s).LanesWell := by
  obtain ⟨record, oneLane, once⟩ := h
  refine ⟨fun l => ?_, oneLane, once.filter _⟩
  cases l
  · exact record .a
  · exact record .b

theorem State.LanesWell.joinOrder (h : s.LanesWell) (b : BayNo) : (joinOrder b s).LanesWell := by
  obtain ⟨record, oneLane, once⟩ := h
  refine ⟨fun l => ?_, oneLane, waitPlace_nodup _ b (by simp [Machine.leaveOrder]) (once.filter _)⟩
  cases l
  · exact record .a
  · exact record .b

/-- A record of a lane is as R173 has it. -/
def LaneRecord.Well (r : LaneRecord) : Prop :=
  (r.holder ≠ none ↔ r.state = .granted ∨ r.state = .passageWait) ∧ (r.timer ≠ none ↔ r.state = .passageWait) ∧
    (r.closePending = true → r.holder ≠ none)

/-- A lane whose new record is well formed and whose holder is the former one, nobody, or a bay without a lane. -/
theorem State.LanesWell.modLane (h : s.LanesWell) (l : Lane) {f : LaneRecord → LaneRecord} (well : (f (s.laneAt l)).Well)
    (holder : ∀ b, (f (s.laneAt l)).holder = some b → (s.laneAt l).holder = some b ∨ s.holdsLane b = false) :
    (s.modLane l f).LanesWell := by
  obtain ⟨record, oneLane, once⟩ := h
  refine ⟨fun m => ?_, fun b => ?_, by rwa [modLane_waitOrder]⟩
  · cases l <;> cases m
    · exact well
    · exact record .b
    · exact record .a
    · exact well
  · rintro ⟨a, b'⟩
    cases l
    · rcases holder b a with same | none
      · exact oneLane b ⟨same, b'⟩
      · simp only [State.holdsLane, Bool.or_eq_false_iff, beq_eq_false_iff_ne] at none
        exact none.2 b'
    · rcases holder b b' with same | none
      · exact oneLane b ⟨a, same⟩
      · simp only [State.holdsLane, Bool.or_eq_false_iff, beq_eq_false_iff_ne] at none
        exact none.1 a

theorem LaneRecord.well_free (st : LaneState) (h : st = .free ∨ st = .closed) : (⟨st, none, false, none⟩ : LaneRecord).Well := by
  rcases h with rfl | rfl <;> simp [LaneRecord.Well]

theorem State.LanesWell.release (h : s.LanesWell) (l : Lane) {st : LaneState} (free : st = .free ∨ st = .closed) :
    (s.modLane l (fun _ => ⟨st, none, false, none⟩)).LanesWell :=
  h.modLane l (LaneRecord.well_free st free) nofun

theorem State.LanesWell.laneRelease (h : s.LanesWell) (l : Lane) (timeout : Bool) : (laneRelease l timeout s).1.LanesWell :=
  h.release l (by split <;> simp)

theorem State.LanesWell.laneReleaseOf (h : s.LanesWell) (b : BayNo) : (laneReleaseOf b s).1.LanesWell := by
  unfold Machine.laneReleaseOf
  split
  · exact h.laneRelease _ _
  · exact h

theorem State.LanesWell.lanePassageWait (h : s.LanesWell) (b : BayNo) : (lanePassageWait b s).1.LanesWell := by
  unfold Machine.lanePassageWait
  split
  case h_1 l granted =>
    obtain ⟨-, held⟩ := grantedLane_some granted
    refine h.modLane l (f := fun r => { r with state := .passageWait, timer := secTimer (s.setting 15) })
      ⟨?_, ?_, ?_⟩ fun c hc => .inl hc
    · simp [held]
    · simp [secTimer]
    · simp [held]
  · exact h

theorem State.LanesWell.grant (h : s.LanesWell) {l : Lane} {b : BayNo} (free : (s.laneAt l).state = .free)
    (none : s.holdsLane b = false) :
    (s.modLane l (fun r => { r with state := .granted, holder := some b })).LanesWell := by
  obtain ⟨holder, timer, pending⟩ := h.record l
  refine h.modLane l ⟨by simp, ?_, by simp⟩ fun c hc => ?_
  · simpa [free] using timer
  · cases hc; exact .inr none

end

/-! ### What each function of the CLR does to the bay it acts on -/

theorem laneReleaseOf_standing {s : State} (h : s.LanesWell) (b : BayNo) :
    (laneReleaseOf b s).1.standing = putStanding s.standing b { s.standing b with lane := false } := by
  unfold laneReleaseOf
  split
  case h_1 l granted =>
    refine modLane_standing_released h (grantedLane_some granted).2 ?_
    dsimp only
    split <;> decide
  case h_2 none =>
    refine (putStanding_eq_self_iff.mpr ?_).symm
    show ({ s.standing b with lane := false } : Standing) = s.standing b
    rw [← grantedLane_none none]

theorem lanePassageWait_standing {s : State} (h : s.LanesWell) (b : BayNo) :
    (lanePassageWait b s).1.standing = putStanding s.standing b { s.standing b with lane := false } := by
  unfold lanePassageWait
  split
  case h_1 l granted => exact modLane_standing_released h (grantedLane_some granted).2 nofun
  case h_2 none =>
    refine (putStanding_eq_self_iff.mpr ?_).symm
    show ({ s.standing b with lane := false } : Standing) = s.standing b
    rw [← grantedLane_none none]

/-- The standing of a bay that is granted a lane. -/
def Standing.granted (x : Standing) : Standing :=
  { x with state := if x.state = .recalled then .cleared else .clearing, revoking := false, lane := true, waits := false }

theorem grantLane_standing {s : State} {l : Lane} {b : BayNo} (free : (s.laneAt l).state = .free) :
    (grantLane l b s).1.standing = putStanding s.standing b (s.standing b).granted := by
  unfold grantLane
  dsimp only
  split
  case isTrue recalled =>
    show State.standing (State.setClear _ _ _) = _
    have recalled' : (s.standing b).state = .recalled := recalled
    simp [modLane_standing_granted free, Standing.granted, recalled']
  case isFalse other =>
    show State.standing (State.setClear _ _ _) = _
    have other' : (s.standing b).state ≠ .recalled := other
    simp [modLane_standing_granted free, Standing.granted, other']

theorem State.LanesWell.grantLane {s : State} (h : s.LanesWell) {l : Lane} {b : BayNo} (free : (s.laneAt l).state = .free)
    (none : s.holdsLane b = false) : (grantLane l b s).1.LanesWell := by
  have granted := State.LanesWell.leaveOrder (h.grant free none) b
  unfold Machine.grantLane
  dsimp only
  split
  · exact State.LanesWell.setClear granted b _
  · exact State.LanesWell.setClear granted b _

/-- The standing of a bay that moves between states. -/
def Standing.moved (x : Standing) (st : ClearState) : Standing :=
  { x with state := st, revoking := false,
           waits := if st = .queued then true else if x.state = .queued then false else x.waits }

theorem moveTo_standing (s : State) (b : BayNo) (st : ClearState) :
    (moveTo b st s).1.standing = putStanding s.standing b ((s.standing b).moved st) := by
  have old : (s.clrAt b).state = (s.standing b).state := rfl
  unfold moveTo
  dsimp only
  show State.standing (State.setClear _ _ _) = _
  split
  case isTrue queued => split <;> simp_all [Standing.moved]
  case isFalse other => split <;> simp_all [Standing.moved]

theorem State.LanesWell.moveTo {s : State} (h : s.LanesWell) (b : BayNo) (st : ClearState) : (moveTo b st s).1.LanesWell := by
  unfold Machine.moveTo
  dsimp only
  refine State.LanesWell.setClear ?_ b st
  split
  · split
    · exact State.LanesWell.joinOrder (h.leaveOrder b) b
    · exact h.joinOrder b
  · split
    · exact h.leaveOrder b
    · exact h

/-! ### Agreement -/

/-- Lanes, wait order, clearance states and hold sets agree at every bay of a set (all bays, but within a RESTART); a bay
outside it does not wait. -/
structure State.LanesFit (s : State) (X : BayNo → Prop) : Prop extends State.LanesWell s where
  fits : ∀ b, X b → (s.standing b).Fits
  others : ∀ b, ¬ X b → (s.standing b).waits = false

theorem State.LanesFit.of_update {s t : State} {X : BayNo → Prop} (h : s.LanesFit X) {b : BayNo} (hb : X b) {x : Standing}
    (standing : t.standing = putStanding s.standing b x) (well : t.LanesWell) (fits : x.Fits) : t.LanesFit X := by
  refine ⟨well, fun c hc => ?_, fun c hc => ?_⟩
  · rw [standing]
    by_cases same : c = b
    · subst same; rwa [putStanding_same]
    · rw [putStanding_ne same]; exact h.fits c hc
  · rw [standing, putStanding_ne (fun same : c = b => hc (same ▸ hb))]
    exact h.others c hc

theorem State.LanesFit.of_same {s t : State} {X : BayNo → Prop} (h : s.LanesFit X) (standing : t.standing = s.standing)
    (well : t.LanesWell) : t.LanesFit X :=
  ⟨well, fun c hc => standing ▸ h.fits c hc, fun c hc => standing ▸ h.others c hc⟩

theorem State.LanesFit.of_outside {s t : State} {X : BayNo → Prop} (h : s.LanesFit X) {k : Writer}
    (other : k ≠ .clearance) (out : t.outside k = s.outside k) : t.LanesFit X := by
  refine h.of_same (standing_of_outside other out) (lanesWell_of_eq ?_ ?_ ?_ h.toLanesWell)
  · exact eq_of_outside State.laneA (fun _ => by cases k <;> first | rfl | exact absurd rfl other) out
  · exact eq_of_outside State.laneB (fun _ => by cases k <;> first | rfl | exact absurd rfl other) out
  · exact eq_of_outside State.waitOrder (fun _ => by cases k <;> first | rfl | exact absurd rfl other) out

end Sys2Proof.Machine
end

section
/-! Every notice and every own action of the CLR keeps lanes, wait order, clearance states and hold marks in agreement
(R162 to R175). -/

namespace Sys2Proof.Machine

/-! ### Standings that fit -/

/-- A bay that settles, arrives or docks has no lane, and waits only while QUEUED. -/
theorem Standing.Fits.inside {x : Standing} (h : x.Fits) (clearing : x.state ≠ .clearing) (cleared : x.state ≠ .cleared)
    (recalled : x.state ≠ .recalled) : x.lane = false ∧ (x.waits = true → x.state = .queued) := by
  refine ⟨Bool.eq_false_iff.mpr fun lane => ?_, fun waits => ?_⟩
  · rcases h.lane.mp lane with e | e
    · exact clearing e
    · exact cleared e
  · rcases h.waits.mp waits with e | ⟨e, -⟩
    · exact e
    · exact absurd e recalled

/-- A move to a state before CLEARING fits where the hold mark suits it. -/
theorem Standing.fits_moved {x : Standing} {st : ClearState} (lane : x.lane = false)
    (waits : x.waits = true → x.state = .queued)
    (before : st ≠ .clearing ∧ st ≠ .cleared ∧ st ≠ .recalled)
    (free : st = .ready ∨ st = .scanning ∨ st = .queued → x.held = false) (held : st = .preparing → x.held = true) :
    (x.moved st).Fits := by
  obtain ⟨clearing, cleared, recalled⟩ := before
  have waits' : x.state ≠ .queued → x.waits = false := fun other => Bool.eq_false_iff.mpr fun w => other (waits w)
  refine ⟨?_, ?_, ?_, ?_, ?_⟩
  · simp [Standing.moved, lane, clearing, cleared]
  · by_cases queued : st = .queued
    · simp [Standing.moved, queued]
    · by_cases old : x.state = .queued
      · simp [Standing.moved, queued, old, recalled]
      · simp [Standing.moved, queued, old, recalled, waits' old]
  · intro mem
    simp only [Standing.moved, List.mem_cons, List.not_mem_nil, or_false, clearing, cleared] at mem
    exact free mem
  · exact fun preparing _ => held preparing
  · exact nofun

/-- An idle state: the bay is out of service, empty, arrived or docking, holds no lane and does not wait. -/
theorem Standing.fits_idle {st : ClearState} (held : Bool)
    (idle : st = .outOfService ∨ st = .empty ∨ st = .arrived ∨ st = .docking) :
    (⟨st, held, false, false, false⟩ : Standing).Fits := by
  rcases idle with rfl | rfl | rfl | rfl <;> exact ⟨by simp, by simp, by simp, by simp, by simp⟩

/-- The hold mark of a bay before PREPARING, or in a revocation, is free. -/
theorem Standing.Fits.hold {x : Standing} (h : x.Fits) (held : Bool)
    (any : x.state = .outOfService ∨ x.state = .empty ∨ x.state = .arrived ∨ x.state = .docking ∨ x.revoking = true) :
    ({ x with held := held } : Standing).Fits := by
  obtain ⟨lane, waits, clear, preparing, revoking⟩ := h
  rcases x with ⟨st, old, rev, l, w⟩
  have settled : st = .outOfService ∨ st = .empty ∨ st = .arrived ∨ st = .docking ∨ (st = .preparing ∧ rev = true) := by
    rcases any with e | e | e | e | e
    · exact .inl e
    · exact .inr (.inl e)
    · exact .inr (.inr (.inl e))
    · exact .inr (.inr (.inr (.inl e)))
    · exact .inr (.inr (.inr (.inr ⟨revoking e, e⟩)))
  rcases settled with rfl | rfl | rfl | rfl | ⟨rfl, rfl⟩ <;>
    exact ⟨by simpa using lane, by simpa using waits, by simp, by simp, revoking⟩

/-- The bay that waits and holds no lane is QUEUED, or RECALLED and not held; granted, it fits. -/
theorem Standing.Fits.granted {x : Standing} (h : x.Fits) (waits : x.waits = true) : x.granted.Fits := by
  obtain ⟨st, held, rev, lane, w⟩ := x
  have revoked : rev = true → st = .preparing := h.revoking
  have clear : st ∈ [ClearState.ready, .scanning, .queued, .clearing, .cleared] → held = false := h.clear
  rcases h.waits.mp waits with e | ⟨e, free⟩
  · obtain rfl : st = .queued := e
    obtain rfl : held = false := clear (by simp)
    exact ⟨by simp [Standing.granted], by simp [Standing.granted], by simp [Standing.granted],
      by simp [Standing.granted], by simp [Standing.granted]⟩
  · obtain rfl : st = .recalled := e
    obtain rfl : held = false := free
    exact ⟨by simp [Standing.granted], by simp [Standing.granted], by simp [Standing.granted],
      by simp [Standing.granted], by simp [Standing.granted]⟩

/-! ### Lanes offered and released -/

theorem mayBeGranted_holdsLane {s : State} {b : BayNo} {l : Lane} (h : s.mayBeGranted b l = true) :
    s.holdsLane b = false := by
  simp only [State.mayBeGranted, Bool.and_eq_true, Bool.not_eq_true'] at h
  exact h.1

theorem standing_waits {s : State} {b : BayNo} (h : b ∈ s.waitOrder) : (s.standing b).waits = true :=
  List.contains_iff_mem.mpr h

namespace State.LanesFit
variable {s : State} {X : BayNo → Prop}

/-- A bay of the wait order is one of those that agree. -/
theorem of_waits (h : s.LanesFit X) {b : BayNo} (waits : b ∈ s.waitOrder) : X b := by
  refine Classical.byContradiction fun other => ?_
  exact absurd ((standing_waits waits).symm.trans (h.others b other)) (by decide)

theorem grantLane (h : s.LanesFit X) {l : Lane} {b : BayNo} (free : (s.laneAt l).state = .free)
    (none : s.holdsLane b = false) (waits : b ∈ s.waitOrder) : (Machine.grantLane l b s).1.LanesFit X :=
  have hb := h.of_waits waits
  h.of_update hb (grantLane_standing free) (h.toLanesWell.grantLane free none) ((h.fits b hb).granted (standing_waits waits))

theorem laneOffer (h : s.LanesFit X) (l : Lane) : (Machine.laneOffer l s).1.LanesFit X := by
  unfold Machine.laneOffer
  split
  case isTrue free =>
    split
    case h_1 b found =>
      exact h.grantLane free (mayBeGranted_holdsLane (List.find?_some (p := fun b => s.mayBeGranted b l) found)) (List.mem_of_find?_eq_some found)
    · exact h
  · exact h

theorem clrOfferTo (h : s.LanesFit X) (b : BayNo) : (Machine.clrOfferTo b s).1.LanesFit X := by
  unfold Machine.clrOfferTo
  split
  case isTrue waits =>
    have waits := List.contains_iff_mem.mp waits
    split
    case isTrue offered => exact h.grantLane (l := .a) offered.1 (mayBeGranted_holdsLane offered.2) waits
    · split
      case isTrue offered => exact h.grantLane (l := .b) offered.1 (mayBeGranted_holdsLane offered.2) waits
      · exact h
  · exact h

/-- The release of a lane in PASSAGE_WAIT. -/
theorem laneRelease (h : s.LanesFit X) {l : Lane} (timeout : Bool) (waits : (s.laneAt l).state = .passageWait) :
    (Machine.laneRelease l timeout s).1.LanesFit X := by
  refine h.of_same (modLane_standing_same fun b => ?_) (h.toLanesWell.laneRelease l timeout)
  have notGranted : (s.laneAt l).state ≠ .granted := by rw [waits]; decide
  rw [LaneRecord.not_grantedTo notGranted]
  exact LaneRecord.not_grantedTo (by dsimp only; split <;> decide) b

/-! ### Moves -/

/-- A bay that has no lane moves, its hold mark set, to a state before CLEARING that suits the mark. -/
theorem moveTo (h : s.LanesFit X) {b : BayNo} (hb : X b) {t : State} {held : Bool} {st : ClearState} (well : t.LanesWell)
    (standing : t.standing = putStanding s.standing b { s.standing b with held := held })
    (inside : (s.clrAt b).state ≠ .clearing ∧ (s.clrAt b).state ≠ .cleared ∧ (s.clrAt b).state ≠ .recalled)
    (before : st ≠ .clearing ∧ st ≠ .cleared ∧ st ≠ .recalled)
    (free : st = .ready ∨ st = .scanning ∨ st = .queued → held = false) (isHeld : st = .preparing → held = true) :
    (Machine.moveTo b st t).1.LanesFit X := by
  obtain ⟨clearing, cleared, recalled⟩ := inside
  obtain ⟨lane, waits⟩ := (h.fits b hb).inside clearing cleared recalled
  refine h.of_update hb (x := Standing.moved { s.standing b with held := held } st) ?_ (well.moveTo b st)
    (Standing.fits_moved lane waits before free isHeld)
  rw [moveTo_standing, standing, putStanding_same, putStanding_putStanding]

/-- A move that leaves the hold mark. -/
theorem moveTo_same (h : s.LanesFit X) {b : BayNo} (hb : X b) {st : ClearState}
    (inside : (s.clrAt b).state ≠ .clearing ∧ (s.clrAt b).state ≠ .cleared ∧ (s.clrAt b).state ≠ .recalled)
    (before : st ≠ .clearing ∧ st ≠ .cleared ∧ st ≠ .recalled)
    (free : st = .ready ∨ st = .scanning ∨ st = .queued → (s.clrAt b).holds.held = false)
    (isHeld : st = .preparing → (s.clrAt b).holds.held = true) : (Machine.moveTo b st s).1.LanesFit X :=
  h.moveTo hb h.toLanesWell (held := (s.clrAt b).holds.held) (putStanding_eq_self b s.standing).symm inside before free
    isHeld

end State.LanesFit

theorem settled_before (s : State) (b : BayNo) :
    s.settled b ≠ .clearing ∧ s.settled b ≠ .cleared ∧ s.settled b ≠ .recalled := by
  unfold State.settled
  dsimp only
  split
  · decide
  · split
    · decide
    · split <;> decide

theorem settled_free {s : State} {b : BayNo} (h : s.settled b = .ready ∨ s.settled b = .scanning ∨ s.settled b = .queued) :
    (s.clrAt b).holds.held = false := by
  unfold State.settled at h
  dsimp only at h
  split at h
  · simp at h
  case isFalse free => exact Bool.not_eq_true _ ▸ free

theorem settled_held {s : State} {b : BayNo} (h : s.settled b = .preparing) : (s.clrAt b).holds.held = true := by
  unfold State.settled at h
  dsimp only at h
  split at h
  · assumption
  · split at h
    · cases h
    · split at h <;> cases h

/-- The states that settle, and DOCKING, hold no lane. -/
theorem ClearState.inside_of_settles {st : ClearState} (h : st.settles = true) :
    st ≠ .clearing ∧ st ≠ .cleared ∧ st ≠ .recalled := by cases st <;> simp_all [ClearState.settles]

namespace State.LanesFit
variable {s : State} {X : BayNo → Prop}

theorem settle (h : s.LanesFit X) {b : BayNo} (hb : X b)
    (inside : (s.clrAt b).state ≠ .clearing ∧ (s.clrAt b).state ≠ .cleared ∧ (s.clrAt b).state ≠ .recalled) :
    (Machine.settle b s).1.LanesFit X := by
  unfold Machine.settle
  split
  · exact h
  · exact h.moveTo_same hb inside (settled_before s b) settled_free settled_held

/-- A settling with a hold mark just taken. -/
theorem settle_held (h : s.LanesFit X) {b : BayNo} (hb : X b) {t : State} (well : t.LanesWell)
    (state : (t.clrAt b).state = (s.clrAt b).state) (settles : (s.clrAt b).state.settles = true)
    (notRevoking : (s.clrAt b).revoking = false)
    (standing : t.standing = putStanding s.standing b { s.standing b with held := (t.clrAt b).holds.held }) :
    (Machine.settle b t).1.LanesFit X := by
  have inside := ClearState.inside_of_settles settles
  unfold Machine.settle
  split
  case isTrue settled =>
    obtain ⟨lane, waits⟩ := (h.fits b hb).inside inside.1 inside.2.1 inside.2.2
    have queued : (s.standing b).waits = true ↔ (s.clrAt b).state = .queued :=
      ⟨waits, fun e => (h.fits b hb).waits.mpr (.inl e)⟩
    refine h.of_update hb standing well ⟨?_, ?_, ?_, ?_, ?_⟩
    · have : (s.standing b).state = (s.clrAt b).state := rfl
      simp [lane, this, inside.1, inside.2.1]
    · show (s.standing b).waits = true ↔ (s.clrAt b).state = .queued ∨ (s.clrAt b).state = .recalled ∧ _
      simp [queued, inside.2.2]
    · intro mem
      have mem : (s.clrAt b).state ∈ [ClearState.ready, .scanning, .queued, .clearing, .cleared] := mem
      rw [← state, ← settled] at mem
      refine settled_free ?_
      have before := settled_before t b
      simpa [before.1, before.2.1] using mem
    · intro preparing _
      have preparing : (s.clrAt b).state = .preparing := preparing
      exact settled_held (settled.trans (state.trans preparing))
    · intro revoking
      have revoking : (s.clrAt b).revoking = true := revoking
      rw [notRevoking] at revoking; cases revoking
  · exact h.moveTo hb well standing inside (settled_before t b) settled_free settled_held

/-- A state set outright on a bay that has no lane and does not wait. -/
theorem enterIdle (h : s.LanesFit X) {b : BayNo} (hb : X b) {st : ClearState}
    (old : (s.clrAt b).state = .outOfService ∨ (s.clrAt b).state = .empty ∨ (s.clrAt b).state = .arrived ∨
      (s.clrAt b).state = .docking)
    (new : st = .outOfService ∨ st = .empty ∨ st = .arrived ∨ st = .docking) : (enterClear s b st).1.LanesFit X := by
  have fits := h.fits b hb
  have state : (s.standing b).state = (s.clrAt b).state := rfl
  have notLane : (s.standing b).lane = false := Bool.eq_false_iff.mpr fun lane => by
    rcases fits.lane.mp lane with e | e <;> rw [state] at e <;> rcases old with o | o | o | o <;>
      exact absurd (e.symm.trans o) (by decide)
  have notWaits : (s.standing b).waits = false := Bool.eq_false_iff.mpr fun waits => by
    rcases fits.waits.mp waits with e | ⟨e, -⟩ <;> rw [state] at e <;> rcases old with o | o | o | o <;>
      exact absurd (e.symm.trans o) (by decide)
  refine h.of_update hb (standing_setClear s b st) (h.toLanesWell.setClear b st) ?_
  show (⟨st, (s.standing b).held, false, (s.standing b).lane, (s.standing b).waits⟩ : Standing).Fits
  rw [notLane, notWaits]
  exact Standing.fits_idle _ new

/-- The CLR's other marks, timers and window point do not stand in the agreement. -/
theorem modClr_same (h : s.LanesFit X) (b : BayNo) {f : Clr → Clr}
    (same : (f (s.clrAt b)).state = (s.clrAt b).state ∧ (f (s.clrAt b)).holds = (s.clrAt b).holds ∧
      (f (s.clrAt b)).revoking = (s.clrAt b).revoking) : (s.modClr b f).LanesFit X := by
  refine h.of_same (standing_ext (fun c => ?_) rfl rfl rfl) (h.toLanesWell.modClr b f)
  by_cases e : c = b
  · subst e; simpa using same
  · simp [e]

/-- A lane whose record stays well formed, with its holder, and as far from GRANTED as it was. -/
theorem modLane_same (h : s.LanesFit X) (l : Lane) {f : LaneRecord → LaneRecord} (well : (f (s.laneAt l)).Well)
    (holder : (f (s.laneAt l)).holder = (s.laneAt l).holder)
    (granted : (f (s.laneAt l)).state = .granted ↔ (s.laneAt l).state = .granted) : (s.modLane l f).LanesFit X := by
  refine h.of_same (modLane_standing_same fun b => ?_) (h.toLanesWell.modLane l well fun b hb => .inl (holder ▸ hb))
  rw [Bool.eq_iff_iff, LaneRecord.grantedTo_iff, LaneRecord.grantedTo_iff, holder, granted]

/-! ### The coach leaves, plugs in, plugs out -/

theorem clrLeft (h : s.LanesFit X) {b : BayNo} (hb : X b) (wasCleared : Bool) : (Machine.clrLeft b wasCleared s).1.LanesFit X := by
  have well : (leaveCleared b s).LanesWell := (h.toLanesWell.modClr b _).leaveOrder b
  have same : (s.modClr b (fun c => { c with openRequest := false })).standing = s.standing :=
    standing_ext (fun c => by by_cases e : c = b <;> simp [e]) rfl rfl rfl
  refine h.of_update hb (x := ⟨.empty, (s.standing b).held, false, false, false⟩) ?_
    ((well.lanePassageWait b).setClear b _) (Standing.fits_idle _ (.inr (.inl rfl)))
  show State.standing (State.setClear _ _ _) = _
  rw [standing_setClear, lanePassageWait_standing well, leaveCleared, standing_leaveOrder, same]
  simp

/-- A bay that gives up its lane and its place in the wait order and takes an idle state. -/
theorem releaseIdle (h : s.LanesFit X) {b : BayNo} (hb : X b) {t : State} {st : ClearState}
    (same : t.standing = putStanding s.standing b { s.standing b with waits := false }) (well : t.LanesWell)
    (idle : st = .outOfService ∨ st = .empty ∨ st = .arrived ∨ st = .docking) :
    ((laneReleaseOf b t).1.setClear b st).LanesFit X := by
  refine h.of_update hb (x := ⟨st, (s.standing b).held, false, false, false⟩) ?_
    ((well.laneReleaseOf b).setClear b _) (Standing.fits_idle _ idle)
  rw [standing_setClear, laneReleaseOf_standing well, same]
  simp

theorem leaveCleared_standing (b : BayNo) : (leaveCleared b s).standing =
    putStanding s.standing b { s.standing b with waits := false } := by
  have same : (s.modClr b (fun c => { c with openRequest := false })).standing = s.standing :=
    standing_ext (fun c => by by_cases e : c = b <;> simp [e]) rfl rfl rfl
  rw [leaveCleared, standing_leaveOrder, same]

theorem clrPlugIn (h : s.LanesFit X) {b : BayNo} (hb : X b) : (Machine.clrPlugIn b s).1.LanesFit X := by
  unfold Machine.clrPlugIn
  split
  case h_1 arrived => exact h.moveTo_same hb (by simp [arrived]) (by simp) (by simp) (by simp)
  case h_2 | h_3 =>
    exact h.releaseIdle hb (leaveCleared_standing b) ((h.toLanesWell.modClr b _).leaveOrder b) (.inr (.inr (.inr rfl)))
  all_goals exact h

theorem clrDisable (h : s.LanesFit X) {b : BayNo} (hb : X b) : (Machine.clrDisable b s).1.LanesFit X := by
  refine h.releaseIdle hb ?_ (((h.toLanesWell.modClr b _).leaveOrder b).modClr b _) (.inl rfl)
  rw [← leaveCleared_standing b]
  exact standing_ext (fun c => by by_cases e : c = b <;> simp [e]) rfl rfl rfl

theorem clrPresence (h : s.LanesFit X) {b : BayNo} (hb : X b) (occupied : Bool) : (Machine.clrPresence b occupied s).1.LanesFit X := by
  unfold Machine.clrPresence
  split
  case h_1 empty => exact h.enterIdle hb (.inr (.inl empty)) (.inr (.inr (.inl rfl)))
  case h_2 arrived => exact h.enterIdle hb (.inr (.inr (.inl arrived))) (.inr (.inl rfl))
  · exact h.clrLeft hb true
  · exact h.clrLeft hb false
  · exact h

theorem clrFromSensors (h : s.LanesFit X) {b : BayNo} (hb : X b) : (Machine.clrFromSensors b s).1.LanesFit X := by
  unfold Machine.clrFromSensors
  split
  case isTrue out =>
    refine h.enterIdle hb (.inl out) ?_
    unfold Bfe.clearState
    split
    · simp
    · split <;> simp
  · exact h

theorem clearedByPlugOut (h : s.LanesFit X) {b : BayNo} (hb : X b) (clearing : (s.clrAt b).state = .clearing) :
    (Machine.clearedByPlugOut b s).1.LanesFit X := by
  have fits := h.fits b hb
  have state : (s.standing b).state = .clearing := clearing
  have same : (s.modClr b (fun c => { c with plugTimer := none, openWait := none })).standing = s.standing :=
    standing_ext (fun c => by by_cases e : c = b <;> simp [e]) rfl rfl rfl
  refine h.of_update hb (x := ⟨.cleared, (s.standing b).held, false, (s.standing b).lane, (s.standing b).waits⟩) ?_
    ((h.toLanesWell.modClr b _).setClear b _) ⟨?_, ?_, ?_, nofun, nofun⟩
  · show State.standing (State.setClear _ _ _) = _
    rw [standing_setClear, same]
  · simpa [state] using fits.lane
  · simpa [state] using fits.waits
  · simpa [state] using fits.clear

theorem clrPlugOut (h : s.LanesFit X) {b : BayNo} (hb : X b) : (Machine.clrPlugOut b s).1.LanesFit X := by
  unfold Machine.clrPlugOut
  split
  case h_1 clearing => exact h.clearedByPlugOut hb clearing
  case h_2 e | h_3 e | h_4 e | h_5 e | h_6 e =>
    exact h.moveTo_same hb (by simp [e]) (by simp) (by simp) (by simp)
  all_goals exact h

theorem clrUndocked (h : s.LanesFit X) {b : BayNo} (hb : X b) (why : UndockReason) : (Machine.clrUndocked b why s).1.LanesFit X := by
  unfold Machine.clrUndocked
  split
  case h_1 | h_2 =>
    split
    case isTrue settles => exact h.moveTo_same hb (ClearState.inside_of_settles settles) (by simp) (by simp) (by simp)
    · exact h
  all_goals exact h

/-! ### Settling, window and departure -/

theorem clrSettle (h : s.LanesFit X) {b : BayNo} (hb : X b) : (Machine.clrSettle b s).1.LanesFit X := by
  unfold Machine.clrSettle
  split
  case isTrue settles =>
    simp only [Bool.and_eq_true] at settles
    exact h.settle hb (ClearState.inside_of_settles settles.1)
  · exact h

theorem clrDocked (h : s.LanesFit X) {b : BayNo} (hb : X b) : (Machine.clrDocked b s).1.LanesFit X := by
  unfold Machine.clrDocked
  split
  case isTrue docking => exact h.settle hb (by simp [docking])
  · exact h

theorem clrScanCommitted (h : s.LanesFit X) {b : BayNo} (hb : X b) : (Machine.clrScanCommitted b s).1.LanesFit X := by
  unfold Machine.clrScanCommitted
  split
  case isTrue scanning => exact h.settle hb (by simp [scanning])
  · exact h

theorem clrDeparture (h : s.LanesFit X) {b : BayNo} (hb : X b) : (Machine.clrDeparture b s).1.LanesFit X := by
  unfold Machine.clrDeparture
  dsimp only
  split
  case isTrue waits =>
    have waits : (s.standing b).waits = true := waits
    refine h.of_same ?_ (h.toLanesWell.joinOrder b)
    rw [standing_joinOrder]
    refine putStanding_eq_self_iff.mpr ?_
    show (⟨_, _, _, _, true⟩ : Standing) = _
    rw [← waits]
  · exact h

/-! ### CLEARING, CLEARED and RECALLED -/

theorem clrOpenPoint (h : s.LanesFit X) (b : BayNo) : (Machine.clrOpenPoint b s).1.LanesFit X := by
  unfold Machine.clrOpenPoint
  split
  · dsimp only [done]
    refine h.modClr_same b ?_
    exact ⟨rfl, rfl, rfl⟩
  · exact h

/-- A revocation, on a state that differs from one that agrees in the bay's hold mark and in what does not stand in the
agreement. -/
theorem clrRevoke (h : s.LanesFit X) {b : BayNo} (hb : X b) {t : State} (timeout : Bool) (well : t.LanesWell) {held : Bool}
    (same : t.standing = putStanding s.standing b { s.standing b with held := held })
    (clearing : (t.clrAt b).state = .clearing) (was : (s.clrAt b).state = .clearing) :
    (Machine.clrRevoke b timeout t).1.LanesFit X := by
  unfold Machine.clrRevoke
  rw [if_pos clearing]
  have fits := h.fits b hb
  have notWaits : (s.standing b).waits = false := Bool.eq_false_iff.mpr fun waits => by
    rcases fits.waits.mp waits with e | ⟨e, -⟩
    · exact absurd (was.symm.trans e) (by decide)
    · exact absurd (was.symm.trans e) (by decide)
  have standing : ((t.setClear b .preparing).modClr b (fun c =>
      { c with plugTimer := none, openWait := none, openRequest := false, revoking := true })).standing =
      putStanding s.standing b ⟨.preparing, held, true, (s.standing b).lane, false⟩ := by
    rw [standing_modClr (g := fun x => { x with revoking := true }) _ _ rfl, standing_setClear, same]
    simp [notWaits]
  refine h.of_update hb (x := ⟨.preparing, held, true, false, false⟩) ?_
    (((well.setClear b _).modClr b _).laneReleaseOf b) ⟨by simp, by simp, by simp, by simp, by simp⟩
  rw [laneReleaseOf_standing ((well.setClear b _).modClr b _), standing]
  simp

theorem clrRevokeEnd (h : s.LanesFit X) {b : BayNo} (hb : X b) (timeout : Bool) : (Machine.clrRevokeEnd b timeout s).1.LanesFit X := by
  unfold Machine.clrRevokeEnd
  dsimp only
  split
  case isTrue revoking =>
    have fits := h.fits b hb
    have preparing : (s.clrAt b).state = .preparing := fits.revoking revoking
    obtain ⟨lane, waits⟩ := fits.inside (by show (s.clrAt b).state ≠ _; simp [preparing])
      (by show (s.clrAt b).state ≠ _; simp [preparing]) (by show (s.clrAt b).state ≠ _; simp [preparing])
    have notWaits : (s.standing b).waits = false := Bool.eq_false_iff.mpr fun w =>
      absurd (preparing.symm.trans (waits w)) (by decide)
    split
    case isTrue held =>
      refine h.of_update hb (standing_setClear s b _) (h.toLanesWell.setClear b _) ?_
      show (⟨.preparing, (s.standing b).held, false, (s.standing b).lane, (s.standing b).waits⟩ : Standing).Fits
      have held : (s.standing b).held = true := held
      rw [lane, notWaits, held]
      exact ⟨by simp, by simp, by simp, by simp, by simp⟩
    case isFalse free =>
      refine h.of_update hb (standing_setClear s b _) (h.toLanesWell.setClear b _) ?_
      show (⟨.ready, (s.standing b).held, false, (s.standing b).lane, (s.standing b).waits⟩ : Standing).Fits
      have free : (s.standing b).held = false := Bool.not_eq_true _ ▸ free
      rw [lane, notWaits, free]
      exact ⟨by simp, by simp, by simp, by simp, by simp⟩
  · exact h

theorem clrHolds (h : s.LanesFit X) {b : BayNo} (hb : X b) : (Machine.clrHolds b s).1.LanesFit X := by
  have fits := h.fits b hb
  have same : (s.modClr b (fun c => { c with holds := (s.dpmAt b).reported })).standing =
      putStanding s.standing b { s.standing b with held := (s.dpmAt b).reported.held } :=
    standing_modClr (g := fun x => { x with held := (s.dpmAt b).reported.held }) _ _ rfl
  have well := h.toLanesWell.modClr b (fun c => { c with holds := (s.dpmAt b).reported })
  unfold Machine.clrHolds
  dsimp only
  split
  case h_1 e | h_2 e | h_3 e | h_4 e =>
    split
    case isTrue revoking =>
      exact h.of_update hb same well (fits.hold _ (.inr (.inr (.inr (.inr revoking)))))
    case isFalse notRevoking =>
      exact h.settle_held hb well (by simp) (by simp [e, ClearState.settles]) (Bool.not_eq_true _ ▸ notRevoking)
        (by simpa using same)
  case h_5 clearing =>
    split
    · exact h.clrRevoke hb false well same (by simpa using clearing) clearing
    case isFalse free =>
      refine h.of_update hb same well ⟨fits.lane, ?_, fun _ => Bool.not_eq_true _ ▸ free, fun e => ?_, fits.revoking⟩
      · have state : (s.standing b).state = .clearing := clearing
        simpa [state] using fits.waits
      · exact absurd (clearing.symm.trans e) (by decide)
  case h_6 cleared =>
    have state : (s.standing b).state = .cleared := cleared
    have notWaits : (s.standing b).waits = false := Bool.eq_false_iff.mpr fun waits => by
      simpa [state] using fits.waits.mp waits
    split
    case isTrue held =>
      refine h.of_update hb (x := ⟨.recalled, true, false, false, false⟩) ?_
        ((well.laneReleaseOf b).setClear b _) ⟨by simp, by simp, by simp, by simp, by simp⟩
      show State.standing (State.setClear _ _ _) = _
      rw [standing_setClear, laneReleaseOf_standing well, same]
      simp [notWaits, held]
    case isFalse free =>
      refine h.of_update hb same well ⟨fits.lane, ?_, fun _ => Bool.not_eq_true _ ▸ free, fun e => ?_, fits.revoking⟩
      · simpa [state] using fits.waits
      · exact absurd (cleared.symm.trans e) (by decide)
  case h_7 recalled =>
    have state : (s.standing b).state = .recalled := recalled
    have notLane : (s.standing b).lane = false := Bool.eq_false_iff.mpr fun lane => by
      simpa [state] using fits.lane.mp lane
    have notRevoking : (s.standing b).revoking = false := Bool.eq_false_iff.mpr fun revoking => by
      simpa [state] using fits.revoking revoking
    split
    case isTrue held =>
      refine h.of_update hb (x := ⟨.recalled, true, false, false, false⟩) ?_ (well.leaveOrder b)
        ⟨by simp, by simp, by simp, by simp, by simp⟩
      show State.standing (leaveOrder _ _) = _
      rw [standing_leaveOrder, same]
      simp [notLane, notRevoking, state, held]
    case isFalse free =>
      have free : (s.dpmAt b).reported.held = false := Bool.not_eq_true _ ▸ free
      refine h.of_update hb (x := ⟨.recalled, false, false, false, true⟩) ?_ (well.joinOrder b)
        ⟨by simp, by simp, by simp, by simp, by simp⟩
      rw [standing_joinOrder, same]
      simp [notLane, notRevoking, state, free]
  case h_8 e | h_9 e | h_10 e | h_11 e =>
    exact h.of_update hb same well (fits.hold _ (by
      have state : (s.standing b).state = _ := e
      simp [state]))

/-! ### Every notice and every own action -/

theorem handle (h : s.LanesFit X) (all : ∀ b, X b) (n : Notice) : (handle n s).1.LanesFit X := by
  by_cases other : n.writer = .clearance
  · cases n with
    | clrHolds b => exact h.clrHolds (all b)
    | clrSettle b => exact h.clrSettle (all b)
    | clrDocked b => exact h.clrDocked (all b)
    | clrScanCommitted b => exact h.clrScanCommitted (all b)
    | clrFromSensors b => exact h.clrFromSensors (all b)
    | clrPresence b occupied => exact h.clrPresence (all b) occupied
    | clrPlugIn b => exact h.clrPlugIn (all b)
    | clrPlugOut b => exact h.clrPlugOut (all b)
    | clrUndocked b why => exact h.clrUndocked (all b) why
    | clrDisable b => exact h.clrDisable (all b)
    | clrWindow b =>
      unfold Machine.handle clrWindow
      dsimp only
      refine h.modClr_same b ?_
      exact ⟨rfl, rfl, rfl⟩
    | clrDeparture b => exact h.clrDeparture (all b)
    | clrOfferTo b => exact h.clrOfferTo b
    | clrSuspend b => unfold Machine.handle clrSuspend; dsimp only; split <;> exact h
    | clrStartTimers b =>
      unfold Machine.handle clrStartTimers
      dsimp only
      split
      · dsimp only [done]
        refine h.modClr_same b ?_
        exact ⟨rfl, rfl, rfl⟩
      · exact h
    | clrOpenTest b =>
      unfold Machine.handle clrOpenTest
      dsimp only
      split
      · exact h.clrOpenPoint b
      · exact h
    | clrRevokeEnd b timeout => exact h.clrRevokeEnd (all b) timeout
    | laneOffer l => exact h.laneOffer l
    | _ => exact absurd other nofun
  · exact h.of_outside other (handle_outside n s)

theorem clrOpenWaitExpired (h : s.LanesFit X) (b : BayNo) : (Machine.clrOpenWaitExpired b s).1.LanesFit X := by
  unfold Machine.clrOpenWaitExpired
  split
  · refine State.LanesFit.clrOpenPoint (h.modClr_same b ?_) b
    exact ⟨rfl, rfl, rfl⟩
  · exact h

theorem clrPlugExpired (h : s.LanesFit X) {b : BayNo} (hb : X b) : (Machine.clrPlugExpired b s).1.LanesFit X := by
  unfold Machine.clrPlugExpired
  split
  · have stopped : (s.modClr b (fun c => { c with plugTimer := none })).LanesFit X := by
      refine h.modClr_same b ?_
      exact ⟨rfl, rfl, rfl⟩
    by_cases clearing : ((s.modClr b (fun c => { c with plugTimer := none })).clrAt b).state = .clearing
    · exact stopped.clrRevoke hb true stopped.toLanesWell (putStanding_eq_self ..).symm clearing clearing
    · unfold Machine.clrRevoke
      rw [if_neg clearing]
      exact stopped
  · exact h

theorem laneExpired (h : s.LanesFit X) (l : Lane) : (Machine.laneExpired l s).1.LanesFit X := by
  unfold Machine.laneExpired
  dsimp only
  split
  case isTrue waits => exact h.laneRelease true waits.1
  case isFalse none =>
    obtain ⟨holder, timer, pending⟩ := h.record l
    dsimp only [done]
    refine h.modLane_same l ?_ ?_ ?_
    · refine ⟨holder, ⟨fun some => absurd rfl some, fun waits => ?_⟩, pending⟩
      have waits : (s.laneAt l).state = .passageWait := waits
      exact absurd ⟨waits, Option.isSome_iff_ne_none.mpr (timer.mpr waits)⟩ none
    · rfl
    · rfl

theorem passagePulse (h : s.LanesFit X) (l : Lane) : (Machine.passagePulse l s).1.LanesFit X := by
  unfold Machine.passagePulse
  split
  case isTrue waits => exact h.laneRelease false waits
  · exact h

/-- A lane that nobody holds is FREE or CLOSED and has neither holder nor timer. -/
theorem idleLane (h : s.LanesFit X) {l : Lane} {st : LaneState} (state : (s.laneAt l).state = st)
    (idle : st ≠ .granted ∧ st ≠ .passageWait) : (s.laneAt l).holder = none ∧ (s.laneAt l).timer = none := by
  obtain ⟨holder, timer, -⟩ := h.record l
  rw [state] at holder timer
  constructor
  · refine Classical.byContradiction fun some => ?_
    rcases holder.mp some with e | e
    · exact idle.1 e
    · exact idle.2 e
  · refine Classical.byContradiction fun some => ?_
    exact idle.2 (timer.mp some)

theorem closeLane (h : s.LanesFit X) (l : Lane) : (Machine.closeLane l s).1.LanesFit X := by
  obtain ⟨holder, timer, pending⟩ := h.record l
  unfold Machine.closeLane
  split
  case h_1 free =>
    obtain ⟨noHolder, noTimer⟩ := h.idleLane free (by decide)
    dsimp only [done]
    refine h.modLane_same l ⟨?_, ?_, ?_⟩ ?_ ?_
    · simp [noHolder]
    · simp [noTimer]
    · exact pending
    · rfl
    · simp [free]
  case h_2 e | h_3 e =>
    dsimp only [done]
    refine h.modLane_same l ⟨?_, ?_, ?_⟩ ?_ ?_
    · exact holder
    · exact timer
    · exact fun _ => holder.mpr (by simp [e])
    · rfl
    · rfl
  · exact h

theorem openLane (h : s.LanesFit X) (l : Lane) : (Machine.openLane l s).1.LanesFit X := by
  obtain ⟨holder, timer, pending⟩ := h.record l
  unfold Machine.openLane
  split
  case h_1 closed =>
    obtain ⟨noHolder, noTimer⟩ := h.idleLane closed (by decide)
    dsimp only [done]
    refine h.modLane_same l ⟨?_, ?_, ?_⟩ ?_ ?_
    · simp [noHolder]
    · simp [noTimer]
    · exact pending
    · rfl
    · simp [closed]
  case h_2 e | h_3 e =>
    dsimp only [done]
    refine h.modLane_same l ⟨?_, ?_, ?_⟩ ?_ ?_
    · exact holder
    · exact timer
    · exact fun pending => absurd pending Bool.false_ne_true
    · rfl
    · rfl
  · exact h

theorem acts (h : s.LanesFit X) (all : ∀ b, X b) {k : Writer} {r : Reaction} (acted : Acts s k r) : r.1.LanesFit X := by
  by_cases other : k = .clearance
  · cases acted with
    | openWait b => exact h.clrOpenWaitExpired b
    | plugTimer b => exact h.clrPlugExpired (all b)
    | laneTimer l => exact h.laneExpired l
    | passage l => exact h.passagePulse l
    | closeLane l => exact h.closeLane l
    | openLane l => exact h.openLane l
    | _ => exact absurd other nofun
  · exact h.of_outside other acted.outside

end State.LanesFit

end Sys2Proof.Machine
end

section
/-! RESTART, read off. In its steps 4 and 7 lanes are released and hold sets are derived anew, with the notices that this
hands on. Only lanes, wait order, clearance states, signals and flags can move then, since only RECALLED bays wait; so what
the other steps have set stands at the end (R176, R189). -/

namespace Sys2Proof.Machine

/-! ### Something done to every bay -/

/-- What a bay's records become where every bay is treated on its own. -/
theorem forBays_at {α : Type} (get : State → BayNo → α) {f : BayNo → State → State} {g : BayNo → α → α}
    (own : ∀ b s, get (f b s) b = g b (get s b)) (other : ∀ b c s, c ≠ b → get (f b s) c = get s c) (s : State)
    (c : BayNo) : get (forBays f s) c = g c (get s c) := by
  suffices ∀ bs : List BayNo, bs.Nodup → get (bs.foldl (fun t b => f b t) s) c = if c ∈ bs then g c (get s c) else get s c
    from (this allBays allBays_nodup).trans (if_pos (mem_allBays c))
  intro bs once
  induction bs generalizing s with
  | nil => rfl
  | cons b bs ih =>
    obtain ⟨notIn, once⟩ := List.nodup_cons.mp once
    rw [List.foldl_cons, ih (f b s) once]
    by_cases same : c = b
    · subst same; rw [if_neg notIn, if_pos List.mem_cons_self, own]
    · rw [other b c s same]; simp [same]

/-- What every bay's treatment keeps. -/
theorem forBays_preserves {P : State → Prop} {f : BayNo → State → State} (h : ∀ b s, P s → P (f b s)) {s : State}
    (hs : P s) : P (forBays f s) := by
  suffices ∀ bs : List BayNo, P (bs.foldl (fun t b => f b t) s) from this allBays
  intro bs
  induction bs generalizing s with
  | nil => exact hs
  | cons b bs ih => exact ih (h b s hs)

/-- What every bay's treatment sets up for its bay and keeps for the others. -/
theorem forBays_each {P : State → Prop} {Q : State → BayNo → Prop} {f : BayNo → State → State} (keeps : ∀ b s, P s → P (f b s))
    (own : ∀ b s, P s → Q (f b s) b) (other : ∀ b c s, P s → Q s c → Q (f b s) c) {s : State} (hs : P s) (c : BayNo) :
    Q (forBays f s) c := by
  suffices ∀ bs : List BayNo, c ∈ bs ∨ Q s c → Q (bs.foldl (fun t b => f b t) s) c from this allBays (.inl (mem_allBays c))
  intro bs
  induction bs generalizing s with
  | nil => exact fun h => h.elim (fun h => absurd h List.not_mem_nil) id
  | cons b bs ih =>
    intro h
    refine ih (keeps b s hs) ?_
    rcases h with mem | h
    · rcases List.mem_cons.mp mem with rfl | mem
      · exact .inr (own _ s hs)
      · exact .inl mem
    · exact .inr (other b c s hs h)

theorem bayAt_map {α β : Type} (v : Vector α 16) (g : α → β) (b : BayNo) : bayAt (v.map g) b = g (bayAt v b) := by
  simp [bayAt]

/-! ### What calm notices leave -/

/-- A state with everything blanked that a lane release, a lane's grant and a hold set's report to a CLEARED or RECALLED bay
write: clearance states and the CLR's hold sets, aspects, lanes, the wait order, the flags and ATTN. -/
def State.still (s : State) : State :=
  { s with
    bfe := s.bfe.map (fun f => { f with aspect := .dark })
    clr := s.clr.map (fun c => { c with state := .empty, holds := .reset, revoking := false })
    laneA := .reset, laneB := .reset, waitOrder := []
    flags := State.reset.flags, hallFlags := State.reset.hallFlags, hli := { s.hli with attn := false }, unfinished := [] }

theorem eq_of_still {α : Type} (get : State → α) (unwritten : ∀ s, get s.still = get s) {s t : State}
    (h : t.still = s.still) : get t = get s := by rw [← unwritten t, h, unwritten]

theorem map_bayPut {α β : Type} (v : Vector α 16) (g : α → β) (b : BayNo) (x : α) :
    (bayPut v b x).map g = bayPut (v.map g) b (g x) := by
  simp [bayPut]

/-- A change of one record that a blanking hides. -/
theorem map_bayPut_of_eq {α β : Type} (v : Vector α 16) {g : α → β} {b : BayNo} {x : α} (h : g x = g (bayAt v b)) :
    (bayPut v b x).map g = v.map g := by
  rw [map_bayPut, h, ← bayAt_map v g b, bayPut_bayAt]

theorem modClr_still (s : State) (b : BayNo) {f : Clr → Clr}
    (h : { f (s.clrAt b) with state := .empty, holds := .reset, revoking := false } =
      { s.clrAt b with state := .empty, holds := .reset, revoking := false }) : (s.modClr b f).still = s.still := by
  show ({ s.still with clr := (bayPut s.clr b (f (s.clrAt b))).map _ } : State) = s.still
  rw [map_bayPut_of_eq _ h]; rfl

theorem modBfe_still (s : State) (b : BayNo) {f : Bfe → Bfe}
    (h : { f (s.bfeAt b) with aspect := .dark } = { s.bfeAt b with aspect := .dark }) :
    (s.modBfe b f).still = s.still := by
  show ({ s.still with bfe := (bayPut s.bfe b (f (s.bfeAt b))).map _ } : State) = s.still
  rw [map_bayPut_of_eq _ h]; rfl

@[simp] theorem setClear_still (s : State) (b : BayNo) (st : ClearState) : (s.setClear b st).still = s.still := by
  unfold State.setClear
  rw [modBfe_still _ _ rfl, modClr_still _ _ rfl]

@[simp] theorem modLane_still (s : State) (l : Lane) (f : LaneRecord → LaneRecord) : (s.modLane l f).still = s.still := by
  cases l <;> rfl

@[simp] theorem leaveOrder_still (b : BayNo) (s : State) : (leaveOrder b s).still = s.still := rfl
@[simp] theorem joinOrder_still (b : BayNo) (s : State) : (joinOrder b s).still = s.still := rfl

@[simp] theorem grantLane_still (l : Lane) (b : BayNo) (s : State) : (grantLane l b s).1.still = s.still := by
  unfold grantLane
  dsimp only
  split <;> simp [enterClear, Reaction.also]

theorem laneOffer_still (l : Lane) (s : State) : (laneOffer l s).1.still = s.still := by
  unfold laneOffer
  split
  · split
    · simp
    · rfl
  · rfl

theorem clrOfferTo_still (b : BayNo) (s : State) : (clrOfferTo b s).1.still = s.still := by
  unfold clrOfferTo
  split
  · split
    · simp
    · split
      · simp
      · rfl
  · rfl

@[simp] theorem laneReleaseOf_still (b : BayNo) (s : State) : (laneReleaseOf b s).1.still = s.still := by
  unfold laneReleaseOf
  split
  · simp [laneRelease]
  · rfl

theorem clrRecall_still (b : BayNo) (s : State) : (clrRecall b s).1.still = s.still := by
  simp [clrRecall, enterClear]

/-- The states in which a hold set's report settles nothing and revokes nothing. -/
def ClearState.calm : ClearState → Bool
  | .outOfService | .empty | .arrived | .docking | .cleared | .recalled => true
  | .preparing | .ready | .scanning | .queued | .clearing => false

theorem clrHolds_still {b : BayNo} {s : State} (calm : (s.clrAt b).state.calm = true) :
    (clrHolds b s).1.still = s.still := by
  have recorded : (s.modClr b (fun c => { c with holds := (s.dpmAt b).reported })).still = s.still :=
    modClr_still _ _ rfl
  unfold clrHolds
  dsimp only
  split
  case h_1 e | h_2 e | h_3 e | h_4 e | h_5 e => exact absurd (e ▸ calm) (by decide)
  case h_6 =>
    split
    · rw [clrRecall_still, recorded]
    · exact recorded
  case h_7 =>
    split
    · exact recorded
    · exact recorded
  all_goals exact recorded

/-- The notices that a lane release and a derivation of a hold set in a calm state lead to. -/
def Notice.calmIn (s : State) : Notice → Prop
  | .raise _ k _ _ => k = .holds ∨ k = .clearance
  | .raiseHall k _ => k = .lane
  | .laneOffer _ | .clrOfferTo _ => True
  | .clrHolds b => (s.clrAt b).state.calm = true
  | _ => False

theorem Notice.calmIn_cases {s : State} {n : Notice} (calm : n.calmIn s) : (∃ b k r q, n = .raise b k r q) ∨ (∃ k r, n = .raiseHall k r) ∨
    (∃ l, n = .laneOffer l) ∨ (∃ b, n = .clrOfferTo b) ∨ ∃ b, n = .clrHolds b := by
  unfold Notice.calmIn at calm
  split at calm
  · exact .inl ⟨_, _, _, _, rfl⟩
  · exact .inr (.inl ⟨_, _, rfl⟩)
  · exact .inr (.inr (.inl ⟨_, rfl⟩))
  · exact .inr (.inr (.inr (.inl ⟨_, rfl⟩)))
  · exact .inr (.inr (.inr (.inr ⟨_, rfl⟩)))
  · exact calm.elim

/-- Only calm notices stand, and only RECALLED bays wait. -/
structure Calm (ns : List Notice) (s : State) : Prop where
  notices : ∀ n ∈ ns, n.calmIn s
  order : ∀ b ∈ s.waitOrder, (s.clrAt b).state = .recalled

/-- A calm state change: each bay's clearance state stays, or is CLEARED or RECALLED after. -/
def CalmChange (s t : State) : Prop :=
  ∀ b, (t.clrAt b).state = (s.clrAt b).state ∨ (t.clrAt b).state = .cleared ∨ (t.clrAt b).state = .recalled

theorem calmIn_of_change {s t : State} (h : CalmChange s t) {n : Notice} (calm : n.calmIn s) : n.calmIn t := by
  cases n with
  | clrHolds b =>
    show (t.clrAt b).state.calm = true
    have calm : (s.clrAt b).state.calm = true := calm
    rcases h b with e | e | e <;> rw [e]
    · exact calm
    · rfl
    · rfl
  | _ => exact calm

@[simp] theorem setClear_clrAt_state (s : State) (b c : BayNo) (st : ClearState) :
    ((s.setClear b st).clrAt c).state = if c = b then st else (s.clrAt c).state := by
  by_cases same : c = b
  · subst same; simp [State.setClear]
  · simp [State.setClear, same]

@[simp] theorem leaveOrder_clrAt (s : State) (b c : BayNo) : (leaveOrder b s).clrAt c = s.clrAt c := rfl
@[simp] theorem joinOrder_clrAt (s : State) (b c : BayNo) : (joinOrder b s).clrAt c = s.clrAt c := rfl

/-- What a calm notice does: nothing to what is still, a calm change, and calm notices. -/
structure CalmStep (s : State) (r : Reaction) : Prop where
  still : r.1.still = s.still
  change : CalmChange s r.1
  notices : ∀ n ∈ r.2, n.calmIn r.1
  order : ∀ b ∈ r.1.waitOrder, (r.1.clrAt b).state = .recalled

theorem CalmStep.done {s : State} (order : ∀ b ∈ s.waitOrder, (s.clrAt b).state = .recalled) : CalmStep s (done s) :=
  ⟨rfl, fun _ => .inl rfl, fun _ mem => absurd mem List.not_mem_nil, order⟩

theorem grantLane_calm {s : State} (order : ∀ b ∈ s.waitOrder, (s.clrAt b).state = .recalled) (l : Lane) {b : BayNo}
    (waits : b ∈ s.waitOrder) : CalmStep s (grantLane l b s) := by
  have recalled := order b waits
  refine ⟨grantLane_still l b s, fun c => ?_, ?_, fun c mem => ?_⟩
  · simp only [grantLane, if_pos recalled, Reaction.also, enterClear, setClear_clrAt_state, leaveOrder_clrAt, modLane_clrAt]
    split <;> simp
  · simp [grantLane, if_pos recalled, Reaction.also, enterClear, Notice.calmIn, laneNotice]
  · have mem : c ∈ s.waitOrder ∧ c ≠ b := by
      simpa [grantLane, if_pos recalled, Reaction.also, enterClear, State.setClear, leaveOrder] using mem
    simp [grantLane, if_pos recalled, Reaction.also, enterClear, mem.2, order c mem.1]

theorem laneOffer_calm {s : State} (order : ∀ b ∈ s.waitOrder, (s.clrAt b).state = .recalled) (l : Lane) :
    CalmStep s (laneOffer l s) := by
  unfold laneOffer
  split
  · split
    case h_1 b found => exact grantLane_calm order l (List.mem_of_find?_eq_some found)
    · exact .done order
  · exact .done order

theorem clrOfferTo_calm {s : State} (order : ∀ b ∈ s.waitOrder, (s.clrAt b).state = .recalled) (b : BayNo) :
    CalmStep s (clrOfferTo b s) := by
  unfold clrOfferTo
  split
  case isTrue waits =>
    have waits := List.contains_iff_mem.mp waits
    split
    · exact grantLane_calm order .a waits
    · split
      · exact grantLane_calm order .b waits
      · exact .done order
  · exact .done order

/-- A lane's release raises LANE, offers the lane and lets the former holder take a FREE lane. -/
theorem laneRelease_all {P : Notice → Prop} (raises : ∀ r, P (.raiseHall .lane r)) (offers : ∀ l, P (.laneOffer l))
    (takes : ∀ b, P (.clrOfferTo b)) (l : Lane) (timeout : Bool) (s : State) : ∀ n ∈ (laneRelease l timeout s).2, P n := by
  have offered {Q : Prop} (x : Decidable Q) {n m : Notice} (calm : P m) (mem : n ∈ if Q then [m] else []) : P n := by
    split at mem
    · exact List.mem_singleton.mp mem ▸ calm
    · exact absurd mem List.not_mem_nil
  intro n mem
  simp only [laneRelease, List.mem_append, List.mem_singleton] at mem
  rcases mem with (rfl | mem) | mem
  · split
    · exact raises _
    · exact raises _
  · exact offered _ (offers l) mem
  · split at mem
    · rw [List.mem_singleton.mp mem]; exact takes _
    · exact absurd mem List.not_mem_nil

theorem laneReleaseOf_all {P : Notice → Prop} (raises : ∀ r, P (.raiseHall .lane r)) (offers : ∀ l, P (.laneOffer l))
    (takes : ∀ b, P (.clrOfferTo b)) (b : BayNo) (s : State) : ∀ n ∈ (laneReleaseOf b s).2, P n := by
  unfold laneReleaseOf
  split
  · exact laneRelease_all raises offers takes _ _ _
  · exact fun _ mem => absurd mem List.not_mem_nil

theorem laneReleaseOf_notices (b : BayNo) (s t : State) : ∀ n ∈ (laneReleaseOf b s).2, n.calmIn t :=
  laneReleaseOf_all (P := Notice.calmIn t) (fun _ => rfl) (fun _ => trivial) (fun _ => trivial) b s

@[simp] theorem laneReleaseOf_clrAt (b c : BayNo) (s : State) : (laneReleaseOf b s).1.clrAt c = s.clrAt c := by
  unfold laneReleaseOf
  split
  · simp [laneRelease]
  · rfl

@[simp] theorem laneReleaseOf_waitOrder (b : BayNo) (s : State) : (laneReleaseOf b s).1.waitOrder = s.waitOrder := by
  unfold laneReleaseOf
  split
  · simp [laneRelease]
  · rfl

theorem clrRecall_calm {s : State} (order : ∀ b ∈ s.waitOrder, (s.clrAt b).state = .recalled) (b : BayNo) :
    CalmStep s (clrRecall b s) := by
  refine ⟨clrRecall_still b s, fun c => ?_, fun n mem => ?_, fun c mem => ?_⟩
  · simp only [clrRecall, enterClear, setClear_clrAt_state, laneReleaseOf_clrAt]
    split <;> simp
  · simp only [clrRecall, enterClear, List.mem_append, List.mem_singleton] at mem
    rcases mem with mem | rfl
    · exact laneReleaseOf_notices b s _ n mem
    · exact .inr rfl
  · have mem : c ∈ s.waitOrder := by simpa [clrRecall, enterClear, State.setClear] using mem
    simp only [clrRecall, enterClear, setClear_clrAt_state, laneReleaseOf_clrAt, order c mem, ite_self]

theorem clrHolds_calm {s : State} (order : ∀ b ∈ s.waitOrder, (s.clrAt b).state = .recalled) {b : BayNo}
    (calm : (s.clrAt b).state.calm = true) : CalmStep s (clrHolds b s) := by
  have recorded : (s.modClr b (fun c => { c with holds := (s.dpmAt b).reported })).still = s.still :=
    modClr_still _ _ rfl
  have same : ∀ c, ((s.modClr b (fun c => { c with holds := (s.dpmAt b).reported })).clrAt c).state = (s.clrAt c).state :=
    fun c => by by_cases e : c = b <;> simp [e]
  have orderSame : ∀ c ∈ (s.modClr b (fun c => { c with holds := (s.dpmAt b).reported })).waitOrder,
      ((s.modClr b (fun c => { c with holds := (s.dpmAt b).reported })).clrAt c).state = .recalled :=
    fun c mem => (same c).trans (order c mem)
  have doneStep : CalmStep s (Machine.done (s.modClr b (fun c => { c with holds := (s.dpmAt b).reported }))) :=
    ⟨recorded, fun c => .inl (same c), fun _ mem => absurd mem List.not_mem_nil, orderSame⟩
  unfold clrHolds
  dsimp only
  split
  case h_1 e | h_2 e | h_3 e | h_4 e | h_5 e => exact absurd (e ▸ calm) (by decide)
  case h_6 =>
    split
    · obtain ⟨still, change, notices, order⟩ := clrRecall_calm orderSame b
      refine ⟨still.trans recorded, fun c => ?_, notices, order⟩
      rw [← same c]; exact change c
    · exact doneStep
  case h_7 recalled =>
    split
    · refine ⟨recorded, fun c => .inl (same c), fun _ mem => absurd mem List.not_mem_nil, fun c mem => ?_⟩
      exact orderSame c (List.mem_filter.mp mem).1
    · refine ⟨recorded, fun c => .inl (same c), ?_, fun c mem => ?_⟩
      · simp [Notice.calmIn]
      · have mem : c = b ∨ c ∈ s.waitOrder := by
          rcases (mem_waitPlace _ b).mp mem with e | mem
          · exact .inl e
          · exact .inr (List.mem_filter.mp mem).1
        rcases mem with rfl | mem
        · exact (same c).trans recalled
        · exact orderSame c mem
  all_goals exact doneStep

/-- A raising leaves everything but the flags. -/
theorem CalmStep.raising {s t : State} (still : t.still = s.still) (clr : t.clr = s.clr)
    (order : t.waitOrder = s.waitOrder) (waits : ∀ b ∈ s.waitOrder, (s.clrAt b).state = .recalled) :
    CalmStep s (Machine.done t) := by
  have same (b : BayNo) : t.clrAt b = s.clrAt b := by simp only [State.clrAt, clr]
  refine ⟨still, fun b => .inl (congrArg Clr.state (same b)), fun _ mem => absurd mem List.not_mem_nil, fun b mem => ?_⟩
  rw [show (Machine.done t).1 = t from rfl, same]
  exact waits b (order ▸ mem)

theorem raiseFlag_still (s : State) (b : BayNo) (k : BayFlag) (r : Reason) (q : Bool) :
    (raiseFlag s b k r q).still = s.still := rfl

theorem raiseHallFlag_still (s : State) (k : HallFlag) (r : Reason) : (raiseHallFlag s k r).still = s.still := rfl

theorem handle_calm {s : State} (order : ∀ b ∈ s.waitOrder, (s.clrAt b).state = .recalled) {n : Notice}
    (calm : n.calmIn s) : CalmStep s (handle n s) := by
  obtain ⟨b, k, r, q, rfl⟩ | ⟨k, r, rfl⟩ | ⟨l, rfl⟩ | ⟨b, rfl⟩ | ⟨b, rfl⟩ := Notice.calmIn_cases calm
  · exact .raising (raiseFlag_still s b k r q) rfl rfl order
  · exact .raising (raiseHallFlag_still s k r) rfl rfl order
  · exact laneOffer_calm order l
  · exact clrOfferTo_calm order b
  · exact clrHolds_calm order calm

theorem Calm.taken {n : Notice} {ns : List Notice} {s : State} (h : Calm (n :: ns) s) :
    Calm ((handle n s).2 ++ ns) (handle n s).1 := by
  obtain ⟨-, change, notices, order⟩ := handle_calm h.order (h.notices n List.mem_cons_self)
  refine ⟨fun m mem => ?_, order⟩
  rcases List.mem_append.mp mem with mem | mem
  · exact notices m mem
  · exact calmIn_of_change change (h.notices m (List.mem_cons_of_mem _ mem))

/-- What every calm notice keeps, calm events keep. -/
theorem Calm.kept {Q : State → Prop} (taken : ∀ n s, (∀ b ∈ s.waitOrder, (s.clrAt b).state = .recalled) → n.calmIn s →
    Q s → Q (handle n s).1) (leftOver : ∀ s ns, Q s → Q { s with unfinished := ns }) :
    KeptByNotices (fun ns s => Calm ns s ∧ Q s) :=
  ⟨fun n _ s h => ⟨h.1.taken, taken n s h.1.order (h.1.notices n List.mem_cons_self) h.2⟩,
    fun _ s h => ⟨⟨fun _ mem => absurd mem List.not_mem_nil, h.1.order⟩, leftOver s _ h.2⟩⟩

theorem Calm.perform_still {r : Reaction} (h : Calm r.2 r.1) : (perform r).still = r.1.still :=
  ((Calm.kept (Q := fun s => s.still = r.1.still)
    (fun _ _ order calm still => (handle_calm order calm).still.trans still) (fun _ _ still => still)).perform
    ⟨h, rfl⟩).2

theorem Calm.perform_order {r : Reaction} (h : Calm r.2 r.1) :
    ∀ b ∈ (perform r).waitOrder, ((perform r).clrAt b).state = .recalled :=
  ((Calm.kept (Q := fun _ => True) (fun _ _ _ _ _ => trivial) (fun _ _ _ => trivial)).perform ⟨h, trivial⟩).1.order

theorem CalmChange.trans {s t u : State} (h : CalmChange s t) (h' : CalmChange t u) : CalmChange s u := by
  intro b
  rcases h' b with e | e | e
  · rw [e]; exact h b
  · exact .inr (.inl e)
  · exact .inr (.inr e)

theorem Calm.perform_change {r : Reaction} (h : Calm r.2 r.1) : CalmChange r.1 (perform r) :=
  ((Calm.kept (Q := fun s => CalmChange r.1 s) (fun _ _ order calm change => change.trans (handle_calm order calm).change)
    (fun _ _ change => change)).perform ⟨h, fun _ => .inl rfl⟩).2

end Sys2Proof.Machine
end

section
/-! What each block stands at after a RESTART (R33, R38, R77, R110, R120, R141, R189). -/

namespace Sys2Proof.Machine

/-! ### The steps that move clearances and hold sets -/

/-- Only RECALLED bays wait. -/
def State.RecalledWait (s : State) : Prop := ∀ b ∈ s.waitOrder, (s.clrAt b).state = .recalled

/-- A state with everything blanked that the steps of a RESTART write which move clearances, hold sets and flags. -/
def State.blocks (s : State) : State := { s.still with clr := State.reset.clr, dpm := State.reset.dpm }

theorem eq_of_blocks {α : Type} (get : State → α) (unwritten : ∀ s, get s.blocks = get s) {s t : State}
    (h : t.blocks = s.blocks) : get t = get s := by rw [← unwritten t, h, unwritten]

theorem blocks_of_still {s t : State} (h : t.still = s.still) : t.blocks = s.blocks := by
  simp only [State.blocks, h]

theorem modClr_blocks (s : State) (b : BayNo) (f : Clr → Clr) : (s.modClr b f).blocks = s.blocks := rfl

theorem restartOrder_recalled (s : State) : (restartOrder s).RecalledWait := by
  intro b mem
  have kept : ((s.clrAt b).state == .recalled) = true := (List.mem_filter.mp mem).2
  exact eq_of_beq kept

theorem modClr_recalled {s : State} (h : s.RecalledWait) (b : BayNo) {f : Clr → Clr}
    (same : (f (s.clrAt b)).state = (s.clrAt b).state) : (s.modClr b f).RecalledWait := by
  intro c mem
  by_cases e : c = b
  · subst e; rw [State.modClr_clrAt_same, same]; exact h c mem
  · rw [State.modClr_clrAt_ne _ _ e]; exact h c mem

theorem laneReleaseOf_calm {s : State} (h : s.RecalledWait) (b : BayNo) :
    Calm (laneReleaseOf b s).2 (laneReleaseOf b s).1 :=
  ⟨laneReleaseOf_notices b s _, fun c mem => by
    rw [laneReleaseOf_waitOrder] at mem; rw [laneReleaseOf_clrAt]; exact h c mem⟩

/-- The state in which step 4 releases a CLEARING bay's lane. -/
def restartUnclear (b : BayNo) (s : State) : State :=
  s.modClr b (fun c => { c with plugTimer := none, openWait := none, openRequest := false })

theorem restartUnclear_recalled {s : State} (h : s.RecalledWait) (b : BayNo) : (restartUnclear b s).RecalledWait :=
  modClr_recalled h b rfl

theorem restartClearing_recalled (b : BayNo) (s : State) (h : s.RecalledWait) : (restartClearing b s).RecalledWait := by
  unfold restartClearing
  split
  · exact (laneReleaseOf_calm (restartUnclear_recalled h b) b).perform_order
  · exact h

theorem restartClearing_blocks {s : State} (h : s.RecalledWait) (b : BayNo) :
    (restartClearing b s).blocks = s.blocks := by
  unfold restartClearing
  split
  · exact (blocks_of_still (laneReleaseOf_calm (restartUnclear_recalled h b) b).perform_still).trans
      ((blocks_of_still (laneReleaseOf_still b _)).trans (modClr_blocks s b _))
  · rfl

theorem ClearState.calm_of_isOut {st : ClearState} (h : st.isOut = true) : st.calm = true := by
  cases st <;> simp_all [ClearState.isOut, ClearState.calm]

theorem clearState_calm (f : Bfe) : f.clearState.calm = true := by
  unfold Bfe.clearState
  split
  · rfl
  · split <;> rfl

theorem restartClearance_clrState (b : BayNo) (s : State) : ((restartClearance b s).clrAt b).state =
    if (s.clrAt b).state.isOut then (s.clrAt b).state
    else if (s.bfeAt b).enabled then (s.bfeAt b).clearState else .outOfService := by
  unfold restartClearance
  dsimp only
  split
  · simp
  · simp

theorem restartClearance_clrAt_other {b c : BayNo} (s : State) (h : c ≠ b) :
    (restartClearance b s).clrAt c = s.clrAt c := by
  unfold restartClearance
  dsimp only
  split
  · simp [h]
  · simp [h, State.setClear]

theorem restartClearance_waitOrder (b : BayNo) (s : State) : (restartClearance b s).waitOrder = s.waitOrder := by
  unfold restartClearance
  dsimp only
  split <;> rfl

theorem restartClearance_blocks (b : BayNo) (s : State) : (restartClearance b s).blocks = s.blocks := by
  unfold restartClearance
  dsimp only
  split
  · rfl
  · rw [blocks_of_still (setClear_still _ _ _)]; rfl

theorem restartClearance_calm (b : BayNo) (s : State) : ((restartClearance b s).clrAt b).state.calm = true := by
  rw [restartClearance_clrState]
  split
  case isTrue out => exact ClearState.calm_of_isOut out
  · split
    · exact clearState_calm _
    · rfl

theorem restartClearance_recalled (b : BayNo) (s : State) (h : s.RecalledWait) :
    (restartClearance b s).RecalledWait := by
  intro c mem
  rw [restartClearance_waitOrder] at mem
  by_cases e : c = b
  · subst e; rw [restartClearance_clrState, h c mem]; rfl
  · rw [restartClearance_clrAt_other s e]; exact h c mem

/-- The restart up to step 3: what it sets before it moves clearances. -/
def restartCore (s : State) : State :=
  forBays restartField (restartHall (forBays restartSession (forBays restartLink s)))

/-- The restart up to the lane releases of step 4. -/
def restartReleased (s : State) : State := forBays restartClearing (restartOrder (restartCore s))

theorem restartBlocks_eq (s : State) : restartBlocks s = forBays restartClearance (restartReleased s) := rfl

/-- The lane releases of a RESTART keep the blocks, and only RECALLED bays wait after them. -/
theorem forBays_restartClearing {s : State} (h : s.RecalledWait) :
    (forBays restartClearing s).RecalledWait ∧ (forBays restartClearing s).blocks = s.blocks :=
  forBays_preserves (P := fun t => t.RecalledWait ∧ t.blocks = s.blocks)
    (fun b t ht => ⟨restartClearing_recalled b t ht.1, (restartClearing_blocks ht.1 b).trans ht.2⟩) ⟨h, rfl⟩

/-- So do the clearance states set from the sensors. -/
theorem forBays_restartClearance {s : State} (h : s.RecalledWait) :
    (forBays restartClearance s).RecalledWait ∧ (forBays restartClearance s).blocks = s.blocks :=
  forBays_preserves (P := fun t => t.RecalledWait ∧ t.blocks = s.blocks)
    (fun b t ht => ⟨restartClearance_recalled b t ht.1, (restartClearance_blocks b t).trans ht.2⟩) ⟨h, rfl⟩

theorem restartOrder_blocks (s : State) : (restartOrder s).blocks = s.blocks := rfl

theorem restartReleased_calm (s : State) :
    (restartReleased s).RecalledWait ∧ (restartReleased s).blocks = (restartCore s).blocks := by
  obtain ⟨order, blocks⟩ := forBays_restartClearing (restartOrder_recalled (restartCore s))
  exact ⟨order, blocks.trans (restartOrder_blocks _)⟩

theorem restartBlocks_calm (s : State) :
    (restartBlocks s).RecalledWait ∧ (restartBlocks s).blocks = (restartCore s).blocks := by
  obtain ⟨order, blocks⟩ := restartReleased_calm s
  obtain ⟨order', blocks'⟩ := forBays_restartClearance order
  exact ⟨order', blocks'.trans blocks⟩

theorem restartBlocks_clrCalm (s : State) (b : BayNo) : ((restartBlocks s).clrAt b).state.calm = true :=
  forBays_each (P := fun _ => True) (Q := fun t c => (t.clrAt c).state.calm = true) (fun _ _ _ => trivial)
    (fun b t _ => restartClearance_calm b t)
    (fun b c t _ calm => by
      by_cases e : c = b
      · subst e; exact restartClearance_calm c t
      · rw [restartClearance_clrAt_other t e]; exact calm)
    trivial b

/-- The state in which step 7 derives a bay's hold set. -/
def restartReported (b : BayNo) (s : State) : State :=
  s.modDpm b (fun d => { d with
    conditions := s.conditionsNow b, reliance := false, frozen := d.frozen && (s.clrAt b).state.isOut
    frozenSet := if (s.clrAt b).state.isOut then d.frozenSet else .none })

theorem restartHolds_eq (b : BayNo) (s : State) : restartHolds b s = perform (rederive b (restartReported b s)) := rfl

theorem rederive_clr (b : BayNo) (s : State) : (rederive b s).1.clr = s.clr ∧ (rederive b s).1.waitOrder = s.waitOrder := by
  unfold rederive
  dsimp only
  split <;> exact ⟨rfl, rfl⟩

theorem rederive_calm {s : State} (order : s.RecalledWait) {b : BayNo} (calm : (s.clrAt b).state.calm = true) :
    Calm (rederive b s).2 (rederive b s).1 := by
  obtain ⟨clr, wait⟩ := rederive_clr b s
  have same (c : BayNo) : (rederive b s).1.clrAt c = s.clrAt c := by simp only [State.clrAt, clr]
  refine ⟨fun n mem => ?_, fun c mem => ?_⟩
  · unfold rederive at mem
    dsimp only at mem
    split at mem
    · exact absurd mem List.not_mem_nil
    · rcases List.mem_cons.mp mem with rfl | mem
      · show ((rederive b s).1.clrAt b).state.calm = true
        rw [same]; exact calm
      · rw [List.mem_singleton.mp mem]; exact .inl rfl
  · rw [same]; exact order c (wait ▸ mem)

theorem rederive_blocks (b : BayNo) (s : State) : (rederive b s).1.blocks = s.blocks := by
  unfold rederive
  dsimp only
  split <;> rfl

/-- Steps 7 and 8 keep the blocks and the calm. -/
structure Calmed (u s : State) : Prop where
  order : s.RecalledWait
  calm : ∀ b, (s.clrAt b).state.calm = true
  blocks : s.blocks = u

theorem Calmed.reported {u s : State} (h : Calmed u s) (b : BayNo) :
    Calm (rederive b (restartReported b s)).2 (rederive b (restartReported b s)).1 := by
  have order : (restartReported b s).RecalledWait := h.order
  exact rederive_calm order (h.calm b)

theorem Calmed.restartHolds {u s : State} (b : BayNo) (h : Calmed u s) : Calmed u (restartHolds b s) := by
  have calm := h.reported b
  refine ⟨calm.perform_order, fun c => ?_, ?_⟩
  · have same : ((rederive b (restartReported b s)).1.clrAt c).state = (s.clrAt c).state := by
      simp only [State.clrAt, (rederive_clr b _).1]; rfl
    rcases calm.perform_change c with e | e | e
    · exact (congrArg ClearState.calm (e.trans same)).trans (h.calm c)
    · exact congrArg ClearState.calm e
    · exact congrArg ClearState.calm e
  · exact (blocks_of_still calm.perform_still).trans ((rederive_blocks b _).trans h.blocks)

/-! ### Docking and flags -/

theorem restartDocking_clr (b : BayNo) (s : State) :
    (restartDocking b s).clr = s.clr ∧ (restartDocking b s).waitOrder = s.waitOrder := by
  unfold restartDocking
  split <;> exact ⟨rfl, rfl⟩

/-- RESTART up to step 5. -/
def restartDocked (s : State) : State := forBays restartDocking (restartBlocks s)

theorem restartDocked_clr (s : State) :
    (restartDocked s).clr = (restartBlocks s).clr ∧ (restartDocked s).waitOrder = (restartBlocks s).waitOrder :=
  ⟨forBays_keeps State.clr (fun b t => (restartDocking_clr b t).1) _,
    forBays_keeps State.waitOrder (fun b t => (restartDocking_clr b t).2) _⟩

/-- Two states alike in the blocks, in the clearances and in the wait order. -/
def SameBlocks (s t : State) : Prop := t.blocks = s.blocks ∧ t.clr = s.clr ∧ t.waitOrder = s.waitOrder

theorem SameBlocks.trans {s t u : State} (h : SameBlocks s t) (h' : SameBlocks t u) : SameBlocks s u :=
  ⟨h'.1.trans h.1, h'.2.1.trans h.2.1, h'.2.2.trans h.2.2⟩

theorem raiseFlag_same_blocks (s : State) (b : BayNo) (k : BayFlag) (r : Reason) (q : Bool) :
    SameBlocks s (raiseFlag s b k r q) := ⟨blocks_of_still (raiseFlag_still s b k r q), rfl, rfl⟩

theorem raiseHallFlag_same_blocks (s : State) (k : HallFlag) (r : Reason) : SameBlocks s (raiseHallFlag s k r) :=
  ⟨blocks_of_still (raiseHallFlag_still s k r), rfl, rfl⟩

theorem restartFlags_same_blocks (b : BayNo) (s : State) : SameBlocks s (restartFlags b s) := by
  have first : SameBlocks s (if (s.bfeAt b).conflict then raiseFlag s b .sensor .plain false else s) := by
    split
    · exact raiseFlag_same_blocks ..
    · exact ⟨rfl, rfl, rfl⟩
  unfold restartFlags
  dsimp only
  generalize (if (s.bfeAt b).conflict then raiseFlag s b .sensor .plain false else s) = t at first
  split
  · exact first.trans (raiseFlag_same_blocks t b _ _ _)
  · exact first

/-- Every flag cleared. -/
def State.unflagged (s : State) : State :=
  { s with flags := Vector.replicate 16 (Vector.replicate 13 .clear), hallFlags := Vector.replicate 7 .clear }

theorem unflagged_same_blocks (s : State) : SameBlocks s s.unflagged := ⟨rfl, rfl, rfl⟩

/-- The state in which step 6 raises the bays' condition flags. -/
def State.hallFlagged (s : State) : State :=
  if (raiseHallFlag s.unflagged .reset (.reset true)).clock.isSet then raiseHallFlag s.unflagged .reset (.reset true)
  else raiseHallFlag (raiseHallFlag s.unflagged .reset (.reset true)) .clockUnset .plain

theorem restartAllFlags_eq (s : State) : restartAllFlags s = forBays restartFlags s.hallFlagged := rfl

theorem hallFlagged_same_blocks (s : State) : SameBlocks s s.hallFlagged := by
  have reset := (unflagged_same_blocks s).trans (raiseHallFlag_same_blocks s.unflagged .reset (.reset true))
  unfold State.hallFlagged
  split
  · exact reset
  · exact reset.trans (raiseHallFlag_same_blocks ..)

theorem restartAllFlags_frame (s : State) : SameBlocks s (restartAllFlags s) := by
  rw [restartAllFlags_eq]
  exact forBays_preserves (P := SameBlocks s) (fun b t h => h.trans (restartFlags_same_blocks b t))
    (hallFlagged_same_blocks s)

theorem restartAllFlags_calmed (s : State) :
    Calmed (restartDocked s).blocks (restartAllFlags (restartDocked s)) := by
  obtain ⟨blocks, clr, wait⟩ := restartAllFlags_frame (restartDocked s)
  obtain ⟨clr', wait'⟩ := restartDocked_clr s
  have same (b : BayNo) : (restartAllFlags (restartDocked s)).clrAt b = (restartBlocks s).clrAt b := by
    simp only [State.clrAt, clr, clr']
  refine ⟨fun b mem => ?_, fun b => ?_, blocks⟩
  · rw [same]; exact (restartBlocks_calm s).1 b (wait' ▸ wait ▸ mem)
  · rw [same]; exact restartBlocks_clrCalm s b

/-- RESTART before ATTN is evaluated at its end. -/
def restartHeld (s : State) : State := forBays restartHolds (restartAllFlags (restartDocked s))

theorem restarted_eq (s : State) : restarted s = (restartHeld s).reattend := rfl

theorem restartHeld_calmed (s : State) : Calmed (restartDocked s).blocks (restartHeld s) :=
  forBays_preserves (fun b _ h => h.restartHolds b) (restartAllFlags_calmed s)

theorem reattend_blocks (s : State) : s.reattend.blocks = s.blocks := rfl

theorem restarted_blocks (s : State) : (restarted s).blocks = (restartDocked s).blocks := by
  rw [restarted_eq, reattend_blocks]; exact (restartHeld_calmed s).blocks

/-! ### Each block after a RESTART -/

/-- What stands after step 3 and what neither the steps on clearances nor the docking starts write stands at the end. -/
theorem restarted_read {α : Type} (get : State → α) (unwritten : ∀ s, get s.blocks = get s)
    (docking : ∀ b s, get (restartDocking b s) = get s) (s : State) : get (restarted s) = get (restartCore s) := by
  rw [eq_of_blocks get unwritten (restarted_blocks s), restartDocked, forBays_keeps get docking,
    eq_of_blocks get unwritten (restartBlocks_calm s).2]

section
variable (s : State) (b : BayNo)

theorem restartDocking_row : (restartDocking b s).row = s.row := by unfold restartDocking; split <;> rfl
theorem restartDocking_lcs : (restartDocking b s).lcs = s.lcs := by unfold restartDocking; split <;> rfl
theorem restartDocking_frd : (restartDocking b s).frd = s.frd := by unfold restartDocking; split <;> rfl
theorem restartDocking_hpl : (restartDocking b s).hpl = s.hpl := by unfold restartDocking; split <;> rfl
theorem restartDocking_bfe : (restartDocking b s).bfe = s.bfe := by unfold restartDocking; split <;> rfl
theorem restartDocking_feeder : (restartDocking b s).feeder = s.feeder := by unfold restartDocking; split <;> rfl
theorem restartDocking_channels : (restartDocking b s).channels = s.channels := by unfold restartDocking; split <;> rfl
theorem restartDocking_channelQueue : (restartDocking b s).channelQueue = s.channelQueue := by
  unfold restartDocking; split <;> rfl

theorem restarted_row : (restarted s).row = (restartCore s).row :=
  restarted_read State.row (fun _ => rfl) (fun b s => restartDocking_row s b) s
theorem restarted_lcs : (restarted s).lcs = (restartCore s).lcs :=
  restarted_read State.lcs (fun _ => rfl) (fun b s => restartDocking_lcs s b) s
theorem restarted_frd : (restarted s).frd = (restartCore s).frd :=
  restarted_read State.frd (fun _ => rfl) (fun b s => restartDocking_frd s b) s
theorem restarted_hpl : (restarted s).hpl = (restartCore s).hpl :=
  restarted_read State.hpl (fun _ => rfl) (fun b s => restartDocking_hpl s b) s
theorem restarted_feeder : (restarted s).feeder = (restartCore s).feeder :=
  restarted_read State.feeder (fun _ => rfl) (fun b s => restartDocking_feeder s b) s
theorem restarted_channels : (restarted s).channels = (restartCore s).channels :=
  restarted_read State.channels (fun _ => rfl) (fun b s => restartDocking_channels s b) s
theorem restarted_channelQueue : (restarted s).channelQueue = (restartCore s).channelQueue :=
  restarted_read State.channelQueue (fun _ => rfl) (fun b s => restartDocking_channelQueue s b) s

theorem restarted_departures : (restarted s).departures = (restartCore s).departures :=
  restarted_read State.departures (fun _ => rfl) (fun b s => by unfold restartDocking; split <;> rfl) s

/-- A bay's field unit but for its aspect. -/
def State.unlit (s : State) (b : BayNo) : Bfe := { s.bfeAt b with aspect := .dark }

theorem unlit_blocks (s : State) : s.blocks.unlit = s.unlit := by
  funext b
  have read : s.blocks.bfeAt b = { s.bfeAt b with aspect := .dark } := bayAt_map s.bfe _ b
  simp only [State.unlit, read]

theorem restarted_unlit : (restarted s).unlit = (restartCore s).unlit :=
  restarted_read State.unlit unlit_blocks
    (fun b s => by funext c; simp only [State.unlit, State.bfeAt, restartDocking_bfe]) s

/-! ### Up to step 3 -/

theorem restartField_dkuAt (c : BayNo) : (forBays restartField s).dkuAt c = Dku.reset :=
  forBays_at (fun t c => t.dkuAt c) (g := fun _ _ => Dku.reset) (fun b t => by simp [restartField])
    (fun b c t other => by simp [restartField, other]) s c

theorem restartField_bfeAt (c : BayNo) : (forBays restartField s).bfeAt c =
    { s.bfeAt c with tripped := false, overdraw := none, contactor := false, latch := false } :=
  forBays_at (fun t c => t.bfeAt c)
    (g := fun _ f => { f with tripped := false, overdraw := none, contactor := false, latch := false })
    (fun b t => by simp [restartField]) (fun b c t other => by simp [restartField, other]) s c

theorem restartSession_bfe : (restartSession b s).bfe = s.bfe := rfl
theorem restartSession_feeder : (restartSession b s).feeder = s.feeder := rfl
theorem restartSession_settings : (restartSession b s).settings = s.settings := rfl
theorem restartHall_bfe : (restartHall s).bfe = s.bfe := rfl
theorem restartHall_lcs : (restartHall s).lcs = s.lcs := rfl
theorem restartHall_frd : (restartHall s).frd = s.frd := rfl
theorem restartHall_hpl : (restartHall s).hpl = s.hpl := rfl
theorem restartHall_row : (restartHall s).row = s.row := rfl
theorem restartHall_channels : (restartHall s).channels = Vector.replicate 4 none := rfl
theorem restartHall_channelQueue : (restartHall s).channelQueue = [] := rfl
theorem restartField_lcs : (restartField b s).lcs = s.lcs := rfl
theorem restartField_frd : (restartField b s).frd = s.frd := rfl
theorem restartField_hpl : (restartField b s).hpl = s.hpl := rfl
theorem restartField_row : (restartField b s).row = s.row := rfl
theorem restartField_feeder : (restartField b s).feeder = s.feeder := rfl
theorem restartField_channels : (restartField b s).channels = s.channels := rfl
theorem restartField_channelQueue : (restartField b s).channelQueue = s.channelQueue := rfl
theorem restartLink_feeder : (restartLink b s).feeder = s.feeder := by unfold restartLink; split <;> rfl
theorem restartLink_settings : (restartLink b s).settings = s.settings := by unfold restartLink; split <;> rfl
theorem restartLink_bfe : (restartLink b s).bfe = s.bfe := by unfold restartLink; split <;> rfl

theorem restartCore_dkuAt : (restartCore s).dkuAt b = Dku.reset := restartField_dkuAt _ b

theorem restartCore_bfeAt : (restartCore s).bfeAt b =
    { s.bfeAt b with tripped := false, overdraw := none, contactor := false, latch := false } := by
  have same : (restartHall (forBays restartSession (forBays restartLink s))).bfe = s.bfe := by
    rw [restartHall_bfe, forBays_keeps State.bfe (fun b t => restartSession_bfe t b),
      forBays_keeps State.bfe (fun b t => restartLink_bfe t b)]
  unfold restartCore
  rw [restartField_bfeAt]
  simp only [State.bfeAt, same]

/-- A bay's field unit after a RESTART, but for the aspect. -/
theorem restarted_bfeAt : { (restarted s).bfeAt b with aspect := .dark } =
    ({ s.bfeAt b with
      tripped := false, overdraw := none, contactor := false, latch := false, aspect := .dark } : Bfe) := by
  have read := congrFun (restarted_unlit s) b
  unfold State.unlit at read
  rw [read, restartCore_bfeAt]

/-- A session's records after step 2. -/
theorem restartSession_at (c : BayNo) : ((forBays restartSession s).lcsAt c, (forBays restartSession s).frdAt c,
    (forBays restartSession s).hplAt c, (forBays restartSession s).rowAt c) =
    (Lcs.reset, Frd.reset, Hpl.reset, { (s.rowAt c).emptied with quiet := false, inFlight := false }) :=
  forBays_at (fun t c => (t.lcsAt c, t.frdAt c, t.hplAt c, t.rowAt c))
    (g := fun _ x => (Lcs.reset, Frd.reset, Hpl.reset, { x.2.2.2.emptied with quiet := false, inFlight := false }))
    (fun b t => by simp [restartSession]) (fun b c t other => by simp [restartSession, other]) s c

theorem restartCore_lcsAt : (restartCore s).lcsAt b = Lcs.reset := by
  have kept : (restartCore s).lcs = (forBays restartSession (forBays restartLink s)).lcs :=
    (forBays_keeps State.lcs (fun b t => restartField_lcs t b) _).trans (restartHall_lcs _)
  have := restartSession_at (forBays restartLink s) b
  simp only [Prod.mk.injEq] at this
  rw [State.lcsAt, kept]; exact this.1

theorem restartCore_frdAt : (restartCore s).frdAt b = Frd.reset := by
  have kept : (restartCore s).frd = (forBays restartSession (forBays restartLink s)).frd :=
    (forBays_keeps State.frd (fun b t => restartField_frd t b) _).trans (restartHall_frd _)
  have := restartSession_at (forBays restartLink s) b
  simp only [Prod.mk.injEq] at this
  rw [State.frdAt, kept]; exact this.2.1

theorem restartCore_hplAt : (restartCore s).hplAt b = Hpl.reset := by
  have kept : (restartCore s).hpl = (forBays restartSession (forBays restartLink s)).hpl :=
    (forBays_keeps State.hpl (fun b t => restartField_hpl t b) _).trans (restartHall_hpl _)
  have := restartSession_at (forBays restartLink s) b
  simp only [Prod.mk.injEq] at this
  rw [State.hplAt, kept]; exact this.2.2.1

theorem restartCore_rowAt : (restartCore s).rowAt b =
    { ((forBays restartLink s).rowAt b).emptied with quiet := false, inFlight := false } := by
  have kept : (restartCore s).row = (forBays restartSession (forBays restartLink s)).row :=
    (forBays_keeps State.row (fun b t => restartField_row t b) _).trans (restartHall_row _)
  have := restartSession_at (forBays restartLink s) b
  simp only [Prod.mk.injEq] at this
  rw [State.rowAt, kept]; exact this.2.2.2

theorem restartCore_feeder : (restartCore s).feeder = { s.feeder with
    stageUp := none, gateOpen := s.feeder.ramp.isNone, base := s.baseBudget s.feeder.plugged
    budget := s.heatBudget (s.baseBudget s.feeder.plugged) } := by
  have session : (forBays restartSession (forBays restartLink s)).feeder = s.feeder ∧
      (forBays restartSession (forBays restartLink s)).settings = s.settings := by
    rw [forBays_keeps State.feeder (fun b t => restartSession_feeder t b),
      forBays_keeps State.feeder (fun b t => restartLink_feeder t b),
      forBays_keeps State.settings (fun b t => restartSession_settings t b),
      forBays_keeps State.settings (fun b t => restartLink_settings t b)]
    exact ⟨rfl, rfl⟩
  have field : (restartCore s).feeder = (restartHall (forBays restartSession (forBays restartLink s))).feeder :=
    forBays_keeps State.feeder (fun b t => restartField_feeder t b) _
  rw [field]
  unfold restartHall
  dsimp only [State.modFeeder]
  unfold State.baseBudget State.heatBudget
  simp only [session.1, State.setting, session.2]

theorem restartCore_channels : (restartCore s).channels = Vector.replicate 4 none :=
  (forBays_keeps State.channels (fun b t => restartField_channels t b) _).trans (restartHall_channels _)

theorem restartCore_channelQueue : (restartCore s).channelQueue = [] :=
  (forBays_keeps State.channelQueue (fun b t => restartField_channelQueue t b) _).trans (restartHall_channelQueue _)

/-! ### Docking after a RESTART -/

theorem restarted_dku : (restarted s).dku = (restartDocked s).dku :=
  eq_of_blocks State.dku (fun _ => rfl) (restarted_blocks s)

theorem restarted_clc : (restarted s).clc = (restartDocked s).clc :=
  eq_of_blocks State.clc (fun _ => rfl) (restarted_blocks s)

/-- No bay is DOCKED after a RESTART. -/
theorem restarted_notDocked : ((restarted s).dkuAt b).state ≠ .docked := by
  have before (c : BayNo) : ((restartBlocks s).dkuAt c).state ≠ .docked := by
    have same : (restartBlocks s).dku = (restartCore s).dku := eq_of_blocks State.dku (fun _ => rfl) (restartBlocks_calm s).2
    rw [State.dkuAt, same]
    show ((restartCore s).dkuAt c).state ≠ .docked
    rw [restartCore_dkuAt]; decide
  rw [State.dkuAt, restarted_dku]
  refine forBays_preserves (P := fun t => ∀ c, (t.dkuAt c).state ≠ .docked) (fun b t h c => ?_) before b
  unfold restartDocking
  split
  · by_cases e : c = b
    · subst e; simp [dkuSubmit, Machine.done]
    · simp [dkuSubmit, Machine.done, e]; exact h c
  · exact h c

theorem contactor_of_unlit {f g : Bfe} (h : { f with aspect := .dark } = ({ g with
    tripped := false, overdraw := none, contactor := false, latch := false, aspect := .dark } : Bfe)) :
    f.contactor = false ∧ f.latch = false ∧ f.tripped = false ∧ f.overdraw = none := by
  simp only [Bfe.mk.injEq] at h
  obtain ⟨-, -, -, -, -, -, -, contactor, latch, tripped, overdraw, -⟩ := h
  exact ⟨contactor, latch, tripped, overdraw⟩

theorem restarted_contactor : ((restarted s).bfeAt b).contactor = false ∧ ((restarted s).bfeAt b).latch = false ∧
    ((restarted s).bfeAt b).tripped = false ∧ ((restarted s).bfeAt b).overdraw = none :=
  contactor_of_unlit (restarted_bfeAt s b)

end

end Sys2Proof.Machine
end

section
/-! O6 (R7, R8). The latch moves with the contactor alone. The contactor is tested by the BFE on the notice `contactor`;
every change of one of its five conditions hands that notice on, so between events no bay's test is owed but one that an
event has left over. -/

namespace Sys2Proof.Machine

/-! ### The latch -/

theorem latchFollows_of_bfe {s t : State} (h : t.bfe = s.bfe) (hs : s.LatchFollows) : t.LatchFollows := by
  intro b; simp only [State.bfeAt, h]; exact hs b

theorem Acts.lines {s : State} {k : Writer} {r : Reaction} (h : Acts s k r) : r.1.lines = s.lines := by
  by_cases clearance : k = .clearance
  · cases h with
    | openWait b => exact clrOpenWaitExpired_lines b s
    | plugTimer b => exact clrPlugExpired_lines b s
    | laneTimer l => exact laneExpired_lines l s
    | passage l => exact passagePulse_lines l s
    | closeLane l => unfold Machine.closeLane; split <;> simp [Machine.done]
    | openLane l => unfold Machine.openLane; split <;> simp [Machine.done]
    | _ => exact absurd clearance nofun
  · have field : k ≠ .field := by rintro rfl; cases h
    have same : r.1.bfe = s.bfe :=
      eq_of_outside State.bfe (fun _ => by cases k <;> first | rfl | exact absurd rfl clearance | exact absurd rfl field)
        h.outside
    funext b; simp only [State.lines, State.bfeAt, same]

theorem steady_lines {f g : Bfe} (h : g.steady = f.steady) :
    g.enabled = f.enabled ∧ g.plug = f.plug ∧ g.tripped = f.tripped ∧ g.contactor = f.contactor ∧ g.latch = f.latch := by
  simp only [Bfe.steady, Bfe.mk.injEq] at h
  obtain ⟨enabled, -, -, -, plug, -, -, contactor, latch, tripped, -⟩ := h
  exact ⟨enabled, plug, tripped, contactor, latch⟩

theorem lines_modBfe {s : State} {b : BayNo} {f : Bfe → Bfe} (h : (f (s.bfeAt b)).steady = (s.bfeAt b).steady) :
    (s.modBfe b f).lines = s.lines := by
  obtain ⟨enabled, plug, tripped, contactor, latch⟩ := steady_lines h
  funext c
  by_cases same : c = b
  · subst same; simp [State.lines, enabled, plug, tripped, contactor, latch]
  · simp [State.lines, same]

theorem tickBay_lines (b : BayNo) (s : State) : (tickBay b s).lines = s.lines := by
  funext c
  by_cases same : c = b
  · subst same; simp [State.lines, tickBay, Bfe.tick]
  · simp [State.lines, tickBay, same]

theorem tickTimers_lines (s : State) : (tickTimers s).lines = s.lines := by
  unfold tickTimers
  rw [State.modLane_lines, State.modLane_lines]
  exact forBays_keeps State.lines tickBay_lines s

theorem latchFollows_modBfe_other {s : State} (h : s.LatchFollows) {b : BayNo} (f : Bfe → Bfe) :
    ∀ c, c ≠ b → ((s.modBfe b f).bfeAt c).LatchFollows := fun c other => by
  rw [State.modBfe_bfeAt_ne _ _ other]; exact h c

/-- An event on a bay whose contactor is tested first, or is open. -/
theorem perform_bay_latch {s : State} (h : s.LatchFollows) {b : BayNo} {f : Bfe → Bfe} {ns : List Notice}
    (same : (f (s.bfeAt b)).latch = (s.bfeAt b).latch ∧ (f (s.bfeAt b)).contactor = (s.bfeAt b).contactor)
    (tested : (s.bfeAt b).contactor = true → ∃ rest, ns = .contactor b :: rest) :
    (perform (s.modBfe b f, ns)).LatchFollows := by
  obtain ⟨latch, contactor⟩ := same
  have follows : ((s.modBfe b f).bfeAt b).latch = ((s.modBfe b f).bfeAt b).contactor := by
    rw [State.modBfe_bfeAt_same, latch, contactor]; exact (h b).1
  by_cases closed : (s.bfeAt b).contactor = true
  · obtain ⟨rest, rfl⟩ := tested closed
    exact perform_contactor_latch b rest _ follows (latchFollows_modBfe_other h f)
  · refine perform_latch fun c => ?_
    by_cases e : c = b
    · subst e
      refine ⟨follows, fun now => absurd ?_ closed⟩
      rw [← contactor, ← State.modBfe_bfeAt_same s c f]; exact now
    · exact latchFollows_modBfe_other h f c e

theorem Begins.latch {part : Held} {s : State} {r : Reaction} (begun : Begins s part r)
    (h : s.LatchFollows) : (perform r).LatchFollows := by
  cases begun with
  | acts acted => exact perform_latch (latch_of_lines acted.lines h)
  | plug b =>
    refine perform_bay_latch h (f := fun f => { f with plug := !f.plug, plugTimer := none }) ⟨rfl, rfl⟩ fun closed => ?_
    obtain ⟨enabled, plug, -⟩ := (h b).2 closed
    rw [if_pos plug]
    exact ⟨_, if_pos enabled⟩
  | trip b =>
    exact perform_bay_latch h (f := fun f => { f with tripped := true, overdraw := none }) ⟨rfl, rfl⟩ fun _ => ⟨_, rfl⟩
  | enable b disabled =>
    exact perform_bay_latch h (f := fun f => { f with enabled := true }) ⟨rfl, rfl⟩ fun _ => ⟨_, rfl⟩
  | disable b free =>
    exact perform_bay_latch h (f := fun f => { f with enabled := false, tripped := false, overdraw := none }) ⟨rfl, rfl⟩
      fun _ => ⟨_, rfl⟩
  | _ => exact perform_latch h

theorem poweredOn_contactor (s : State) (b : BayNo) :
    ((poweredOn s).bfeAt b).contactor = false ∧ ((poweredOn s).bfeAt b).latch = false := by
  have read := forBays_at (fun t c => t.bfeAt c) (f := fun b t => t.modBfe b (fun _ => (s.bfeAt b).poweredOn))
    (g := fun c _ => (s.bfeAt c).poweredOn) (fun b t => by simp) (fun b c t other => by simp [other])
    { State.reset with hallInputs := s.hallInputs.poweredOn, pending := s.pending } b
  have read : (poweredOn s).bfeAt b = (s.bfeAt b).poweredOn := read
  rw [read]; exact ⟨rfl, rfl⟩

theorem latchFollows_of_open {s : State} (h : ∀ b, (s.bfeAt b).contactor = false ∧ (s.bfeAt b).latch = false) :
    s.LatchFollows := by
  intro b
  rw [(h b).1, (h b).2]
  exact ⟨rfl, nofun⟩

theorem fetched_bfe (s : State) : s.fetched.bfe = s.bfe := rfl

theorem latchFollows_kept : KeptByMoves State.LatchFollows where
  event begun := begun.latch
  carriedOn _ h := perform_latch h
  timers s := latch_of_lines (tickTimers_lines s)
  senses _ _ _ only := latch_of_lines (lines_modBfe only)
  inputs _ _ h := h
  queue _ _ h := h
  reply _ _ _ h := h
  receiver _ _ _ h := h
  freed _ _ h := h
  raisesHall _ _ _ h := h
  fetched s := latchFollows_of_bfe (fetched_bfe s)
  masked _ _ h := h
  restarted s _ := latchFollows_of_open fun b => ⟨(restarted_contactor s b).1, (restarted_contactor s b).2.1⟩
  poweredOn s := latchFollows_of_open (poweredOn_contactor s)

/-! ### What the contactor follows -/

/-- A bay's contactor as it stands and as its five conditions want it (R7). -/
def State.contactorView (s : State) (b : BayNo) : Bool × Bool := ((s.bfeAt b).contactor, s.contactorWanted b)

theorem contactorView_ext {s t : State} {b : BayNo} (lines : t.lines b = s.lines b)
    (docked : (t.dkuAt b).state = .docked ↔ (s.dkuAt b).state = .docked)
    (request : (t.clrAt b).openRequest = (s.clrAt b).openRequest) : t.contactorView b = s.contactorView b := by
  simp only [State.lines, Prod.mk.injEq] at lines
  obtain ⟨enabled, plug, tripped, contactor, -⟩ := lines
  have docked : ((t.dkuAt b).state == .docked) = ((s.dkuAt b).state == .docked) := by
    rw [Bool.eq_iff_iff, beq_iff_eq, beq_iff_eq]; exact docked
  simp only [State.contactorView, State.contactorWanted, enabled, plug, tripped, contactor, docked, request]

/-- Every bay's contactor stands as it is wanted, but where its test is still to be made. -/
def ContactorTested (ns : List Notice) (s : State) : Prop :=
  ∀ b, (s.bfeAt b).contactor = s.contactorWanted b ∨ .contactor b ∈ ns ++ s.unfinished

theorem contactorFollows_iff {s : State} : s.ContactorFollows ↔ ContactorTested [] s := by
  refine forall_congr' fun b => or_congr ?_ Iff.rfl
  have wanted : s.contactorWanted b = true ↔ (s.bfeAt b).enabled = true ∧ (s.bfeAt b).plug = true ∧
      (s.dkuAt b).state = .docked ∧ (s.bfeAt b).tripped = false ∧ (s.clrAt b).openRequest = false := by
    simp only [State.contactorWanted, Bool.and_eq_true, beq_iff_eq, Bool.not_eq_true', and_assoc]
  rw [← wanted, ← Bool.eq_iff_iff]

/-- A reaction leaves each bay's view of its contactor, or hands on that bay's test. -/
def TellsContactor (s : State) (r : Reaction) : Prop :=
  ∀ b, r.1.contactorView b = s.contactorView b ∨ .contactor b ∈ r.2

theorem ContactorTested.of_tells {ns ns' : List Notice} {s : State} {r : Reaction} (h : ContactorTested ns s)
    (tells : TellsContactor s r) (unfinished : r.1.unfinished = s.unfinished)
    (kept : ∀ b, .contactor b ∈ ns → .contactor b ∈ ns' ∨ (r.1.bfeAt b).contactor = r.1.contactorWanted b)
    (handed : ∀ b, Notice.contactor b ∈ r.2 → .contactor b ∈ ns') : ContactorTested ns' r.1 := by
  intro b
  rcases tells b with same | told
  · rcases h b with follows | owed
    · left
      have contactor : (r.1.bfeAt b).contactor = (s.bfeAt b).contactor := congrArg Prod.fst same
      have wanted : r.1.contactorWanted b = s.contactorWanted b := congrArg Prod.snd same
      rw [contactor, wanted, follows]
    · rcases List.mem_append.mp owed with mem | mem
      · rcases kept b mem with mem | follows
        · exact .inr (List.mem_append_left _ mem)
        · exact .inl follows
      · exact .inr (List.mem_append_right _ (unfinished ▸ mem))
  · exact .inr (List.mem_append_left _ (handed b told))

/-! ### Who hands the test on -/

/-- Every bay's open request. -/
def State.openRequests (s : State) (b : BayNo) : Bool := (s.clrAt b).openRequest

theorem openRequests_still (s : State) : s.still.openRequests = s.openRequests := by
  funext b
  have read : s.still.clrAt b = { s.clrAt b with state := .empty, holds := .reset, revoking := false } := bayAt_map s.clr _ b
  simp only [State.openRequests, read]

theorem openRequests_of_still {s t : State} (h : t.still = s.still) : t.openRequests = s.openRequests :=
  eq_of_still State.openRequests openRequests_still h

theorem openRequests_modClr (s : State) (b : BayNo) {f : Clr → Clr}
    (h : (f (s.clrAt b)).openRequest = (s.clrAt b).openRequest) : (s.modClr b f).openRequests = s.openRequests := by
  funext c
  by_cases same : c = b
  · subst same; simpa [State.openRequests] using h
  · simp [State.openRequests, same]

/-- A change of one bay's open request. -/
theorem openRequests_modClr_other (s : State) {b c : BayNo} (f : Clr → Clr) (h : c ≠ b) :
    (s.modClr b f).openRequests c = s.openRequests c := by simp [State.openRequests, h]

/-- A reaction of the CLR that leaves each bay's open request, or hands on that bay's test. -/
def TellsRequest (s : State) (r : Reaction) : Prop :=
  ∀ b, r.1.openRequests b = s.openRequests b ∨ .contactor b ∈ r.2

theorem TellsRequest.of_same {s : State} {r : Reaction} (h : r.1.openRequests = s.openRequests) : TellsRequest s r :=
  fun b => .inl (congrFun h b)

theorem TellsRequest.of_bay {s : State} {r : Reaction} {b : BayNo}
    (h : ∀ c, c ≠ b → r.1.openRequests c = s.openRequests c) (told : .contactor b ∈ r.2) : TellsRequest s r := fun c => by
  by_cases same : c = b
  · exact .inr (same ▸ told)
  · exact .inl (h c same)

@[simp] theorem moveTo_still (b : BayNo) (st : ClearState) (s : State) : (moveTo b st s).1.still = s.still := by
  unfold moveTo
  dsimp only
  show State.still (State.setClear _ _ _) = _
  rw [setClear_still]
  split
  · split <;> rfl
  · split <;> rfl

@[simp] theorem settle_still (b : BayNo) (s : State) : (settle b s).1.still = s.still := by
  unfold settle
  split
  · rfl
  · exact moveTo_still ..

@[simp] theorem lanePassageWait_still (b : BayNo) (s : State) : (lanePassageWait b s).1.still = s.still := by
  unfold lanePassageWait
  split
  · simp
  · rfl

theorem leaveCleared_openRequests (s : State) {b c : BayNo} (h : c ≠ b) :
    (leaveCleared b s).openRequests c = s.openRequests c := by
  rw [leaveCleared, openRequests_of_still (leaveOrder_still b _)]
  exact openRequests_modClr_other s _ h

theorem clrLeft_tells (b : BayNo) (wasCleared : Bool) (s : State) : TellsRequest s (clrLeft b wasCleared s) := by
  refine .of_bay (b := b) (fun c other => ?_) ?_
  · have still : (clrLeft b wasCleared s).1.still = (leaveCleared b s).still := by
      show State.still (State.setClear _ _ _) = _
      rw [setClear_still, lanePassageWait_still]
    rw [openRequests_of_still still, leaveCleared_openRequests s other]
  · simp [clrLeft, Reaction.also]

theorem clrPresence_tells (b : BayNo) (occupied : Bool) (s : State) : TellsRequest s (clrPresence b occupied s) := by
  unfold clrPresence
  split
  · exact .of_same (openRequests_of_still (setClear_still s b _))
  · exact .of_same (openRequests_of_still (setClear_still s b _))
  · exact clrLeft_tells b true s
  · exact clrLeft_tells b false s
  · exact .of_same rfl

theorem clrPlugIn_tells (b : BayNo) (s : State) : TellsRequest s (clrPlugIn b s) := by
  unfold clrPlugIn
  split
  · exact .of_same (openRequests_of_still (moveTo_still ..))
  case h_2 | h_3 =>
    refine .of_bay (b := b) (fun c other => ?_) List.mem_cons_self
    have still : ((laneReleaseOf b (leaveCleared b s)).1.setClear b .docking).still = (leaveCleared b s).still := by
      rw [setClear_still, laneReleaseOf_still]
    exact (congrFun (openRequests_of_still still) c).trans (leaveCleared_openRequests s other)
  all_goals exact .of_same rfl

theorem clrPlugOut_tells (b : BayNo) (s : State) : TellsRequest s (clrPlugOut b s) := by
  unfold clrPlugOut
  split
  · refine .of_same ((openRequests_of_still (setClear_still _ b .cleared)).trans ?_)
    exact openRequests_modClr s b rfl
  case h_7 | h_8 | h_9 | h_10 | h_11 => exact .of_same rfl
  all_goals exact .of_same (openRequests_of_still (moveTo_still ..))

theorem clrUndocked_tells (b : BayNo) (why : UndockReason) (s : State) : TellsRequest s (clrUndocked b why s) := by
  unfold clrUndocked
  split
  case h_1 | h_2 =>
    split
    · exact .of_same (openRequests_of_still (moveTo_still ..))
    · exact .of_same rfl
  all_goals exact .of_same rfl

theorem clrDisable_tells (b : BayNo) (s : State) : TellsRequest s (clrDisable b s) := by
  refine .of_bay (b := b) (fun c other => ?_) ?_
  · have still : (clrDisable b s).1.still =
        ((leaveCleared b s).modClr b (fun c => { c with plugTimer := none, openWait := none })).still := by
      show State.still (State.setClear _ _ _) = _
      rw [setClear_still, laneReleaseOf_still]
    rw [openRequests_of_still still, openRequests_modClr_other _ _ other, leaveCleared_openRequests s other]
  · simp [clrDisable, Reaction.also]

theorem clrOpenPoint_tells (b : BayNo) (s : State) : TellsRequest s (clrOpenPoint b s) := by
  unfold clrOpenPoint
  split
  · exact .of_bay (fun c other => openRequests_modClr_other s _ other) List.mem_cons_self
  · exact .of_same rfl

theorem clrRevoke_tells (b : BayNo) (timeout : Bool) (s : State) : TellsRequest s (clrRevoke b timeout s) := by
  unfold clrRevoke
  split
  · refine .of_bay (b := b) (fun c other => ?_) List.mem_cons_self
    dsimp only
    rw [openRequests_of_still (laneReleaseOf_still b _), openRequests_modClr_other _ _ other,
      openRequests_of_still (setClear_still s b _)]
  · exact .of_same rfl

theorem TellsRequest.of_still_modClr {s : State} {r : Reaction} (b : BayNo) {f : Clr → Clr}
    (same : (f (s.clrAt b)).openRequest = (s.clrAt b).openRequest) (tells : TellsRequest (s.modClr b f) r) :
    TellsRequest s r := fun c => by
  rw [← openRequests_modClr s b same]; exact tells c

theorem clrHolds_tells (b : BayNo) (s : State) : TellsRequest s (clrHolds b s) := by
  refine TellsRequest.of_still_modClr b (f := fun c => { c with holds := (s.dpmAt b).reported }) rfl ?_
  unfold clrHolds
  dsimp only
  split
  case h_1 | h_2 | h_3 | h_4 =>
    split
    · exact .of_same rfl
    · exact .of_same (openRequests_of_still (settle_still ..))
  case h_5 =>
    split
    · exact clrRevoke_tells b false _
    · exact .of_same rfl
  case h_6 =>
    split
    · exact .of_same (openRequests_of_still (clrRecall_still ..))
    · exact .of_same rfl
  case h_7 => split <;> exact .of_same rfl
  all_goals exact .of_same rfl

/-- What the CLR does on a notice leaves the open requests, or hands the contactor's test on. -/
theorem handle_tellsRequest {n : Notice} (clearance : n.writer = .clearance) (s : State) : TellsRequest s (handle n s) := by
  cases n with
  | clrHolds b => exact clrHolds_tells b s
  | clrSettle b =>
    refine .of_same (openRequests_of_still ?_)
    unfold handle clrSettle; dsimp only; split
    · exact settle_still b s
    · rfl
  | clrDocked b =>
    refine .of_same (openRequests_of_still ?_)
    unfold handle clrDocked; dsimp only; split
    · exact settle_still b s
    · rfl
  | clrScanCommitted b =>
    refine .of_same (openRequests_of_still ?_)
    unfold handle clrScanCommitted; dsimp only; split
    · exact settle_still b s
    · rfl
  | clrFromSensors b =>
    refine .of_same (openRequests_of_still ?_)
    unfold handle clrFromSensors; dsimp only; split
    · exact setClear_still s b _
    · rfl
  | clrPresence b occupied => exact clrPresence_tells b occupied s
  | clrPlugIn b => exact clrPlugIn_tells b s
  | clrPlugOut b => exact clrPlugOut_tells b s
  | clrUndocked b why => exact clrUndocked_tells b why s
  | clrDisable b => exact clrDisable_tells b s
  | clrWindow b => exact .of_same (openRequests_modClr s b rfl)
  | clrDeparture b => refine .of_same ?_; unfold handle clrDeparture; dsimp only; split <;> rfl
  | clrOfferTo b => exact .of_same (openRequests_of_still (clrOfferTo_still b s))
  | clrSuspend b => refine .of_same ?_; unfold handle clrSuspend; dsimp only; split <;> rfl
  | clrStartTimers b =>
    refine .of_same ?_
    unfold handle clrStartTimers; dsimp only; split
    · exact openRequests_modClr s b rfl
    · rfl
  | clrOpenTest b =>
    unfold handle clrOpenTest; dsimp only; split
    · exact clrOpenPoint_tells b s
    · exact .of_same rfl
  | clrRevokeEnd b timeout =>
    refine .of_same (openRequests_of_still ?_)
    unfold handle clrRevokeEnd; dsimp only; split
    · split
      · exact setClear_still s b _
      · exact setClear_still s b _
    · rfl
  | laneOffer l => exact .of_same (openRequests_of_still (laneOffer_still l s))
  | _ => exact absurd clearance nofun

/-- Every bay's enable state, plug, trip, contactor and latch are left by what the CLR does on a notice. -/
theorem handle_clearance_lines {n : Notice} (clearance : n.writer = .clearance) (s : State) :
    (handle n s).1.lines = s.lines := by
  cases n with
  | clrHolds b => exact clrHolds_lines b s
  | clrSettle b => exact clrSettle_lines b s
  | clrDocked b => exact clrDocked_lines b s
  | clrScanCommitted b => exact clrScanCommitted_lines b s
  | clrFromSensors b => exact clrFromSensors_lines b s
  | clrPresence b occupied => exact clrPresence_lines b occupied s
  | clrPlugIn b => exact clrPlugIn_lines b s
  | clrPlugOut b => exact clrPlugOut_lines b s
  | clrUndocked b why => exact clrUndocked_lines b why s
  | clrDisable b => exact clrDisable_lines b s
  | clrWindow b => exact clrWindow_lines b s
  | clrDeparture b => exact clrDeparture_lines b s
  | clrOfferTo b => exact clrOfferTo_lines b s
  | clrSuspend b => exact clrSuspend_lines b s
  | clrStartTimers b => exact clrStartTimers_lines b s
  | clrOpenTest b => exact clrOpenTest_lines b s
  | clrRevokeEnd b timeout => exact clrRevokeEnd_lines b timeout s
  | laneOffer l => exact laneOffer_lines l s
  | _ => exact absurd clearance nofun

/-! ### The DKU -/

/-- A reaction of the DKU that leaves each bay DOCKED or not, or hands on that bay's test. -/
def TellsDocked (s : State) (r : Reaction) : Prop :=
  ∀ b, ((r.1.dkuAt b).state = .docked ↔ (s.dkuAt b).state = .docked) ∨ .contactor b ∈ r.2

theorem TellsDocked.of_modDku {s : State} {b : BayNo} {f : Dku → Dku} {ns : List Notice}
    (same : (f (s.dkuAt b)).state = .docked ↔ (s.dkuAt b).state = .docked) : TellsDocked s (s.modDku b f, ns) := fun c => by
  left
  by_cases e : c = b
  · subst e; simpa using same
  · simp [e]

theorem TellsDocked.of_told {s t : State} {b : BayNo} {ns : List Notice} (other : ∀ c, c ≠ b → t.dkuAt c = s.dkuAt c)
    (told : .contactor b ∈ ns) : TellsDocked s (t, ns) := fun c => by
  by_cases e : c = b
  · exact .inr (e ▸ told)
  · exact .inl (by rw [other c e])

theorem TellsDocked.of_dku {s : State} {r : Reaction} (same : r.1.dku = s.dku) : TellsDocked s r := fun c =>
  .inl (by simp only [State.dkuAt, same])

theorem TellsDocked.trans {s t u : State} {ns : List Notice} (first : ∀ b, (t.dkuAt b).state = .docked ↔ (s.dkuAt b).state = .docked)
    (next : TellsDocked t (u, ns)) : TellsDocked s (u, ns) := fun b => by
  rcases next b with same | told
  · exact .inl (same.trans (first b))
  · exact .inr told

theorem dkuDescribed_tells (b : BayNo) (i kind n : Nat) (body : List Byte) (s : State)
    (walking : (s.dkuAt b).state = .readingDescriptors) : TellsDocked s (dkuDescribed b i kind n body s) := by
  unfold dkuDescribed
  dsimp only
  have first : ∀ (f : Dku → Dku), (f (s.dkuAt b)).state = (s.dkuAt b).state → ∀ c,
      ((s.modDku b f).dkuAt c).state = .docked ↔ (s.dkuAt c).state = .docked := fun f same c => by
    by_cases e : c = b
    · subst e; simp [same]
    · simp [e]
  split
  · exact .trans (first _ rfl) (.of_modDku (by simp [walking]))
  · split
    · exact fun c => .inl (first _ rfl c)
    · exact .trans (first _ rfl) (.of_modDku (by simp [Dku.failChain, walking]))

theorem dkuReidentified_tells (b : BayNo) (fleet : Nat) (s : State) : TellsDocked s (dkuReidentified b fleet s) := by
  unfold dkuReidentified
  dsimp only
  split
  · split <;> exact .of_modDku Iff.rfl
  · exact .of_modDku Iff.rfl

theorem dkuReadFailed_tells (b : BayNo) (r : BayRequest) (s : State) : TellsDocked s (dkuReadFailed b r s) := by
  unfold dkuReadFailed
  split
  · exact .of_dku rfl
  · exact .of_modDku Iff.rfl

theorem dkuResult_tells (b : BayNo) (r : BayRequest) (x : TxResult) (s : State) : TellsDocked s (dkuResult b r x s) := by
  unfold dkuResult
  dsimp only
  split
  · split
    case h_1 probing _ => exact .of_modDku (by simp [probing])
    case h_2 walking _ => exact dkuDescribed_tells _ _ _ _ _ _ walking
    case h_3 =>
      exact .of_told (b := b) (fun c other => by simp [other]) (by simp)
    case h_4 => exact dkuReidentified_tells b _ s
    case h_5 => exact dkuReadFailed_tells b _ s
    case h_6 => exact .of_dku rfl
  · exact .of_dku rfl

theorem handle_tellsDocked {n : Notice} (docking : n.writer = .docking) (s : State) : TellsDocked s (handle n s) := by
  cases n with
  | dkuStart b => exact .of_dku rfl
  | dkuBegin b => exact .of_told (b := b) (fun c other => by simp [other]) List.mem_cons_self
  | dkuSubmit b r =>
    refine .trans (t := s.modClc b (fun c => c.submitRead r)) (fun _ => Iff.rfl) ?_
    exact .of_modDku Iff.rfl
  | dkuResult b r x => exact dkuResult_tells b r x s
  | dkuRecovered b => refine .of_dku ?_; unfold handle dkuRecovered; dsimp only; split <;> rfl
  | dkuScanCommitted b => refine .of_dku ?_; unfold handle dkuScanCommitted; dsimp only; split <;> rfl
  | dkuUndock b why =>
    unfold handle dkuUndock; dsimp only; split
    · exact .of_dku rfl
    · exact .of_told (b := b) (fun c other => by simp [other]) List.mem_cons_self
  | dkuRetain b => exact .of_told (b := b) (fun c other => by simp [other]) List.mem_cons_self
  | dkuDiscard b =>
    unfold handle dkuDiscard; dsimp only; split
    · exact .of_told (b := b) (fun c other => by simp [other]) List.mem_cons_self
    · exact .of_dku rfl
  | dkuMatch b =>
    unfold handle dkuMatch; dsimp only; split
    · exact .of_dku rfl
    · exact .of_modDku Iff.rfl
  | dkuWrongBay b =>
    unfold handle dkuWrongBay; dsimp only; split
    · exact .of_dku rfl
    · exact .of_modDku Iff.rfl
  | _ => exact absurd docking nofun

/-! ### Every notice -/

theorem unfinished_of_outside {s t : State} {k : Writer} (h : t.outside k = s.outside k) : t.unfinished = s.unfinished :=
  eq_of_outside State.unfinished (fun _ => by cases k <;> rfl) h

theorem clearTrip_tells (b : BayNo) (s : State) : TellsContactor s (clearTrip b s) := by
  unfold clearTrip
  split
  · intro c
    by_cases e : c = b
    · exact .inr (e ▸ List.mem_cons_self)
    · refine .inl (contactorView_ext ?_ Iff.rfl rfl)
      simp [State.lines, e]
  · exact fun _ => .inl rfl

/-- A notice but the contactor's test leaves each bay's view of its contactor, or hands on that bay's test. -/
theorem handle_tellsContactor (n : Notice) (s : State) (other : ∀ b, n ≠ .contactor b) : TellsContactor s (handle n s) := by
  have frame := handle_outside n s
  by_cases clearance : n.writer = .clearance
  · intro b
    rw [clearance] at frame
    have dku : (handle n s).1.dku = s.dku := eq_of_outside State.dku (fun _ => rfl) frame
    rcases handle_tellsRequest clearance s b with request | told
    · refine .inl (contactorView_ext (congrFun (handle_clearance_lines clearance s) b) ?_ request)
      simp only [State.dkuAt, dku]
    · exact .inr told
  by_cases docking : n.writer = .docking
  · intro b
    rw [docking] at frame
    have bfe : (handle n s).1.bfe = s.bfe := eq_of_outside State.bfe (fun _ => rfl) frame
    have clr : (handle n s).1.clr = s.clr := eq_of_outside State.clr (fun _ => rfl) frame
    rcases handle_tellsDocked docking s b with docked | told
    · refine .inl (contactorView_ext ?_ docked ?_)
      · simp only [State.lines, State.bfeAt, bfe]
      · simp only [State.clrAt, clr]
    · exact .inr told
  by_cases field : n.writer = .field
  · cases n with
    | contactor b => exact absurd rfl (other b)
    | clearTrip b => exact clearTrip_tells b s
    | _ => exact absurd field nofun
  · generalize n.writer = k at frame clearance docking field
    intro b
    have bfe : (handle n s).1.bfe = s.bfe :=
      eq_of_outside State.bfe (fun _ => by cases k <;> first | rfl | exact absurd rfl clearance | exact absurd rfl field) frame
    have clr : (handle n s).1.clr = s.clr :=
      eq_of_outside State.clr (fun _ => by cases k <;> first | rfl | exact absurd rfl clearance) frame
    have dku : (handle n s).1.dku = s.dku :=
      eq_of_outside State.dku (fun _ => by cases k <;> first | rfl | exact absurd rfl docking) frame
    refine .inl (contactorView_ext ?_ ?_ ?_)
    · simp only [State.lines, State.bfeAt, bfe]
    · simp only [State.dkuAt, dku]
    · simp only [State.clrAt, clr]

/-- The contactor's test on bay b makes good what is owed at b and touches no other bay. -/
theorem bfeContactor_tested (b : BayNo) (s : State) :
    ((bfeContactor b s).1.bfeAt b).contactor = (bfeContactor b s).1.contactorWanted b ∧
      ∀ c, c ≠ b → (bfeContactor b s).1.contactorView c = s.contactorView c := by
  unfold bfeContactor
  dsimp only
  split
  case isTrue same => exact ⟨same, fun _ _ => rfl⟩
  · refine ⟨by simp [State.contactorWanted], fun c other => contactorView_ext ?_ Iff.rfl rfl⟩
    simp [State.lines, other]

theorem contactorTested_taken (n : Notice) (ns : List Notice) (s : State) (h : ContactorTested (n :: ns) s) :
    ContactorTested ((handle n s).2 ++ ns) (handle n s).1 := by
  have unfinished := unfinished_of_outside (handle_outside n s)
  by_cases test : ∃ b, n = .contactor b
  · obtain ⟨b, rfl⟩ := test
    obtain ⟨made, others⟩ := bfeContactor_tested b s
    intro c
    by_cases e : c = b
    · subst e; exact .inl made
    · have contactor : ((handle (.contactor b) s).1.bfeAt c).contactor = (s.bfeAt c).contactor := congrArg Prod.fst (others c e)
      have wanted : (handle (.contactor b) s).1.contactorWanted c = s.contactorWanted c := congrArg Prod.snd (others c e)
      rcases h c with follows | owed
      · exact .inl (by rw [contactor, wanted, follows])
      · right
        rw [unfinished, List.append_assoc]
        refine List.mem_append_right _ ?_
        rcases List.mem_cons.mp owed with head | rest
        · cases head; exact absurd rfl e
        · exact rest
  · have other : ∀ b, n ≠ .contactor b := fun b e => test ⟨b, e⟩
    refine h.of_tells (handle_tellsContactor n s other) unfinished (fun b mem => .inl ?_) (fun b mem => ?_)
    · rcases List.mem_cons.mp mem with head | rest
      · exact absurd head.symm (other b)
      · exact List.mem_append_right _ rest
    · exact List.mem_append_left _ mem

/-! ### Every step -/

theorem contactorTested_of_views {s t : State} (views : t.contactorView = s.contactorView)
    (unfinished : t.unfinished = s.unfinished) (h : ContactorTested [] s) : ContactorTested [] t :=
  ContactorTested.of_tells (r := (t, [])) h (fun b => .inl (congrFun views b)) unfinished (fun _ mem => .inl mem)
    (fun _ mem => mem)

theorem contactorView_modBfe {s : State} {b : BayNo} {f : Bfe → Bfe}
    (h : (f (s.bfeAt b)).steady = (s.bfeAt b).steady) : (s.modBfe b f).contactorView = s.contactorView := by
  funext c
  exact contactorView_ext (congrFun (lines_modBfe h) c) Iff.rfl rfl

theorem tickTimers_contactorView (s : State) : (tickTimers s).contactorView = s.contactorView := by
  have bay (b : BayNo) (t : State) : (tickBay b t).contactorView = t.contactorView := by
    funext c
    refine contactorView_ext (congrFun (tickBay_lines b t) c) Iff.rfl ?_
    by_cases e : c = b
    · subst e; simp [tickBay, Clr.tick]
    · simp [tickBay, e]
  have lane (l : Lane) (f : LaneRecord → LaneRecord) (t : State) : (t.modLane l f).contactorView = t.contactorView := by
    cases l <;> rfl
  unfold tickTimers
  rw [lane, lane]
  exact forBays_keeps State.contactorView bay s

theorem tickTimers_unfinished (s : State) : (tickTimers s).unfinished = s.unfinished := by
  have bay (b : BayNo) (t : State) : (tickBay b t).unfinished = t.unfinished := rfl
  unfold tickTimers
  rw [State.modLane_unfinished, State.modLane_unfinished]
  exact forBays_keeps State.unfinished bay s

theorem Acts.tellsContactor {s : State} {k : Writer} {r : Reaction} (h : Acts s k r) : TellsContactor s r := by
  intro b
  have dku : r.1.dku = s.dku := by
    refine eq_of_outside State.dku (fun _ => ?_) h.outside
    cases h <;> rfl
  have docked : (r.1.dkuAt b).state = .docked ↔ (s.dkuAt b).state = .docked := by simp only [State.dkuAt, dku]
  have request : r.1.openRequests b = s.openRequests b ∨ .contactor b ∈ r.2 := by
    by_cases clearance : k = .clearance
    · cases h with
      | openWait b =>
        unfold clrOpenWaitExpired
        split
        · exact TellsRequest.of_still_modClr b rfl (clrOpenPoint_tells b _) _
        · exact .inl rfl
      | plugTimer b =>
        unfold clrPlugExpired
        split
        · exact TellsRequest.of_still_modClr b rfl (clrRevoke_tells b true _) _
        · exact .inl rfl
      | laneTimer l =>
        unfold laneExpired
        dsimp only
        split
        · exact .inl (congrFun (openRequests_of_still (modLane_still _ _ _)) b)
        · exact .inl (congrFun (openRequests_of_still (modLane_still _ _ _)) b)
      | passage l =>
        unfold passagePulse
        split
        · exact .inl (congrFun (openRequests_of_still (modLane_still _ _ _)) b)
        · exact .inl rfl
      | closeLane l =>
        unfold Machine.closeLane
        split
        case h_4 => exact .inl rfl
        all_goals exact .inl (congrFun (openRequests_of_still (modLane_still _ _ _)) b)
      | openLane l =>
        unfold Machine.openLane
        split
        case h_4 => exact .inl rfl
        all_goals exact .inl (congrFun (openRequests_of_still (modLane_still _ _ _)) b)
      | _ => exact absurd clearance nofun
    · have clr : r.1.clr = s.clr :=
        eq_of_outside State.clr (fun _ => by cases k <;> first | rfl | exact absurd rfl clearance) h.outside
      exact .inl (by simp only [State.openRequests, State.clrAt, clr])
  exact request.imp_left fun same => contactorView_ext (congrFun h.lines b) docked same

/-- An event on one bay's field unit hands on its contactor's test, or neither contactor nor want moves. -/
theorem contactorTested_bay {s : State} (h : ContactorTested [] s) {b : BayNo} {f : Bfe → Bfe} {ns : List Notice}
    (told : .contactor b ∈ ns ∨ (s.modBfe b f).contactorView b = s.contactorView b) :
    ContactorTested ns (s.modBfe b f) := by
  refine ContactorTested.of_tells (r := (s.modBfe b f, ns)) h (fun c => ?_) rfl (fun _ mem => absurd mem List.not_mem_nil)
    (fun _ mem => mem)
  by_cases e : c = b
  · subst e; exact told.symm
  · refine .inl (contactorView_ext ?_ Iff.rfl rfl)
    simp [State.lines, e]

theorem Begins.contactorTested {part : Held} {s : State} {r : Reaction} (begun : Begins s part r) (h : ContactorTested [] s) :
    ContactorTested r.2 r.1 := by
  have same (t : State) (ns : List Notice) (views : t.contactorView = s.contactorView)
      (unfinished : t.unfinished = s.unfinished) : ContactorTested ns t :=
    ContactorTested.of_tells (r := (t, ns)) h (fun b => .inl (congrFun views b)) unfinished
      (fun _ mem => absurd mem List.not_mem_nil) (fun _ mem => mem)
  cases begun with
  | acts acted =>
    exact h.of_tells acted.tellsContactor (unfinished_of_outside acted.outside)
      (fun _ mem => absurd mem List.not_mem_nil) (fun _ mem => mem)
  | plug b =>
    refine contactorTested_bay h ?_
    by_cases enabled : (s.bfeAt b).enabled = true
    · left
      split
      · unfold plugOutNotices; rw [if_pos enabled]; simp
      · unfold plugInNotices; rw [if_pos enabled]; simp
    · right
      simp [State.contactorView, State.contactorWanted, enabled]
  | trip b => exact contactorTested_bay h (.inl List.mem_cons_self)
  | enable b disabled => exact contactorTested_bay h (.inl List.mem_cons_self)
  | disable b free => exact contactorTested_bay h (.inl List.mem_cons_self)
  | _ => exact same _ _ rfl rfl

theorem fetched_contactorView (s : State) : s.fetched.contactorView = s.contactorView := rfl

theorem contactorTested_kept : KeptBySteps ContactorTested where
  taken n ns s h := contactorTested_taken n ns s h
  leftOver ns s h b := by
    rcases h b with follows | owed
    · exact .inl follows
    · exact .inr (List.mem_append_right [] (List.mem_append.mpr (List.mem_append.mp owed).symm))
  begins begun := begun.contactorTested
  carriedOn s h b := by
    rcases h b with follows | owed
    · exact .inl follows
    · exact .inr (List.mem_append_left _ owed)
  timers s := contactorTested_of_views (tickTimers_contactorView s) (tickTimers_unfinished s)
  senses _ _ _ only := contactorTested_of_views (contactorView_modBfe only) rfl
  inputs _ _ h := h
  queue _ _ h := h
  reply _ _ _ h := h
  receiver _ _ _ h := h
  freed _ _ h := h
  raisesHall _ _ _ h := h
  fetched s := contactorTested_of_views (fetched_contactorView s) rfl
  masked _ _ h := h
  restarted s _ b := by
    left
    have notDocked : ((restarted s).dkuAt b).state ≠ .docked := restarted_notDocked s b
    rw [(restarted_contactor s b).1]
    simp [State.contactorWanted, notDocked]
  poweredOn s b := by
    left
    have dku : (poweredOn s).dku = State.reset.dku := forBays_keeps State.dku (fun _ _ => rfl) _
    have state : ((poweredOn s).dkuAt b).state = .undocked := by
      rw [State.dkuAt, dku]; revert b; decide
    rw [(poweredOn_contactor s b).1]
    simp [State.contactorWanted, state]

/-- Settles O6: the latch moves with the contactor, and every change of one of the contactor's five conditions hands on
the contactor's test. -/
theorem stepKeepsLatchWithContactor : Obligations.StepKeepsLatchWithContactor := by
  unfold Obligations.StepKeepsLatchWithContactor
  exact ⟨fun _ _ hs h => latchFollows_kept.step hs h,
    fun _ _ hs h => contactorFollows_iff.mpr (contactorTested_kept.step (contactorFollows_iff.mp hs) h)⟩

end Sys2Proof.Machine
end

section
/-! O7 (R11, R159, R163, R166, R170, R171, R173). The signal moves with the clearance state alone. Lanes, wait order,
clearance states and hold marks agree after every notice. A hold set is derived where one of its parts has changed, and told
to the CLR where the set reported has changed, or the notice that does so is still to be taken. -/

namespace Sys2Proof.Machine

/-! ### The signal -/

theorem signalFollows_of_eq {s t : State} (bfe : t.bfe = s.bfe) (clr : t.clr = s.clr) (h : s.SignalFollows) :
    t.SignalFollows := by
  intro b; simp only [State.bfeAt, State.clrAt, bfe, clr]; exact h b

theorem Acts.signal {s : State} {k : Writer} {r : Reaction} (acted : Acts s k r) (h : s.SignalFollows) :
    r.1.SignalFollows := by
  by_cases clearance : k = .clearance
  · cases acted with
    | openWait b => exact clrOpenWaitExpired_signal b h
    | plugTimer b => exact clrPlugExpired_signal b h
    | laneTimer l => exact laneExpired_signal l h
    | passage l => exact passagePulse_signal l h
    | closeLane l => unfold Machine.closeLane; split <;> simp [Machine.done, h]
    | openLane l => unfold Machine.openLane; split <;> simp [Machine.done, h]
    | _ => exact absurd clearance nofun
  · have field : k ≠ .field := by rintro rfl; cases acted
    exact signalFollows_of_eq
      (eq_of_outside State.bfe
        (fun _ => by cases k <;> first | rfl | exact absurd rfl clearance | exact absurd rfl field) acted.outside)
      (eq_of_outside State.clr (fun _ => by cases k <;> first | rfl | exact absurd rfl clearance) acted.outside) h

theorem steady_aspect {f g : Bfe} (h : g.steady = f.steady) : g.aspect = f.aspect := by
  simp only [Bfe.steady, Bfe.mk.injEq] at h
  obtain ⟨-, -, -, -, -, -, -, -, -, -, -, aspect, -⟩ := h
  exact aspect

theorem signal_modBfe_at {s : State} (h : s.SignalFollows) (b : BayNo) {f : Bfe → Bfe}
    (same : (f (s.bfeAt b)).aspect = (s.bfeAt b).aspect) : (s.modBfe b f).SignalFollows := by
  intro c
  by_cases e : c = b
  · subst e; rw [State.modBfe_bfeAt_same, same]; exact h c
  · rw [State.modBfe_bfeAt_ne _ _ e]; exact h c

theorem Begins.signal {part : Held} {s : State} {r : Reaction} (begun : Begins s part r)
    (h : s.SignalFollows) : r.1.SignalFollows := by
  cases begun with
  | acts acted => exact acted.signal h
  | plug b => exact signal_modBfe_at h b rfl
  | trip b => exact signal_modBfe_at h b rfl
  | enable b => exact signal_modBfe_at h b rfl
  | disable b => exact signal_modBfe_at h b rfl
  | _ => exact h

/-- Every bay's aspect and clearance state. -/
def State.signalView (s : State) (b : BayNo) : Aspect × ClearState := ((s.bfeAt b).aspect, (s.clrAt b).state)

theorem signalFollows_of_view {s t : State} (h : t.signalView = s.signalView) (hs : s.SignalFollows) :
    t.SignalFollows := by
  intro b
  have read := congrFun h b
  simp only [State.signalView, Prod.mk.injEq] at read
  rw [read.1, read.2]; exact hs b

theorem tickBay_signalView (b : BayNo) (s : State) : (tickBay b s).signalView = s.signalView := by
  funext c
  by_cases e : c = b
  · subst e; simp [State.signalView, tickBay, Bfe.tick, Clr.tick]
  · simp [State.signalView, tickBay, e]

theorem tickTimers_signalView (s : State) : (tickTimers s).signalView = s.signalView := by
  have lane (l : Lane) (f : LaneRecord → LaneRecord) (t : State) : (t.modLane l f).signalView = t.signalView := by
    cases l <;> rfl
  unfold tickTimers
  rw [lane, lane]
  exact forBays_keeps State.signalView tickBay_signalView s

theorem restartField_signalView (b : BayNo) (s : State) : (restartField b s).signalView = s.signalView := by
  funext c
  by_cases e : c = b
  · subst e; simp [State.signalView, restartField]
  · simp [State.signalView, restartField, e]

theorem restartLink_signalView (b : BayNo) (s : State) : (restartLink b s).signalView = s.signalView := by
  unfold restartLink; split <;> rfl

theorem restartSession_signalView (b : BayNo) (s : State) : (restartSession b s).signalView = s.signalView := rfl

theorem restartHall_signalView (s : State) : (restartHall s).signalView = s.signalView := rfl

theorem restartCore_signalView (s : State) : (restartCore s).signalView = s.signalView := by
  unfold restartCore
  rw [forBays_keeps State.signalView restartField_signalView, restartHall_signalView,
    forBays_keeps State.signalView restartSession_signalView, forBays_keeps State.signalView restartLink_signalView]

theorem restartOrder_signalView (s : State) : (restartOrder s).signalView = s.signalView := rfl

theorem restarted_signal (s : State) (h : s.SignalFollows) : (restarted s).SignalFollows := by
  have ordered : (restartOrder (restartCore s)).SignalFollows :=
    signalFollows_of_view ((restartOrder_signalView _).trans (restartCore_signalView s)) h
  have released : (restartReleased s).SignalFollows := by
    refine forBays_preserves (P := State.SignalFollows) (fun b t ht => ?_) ordered
    unfold restartClearing
    split
    · exact perform_signal (laneReleaseOf_signal b (signal_modClr ht b _ fun _ => rfl))
    · exact ht
  have blocks : (restartBlocks s).SignalFollows := by
    rw [restartBlocks_eq]
    refine forBays_preserves (P := State.SignalFollows) (fun b t ht => ?_) released
    unfold restartClearance
    dsimp only
    split
    · exact signal_modClr ht b _ fun _ => rfl
    · refine signal_setClear (signal_modClr ht b _ ?_) b _
      exact fun _ => rfl
  have docked : (restartDocked s).SignalFollows :=
    forBays_preserves (P := State.SignalFollows) (fun b t ht => signal_of_fixed (restartDocking_fixed b t) ht) blocks
  have flagged (t : State) (ht : t.SignalFollows) : (restartAllFlags t).SignalFollows := by
    unfold restartAllFlags
    dsimp only
    refine forBays_preserves (P := State.SignalFollows) (fun b u hu => ?_) ?_
    · unfold restartFlags
      dsimp only
      split <;> split <;> exact hu
    · split <;> exact ht
  have held : (restartHeld s).SignalFollows := by
    refine forBays_preserves (P := State.SignalFollows) (fun b t ht => ?_) (flagged _ docked)
    rw [restartHolds_eq]
    exact perform_signal (signal_of_fixed (rederive_fixed b _) ht)
  have reattended (t : State) (ht : t.SignalFollows) : t.reattend.SignalFollows := ht
  rw [restarted_eq]
  exact reattended _ held

theorem reset_aspect (b : BayNo) : Bfe.reset.aspect = (bayAt State.reset.clr b).state.aspect := by
  revert b; decide

theorem signalFollows_kept : KeptBySteps (fun _ s => s.SignalFollows) where
  taken n _ _ h := handle_signal n h
  leftOver _ _ h := h
  begins begun h := begun.signal h
  carriedOn _ h := h
  timers s := signalFollows_of_view (tickTimers_signalView s)
  senses b _ _ only h := signal_modBfe_at h b (steady_aspect only)
  inputs _ _ h := h
  queue _ _ h := h
  reply _ _ _ h := h
  receiver _ _ _ h := h
  freed _ _ h := h
  raisesHall _ _ _ h := h
  fetched s h := signalFollows_of_eq (fetched_bfe s) rfl h
  masked _ _ h := h
  restarted s h := restarted_signal s h
  poweredOn s := by
    intro b
    have read := forBays_at (fun t c => t.bfeAt c) (f := fun b t => t.modBfe b (fun _ => (s.bfeAt b).poweredOn))
      (g := fun c _ => (s.bfeAt c).poweredOn) (fun b t => by simp) (fun b c t other => by simp [other])
      { State.reset with hallInputs := s.hallInputs.poweredOn, pending := s.pending } b
    have read : (poweredOn s).bfeAt b = (s.bfeAt b).poweredOn := read
    have clr : (poweredOn s).clr = State.reset.clr := forBays_keeps State.clr (fun _ _ => rfl) _
    rw [read, State.clrAt, clr]
    exact reset_aspect b

/-! ### What the CLR holds of the hold sets -/

/-- The hold sets as the CLR holds them. -/
def State.holdSets (s : State) (b : BayNo) : HoldSet := (s.clrAt b).holds

theorem holdSets_modClr (s : State) (b : BayNo) (f : Clr → Clr) (h : ∀ c, (f c).holds = c.holds) :
    (s.modClr b f).holdSets = s.holdSets := by
  funext c
  by_cases e : c = b
  · subst e; simp [State.holdSets, h]
  · simp [State.holdSets, e]

@[simp] theorem holdSets_setClear (s : State) (b : BayNo) (st : ClearState) : (s.setClear b st).holdSets = s.holdSets := by
  show (s.modClr b (fun c => { c with state := st, revoking := false })).holdSets = _
  exact holdSets_modClr s b _ fun _ => rfl

@[simp] theorem holdSets_modLane (s : State) (l : Lane) (f : LaneRecord → LaneRecord) :
    (s.modLane l f).holdSets = s.holdSets := by cases l <;> rfl

@[simp] theorem leaveOrder_holdSets (b : BayNo) (s : State) :
    (leaveOrder b s).holdSets = s.holdSets := rfl

@[simp] theorem joinOrder_holdSets (b : BayNo) (s : State) :
    (joinOrder b s).holdSets = s.holdSets := rfl

@[simp] theorem leaveCleared_holdSets (b : BayNo) (s : State) :
    (leaveCleared b s).holdSets = s.holdSets := by simp [leaveCleared, holdSets_modClr]

@[simp] theorem grantLane_holdSets (l : Lane) (b : BayNo) (s : State) :
    (grantLane l b s).1.holdSets = s.holdSets := by
  unfold grantLane; dsimp only; split <;> simp [enterClear]

@[simp] theorem laneOffer_holdSets (l : Lane) (s : State) :
    (laneOffer l s).1.holdSets = s.holdSets := by
  unfold laneOffer
  split
  · split <;> simp
  · rfl

@[simp] theorem clrOfferTo_holdSets (b : BayNo) (s : State) :
    (clrOfferTo b s).1.holdSets = s.holdSets := by
  unfold clrOfferTo
  split
  · split
    · simp
    · split <;> simp
  · rfl

@[simp] theorem laneReleaseOf_holdSets (b : BayNo) (s : State) :
    (laneReleaseOf b s).1.holdSets = s.holdSets := by
  unfold laneReleaseOf; split <;> simp [laneRelease]

@[simp] theorem lanePassageWait_holdSets (b : BayNo) (s : State) :
    (lanePassageWait b s).1.holdSets = s.holdSets := by
  unfold lanePassageWait; split <;> simp

@[simp] theorem moveTo_holdSets (b : BayNo) (st : ClearState) (s : State) :
    (moveTo b st s).1.holdSets = s.holdSets := by
  unfold moveTo; dsimp only
  split <;> split <;> simp [enterClear]

@[simp] theorem settle_holdSets (b : BayNo) (s : State) : (settle b s).1.holdSets = s.holdSets := by
  unfold settle; split <;> simp

theorem clrSettle_holdSets (b : BayNo) (s : State) : (clrSettle b s).1.holdSets = s.holdSets := by
  unfold clrSettle; split <;> simp

theorem clrDocked_holdSets (b : BayNo) (s : State) : (clrDocked b s).1.holdSets = s.holdSets := by
  unfold clrDocked; split <;> simp

theorem clrScanCommitted_holdSets (b : BayNo) (s : State) :
    (clrScanCommitted b s).1.holdSets = s.holdSets := by
  unfold clrScanCommitted; split <;> simp

theorem clrDeparture_holdSets (b : BayNo) (s : State) :
    (clrDeparture b s).1.holdSets = s.holdSets := by
  unfold clrDeparture; dsimp only; split <;> rfl

theorem clrFromSensors_holdSets (b : BayNo) (s : State) :
    (clrFromSensors b s).1.holdSets = s.holdSets := by
  unfold clrFromSensors; split <;> simp [enterClear]

@[simp] theorem clrLeft_holdSets (b : BayNo) (x : Bool) (s : State) :
    (clrLeft b x s).1.holdSets = s.holdSets := by
  simp [clrLeft, enterClear]

theorem clrPresence_holdSets (b : BayNo) (x : Bool) (s : State) :
    (clrPresence b x s).1.holdSets = s.holdSets := by
  unfold clrPresence; split <;> simp [enterClear]

theorem clrPlugIn_holdSets (b : BayNo) (s : State) : (clrPlugIn b s).1.holdSets = s.holdSets := by
  unfold clrPlugIn; split <;> simp [enterClear]

theorem clrPlugOut_holdSets (b : BayNo) (s : State) : (clrPlugOut b s).1.holdSets = s.holdSets := by
  unfold clrPlugOut; split <;> simp [clearedByPlugOut, enterClear, holdSets_modClr]

theorem clrUndocked_holdSets (b : BayNo) (why : UndockReason) (s : State) :
    (clrUndocked b why s).1.holdSets = s.holdSets := by
  cases why with
  | plugOut => rfl
  | disabled => rfl
  | redock => unfold clrUndocked; dsimp only; split <;> simp
  | identity => unfold clrUndocked; dsimp only; split <;> simp

theorem clrDisable_holdSets (b : BayNo) (s : State) : (clrDisable b s).1.holdSets = s.holdSets := by
  simp [clrDisable, enterClear, holdSets_modClr]

theorem clrStartTimers_holdSets (b : BayNo) (s : State) :
    (clrStartTimers b s).1.holdSets = s.holdSets := by
  unfold clrStartTimers; split <;> simp [holdSets_modClr]

@[simp] theorem clrOpenPoint_holdSets (b : BayNo) (s : State) :
    (clrOpenPoint b s).1.holdSets = s.holdSets := by
  unfold clrOpenPoint; split <;> simp [holdSets_modClr]

theorem clrOpenTest_holdSets (b : BayNo) (s : State) :
    (clrOpenTest b s).1.holdSets = s.holdSets := by
  unfold clrOpenTest; split <;> simp

@[simp] theorem clrRevoke_holdSets (b : BayNo) (x : Bool) (s : State) :
    (clrRevoke b x s).1.holdSets = s.holdSets := by
  unfold clrRevoke; split <;> simp [holdSets_modClr]

theorem clrRevokeEnd_holdSets (b : BayNo) (x : Bool) (s : State) :
    (clrRevokeEnd b x s).1.holdSets = s.holdSets := by
  unfold clrRevokeEnd; dsimp only
  split
  · split <;> simp
  · rfl

@[simp] theorem clrRecall_holdSets (b : BayNo) (s : State) :
    (clrRecall b s).1.holdSets = s.holdSets := by
  simp [clrRecall, enterClear]


/-- No notice but a hold set's report changes the set the CLR holds. -/
theorem handle_holdSets {n : Notice} (clearance : n.writer = .clearance) (report : ∀ b, n ≠ .clrHolds b) (s : State) :
    (handle n s).1.holdSets = s.holdSets := by
  cases n with
  | clrHolds b => exact absurd rfl (report b)
  | clrSettle b => exact clrSettle_holdSets b s
  | clrDocked b => exact clrDocked_holdSets b s
  | clrScanCommitted b => exact clrScanCommitted_holdSets b s
  | clrFromSensors b => exact clrFromSensors_holdSets b s
  | clrPresence b occupied => exact clrPresence_holdSets b occupied s
  | clrPlugIn b => exact clrPlugIn_holdSets b s
  | clrPlugOut b => exact clrPlugOut_holdSets b s
  | clrUndocked b why => exact clrUndocked_holdSets b why s
  | clrDisable b => exact clrDisable_holdSets b s
  | clrWindow b => exact holdSets_modClr s b _ fun _ => rfl
  | clrDeparture b => exact clrDeparture_holdSets b s
  | clrOfferTo b => exact clrOfferTo_holdSets b s
  | clrSuspend b => unfold handle clrSuspend; dsimp only; split <;> rfl
  | clrStartTimers b => exact clrStartTimers_holdSets b s
  | clrOpenTest b => exact clrOpenTest_holdSets b s
  | clrRevokeEnd b timeout => exact clrRevokeEnd_holdSets b timeout s
  | laneOffer l => exact laneOffer_holdSets l s
  | _ => exact absurd clearance nofun

end Sys2Proof.Machine
end

section
/-! O7, concluded: hold sets derived and told, and the agreement through a RESTART. -/

namespace Sys2Proof.Machine

/-! ### Hold sets derived -/

/-- A bay's effective set stands reported, or its derivation is still to be made. -/
def DerivedAt (b : BayNo) (ns : List Notice) (s : State) : Prop :=
  (s.dpmAt b).reported = s.effective b ∨ .rederive b ∈ ns ++ s.unfinished

/-- The CLR holds a bay's set as reported, or the report is still to be made. -/
def ToldAt (b : BayNo) (ns : List Notice) (s : State) : Prop :=
  s.holdSets b = (s.dpmAt b).reported ∨ .clrHolds b ∈ ns ++ s.unfinished

/-- What the DPM does on a notice for bay b: other bays' sets stay; bay b's set is derived, or neither the reported nor the
effective one changes; a change of the reported one is told. -/
structure DerivesAt (b : BayNo) (s : State) (r : Reaction) : Prop where
  other : ∀ c, c ≠ b → r.1.dpmAt c = s.dpmAt c
  derived : (r.1.dpmAt b).reported = r.1.effective b ∨
    ((r.1.dpmAt b).reported = (s.dpmAt b).reported ∧ r.1.effective b = s.effective b)
  told : (r.1.dpmAt b).reported = (s.dpmAt b).reported ∨ .clrHolds b ∈ r.2

theorem DerivesAt.nothing (b : BayNo) (s : State) (ns : List Notice) : DerivesAt b s (s, ns) :=
  ⟨fun _ _ => rfl, .inr ⟨rfl, rfl⟩, .inl rfl⟩

theorem effective_congr {s t : State} {b : BayNo} (dpm : t.dpmAt b = s.dpmAt b) (hall : t.hallHold = s.hallHold) :
    t.effective b = s.effective b := by simp only [State.effective, dpm, hall]

theorem rederive_effective (b : BayNo) (s : State) :
    ((rederive b s).1.dpmAt b).reported = (rederive b s).1.effective b := by
  unfold rederive
  dsimp only
  split
  case isTrue same => exact same.symm
  · simp [State.effective, Dpm.automatic]

theorem rederive_derives (b : BayNo) {s t : State} (other : ∀ c, c ≠ b → t.dpmAt c = s.dpmAt c)
    (reported : (t.dpmAt b).reported = (s.dpmAt b).reported) : DerivesAt b s (rederive b t) := by
  refine ⟨fun c e => ?_, .inl (rederive_effective b t), ?_⟩
  · unfold rederive
    dsimp only
    split
    · exact other c e
    · rw [State.modDpm_dpmAt_ne _ _ e]; exact other c e
  · unfold rederive
    dsimp only
    split
    · exact .inl reported
    · exact .inr List.mem_cons_self

theorem rederive_modDpm_derives (b : BayNo) (s : State) {f : Dpm → Dpm}
    (reported : (f (s.dpmAt b)).reported = (s.dpmAt b).reported) : DerivesAt b s (rederive b (s.modDpm b f)) :=
  rederive_derives b (fun _ e => State.modDpm_dpmAt_ne _ _ e) (by rw [State.modDpm_dpmAt_same]; exact reported)

theorem report_derives (b : BayNo) (f : Conditions → Conditions) (s : State) : DerivesAt b s (report b f s) :=
  rederive_modDpm_derives b s rfl

theorem reportChange_derives (b : BayNo) (f : Conditions → Conditions) (s : State) :
    DerivesAt b s (reportChange b f s) := by
  unfold reportChange
  split
  · exact .nothing b s []
  · exact report_derives b f s

theorem tellReliance_derives (b : BayNo) (s : State) : DerivesAt b s (tellReliance b s) := by
  unfold tellReliance
  dsimp only
  split
  · exact .nothing b s []
  · exact rederive_modDpm_derives b s rfl

theorem tellFreeze_derives (b : BayNo) (on : Bool) (s : State) : DerivesAt b s (tellFreeze b on s) := by
  unfold tellFreeze
  split
  · exact .nothing b s []
  · exact rederive_modDpm_derives b s rfl

theorem workOut_derives (b : BayNo) (s : State) : DerivesAt b s (workOut b s) := by
  unfold workOut
  dsimp only
  split
  · exact .nothing b s []
  · exact ⟨fun c e => State.modDpm_dpmAt_ne _ _ e, .inr ⟨by simp, by simp [State.effective, Dpm.automatic]⟩, .inl (by simp)⟩

/-- Each notice to the DPM names the bay it derives. -/
theorem handle_derives {n : Notice} (holds : n.writer = .holds) (s : State) : ∃ b, DerivesAt b s (handle n s) := by
  cases n with
  | tellService b => exact ⟨b, (report_derives b _ s : DerivesAt b s (tellService b s))⟩
  | tellDock b => exact ⟨b, (report_derives b _ s : DerivesAt b s (tellDock b s))⟩
  | tellLink b => exact ⟨b, (report_derives b _ s : DerivesAt b s (tellLink b s))⟩
  | tellScan b => exact ⟨b, by unfold handle tellScan; exact report_derives b _ s⟩
  | tellHeat b => exact ⟨b, (reportChange_derives b _ s : DerivesAt b s (tellHeat b s))⟩
  | tellLamp b => exact ⟨b, (report_derives b _ s : DerivesAt b s (tellLamp b s))⟩
  | tellReliance b => exact ⟨b, tellReliance_derives b s⟩
  | tellFreeze b on => exact ⟨b, tellFreeze_derives b on s⟩
  | ownConditions b => exact ⟨b, by unfold handle ownConditions; exact reportChange_derives b _ s⟩
  | rederive b => exact ⟨b, rederive_derives b (fun _ _ => rfl) rfl⟩
  | workOut b => exact ⟨b, workOut_derives b s⟩
  | amended b fleet heat lane => exact ⟨b, .nothing b s _⟩
  | _ => exact absurd holds nofun

/-- The DPM's records and the hall hold set are left by every notice that is not the DPM's. -/
theorem dpm_of_outside {s t : State} {k : Writer} (other : k ≠ .holds) (h : t.outside k = s.outside k) :
    t.dpm = s.dpm ∧ t.hallHold = s.hallHold :=
  ⟨eq_of_outside State.dpm (fun _ => by cases k <;> first | rfl | exact absurd rfl other) h,
    eq_of_outside State.hallHold (fun _ => by cases k <;> rfl) h⟩

theorem handle_derived (n : Notice) (s : State) (c : BayNo) :
    ((handle n s).1.dpmAt c).reported = (handle n s).1.effective c ∨
      (((handle n s).1.dpmAt c).reported = (s.dpmAt c).reported ∧ (handle n s).1.effective c = s.effective c) := by
  have hall : (handle n s).1.hallHold = s.hallHold :=
    eq_of_outside State.hallHold (fun _ => by cases n.writer <;> rfl) (handle_outside n s)
  by_cases holds : n.writer = .holds
  · obtain ⟨b, derives⟩ := handle_derives holds s
    by_cases e : c = b
    · subst e; exact derives.derived
    · exact .inr ⟨by rw [derives.other c e], effective_congr (derives.other c e) hall⟩
  · have dpm : (handle n s).1.dpmAt c = s.dpmAt c := by
      simp only [State.dpmAt, (dpm_of_outside holds (handle_outside n s)).1]
    exact .inr ⟨by rw [dpm], effective_congr dpm hall⟩

theorem derivedAt_kept (c : BayNo) : KeptByNotices (DerivedAt c) where
  taken n ns s h := by
    have unfinished := unfinished_of_outside (handle_outside n s)
    by_cases own : n = .rederive c
    · subst own; exact .inl (rederive_effective c s)
    · rcases handle_derived n s c with derived | ⟨reported, effective⟩
      · exact .inl derived
      · rcases h with derived | owed
        · exact .inl (by rw [reported, effective, derived])
        · right
          rw [unfinished, List.append_assoc]
          refine List.mem_append_right _ ?_
          rcases List.mem_cons.mp owed with head | rest
          · exact absurd head.symm own
          · exact rest
  leftOver ns s h := by
    rcases h with derived | owed
    · exact .inl derived
    · exact .inr (List.mem_append_right [] (List.mem_append.mpr (List.mem_append.mp owed).symm))

/-! ### Hold sets told -/

theorem clrHolds_holdSets (b : BayNo) (s : State) :
    (clrHolds b s).1.holdSets = (s.modClr b (fun c => { c with holds := (s.dpmAt b).reported })).holdSets := by
  unfold clrHolds
  dsimp only
  split
  case h_1 | h_2 | h_3 | h_4 =>
    split
    · rfl
    · simp
  case h_5 | h_6 => split <;> simp [Machine.done]
  case h_7 => split <;> simp [Machine.done]
  all_goals rfl

theorem handle_told (n : Notice) (s : State) (c : BayNo) :
    ((handle n s).1.dpmAt c).reported = (s.dpmAt c).reported ∨ .clrHolds c ∈ (handle n s).2 := by
  by_cases holds : n.writer = .holds
  · obtain ⟨b, derives⟩ := handle_derives holds s
    by_cases e : c = b
    · subst e; exact derives.told
    · exact .inl (by rw [derives.other c e])
  · exact .inl (by simp only [State.dpmAt, (dpm_of_outside holds (handle_outside n s)).1])

theorem handle_holdSets_other {n : Notice} {c : BayNo} (other : n ≠ .clrHolds c) (s : State) :
    (handle n s).1.holdSets c = s.holdSets c := by
  by_cases clearance : n.writer = .clearance
  · by_cases reports : ∃ b, n = .clrHolds b
    · obtain ⟨b, rfl⟩ := reports
      have e : c ≠ b := fun e => other (e ▸ rfl)
      refine (congrFun (clrHolds_holdSets b s) c).trans ?_
      simp [State.holdSets, e]
    · exact congrFun (handle_holdSets clearance (fun b e => reports ⟨b, e⟩) s) c
  · have clr : (handle n s).1.clr = s.clr := by
      have frame := handle_outside n s
      generalize n.writer = k at frame clearance
      exact eq_of_outside State.clr (fun _ => by cases k <;> first | rfl | exact absurd rfl clearance) frame
    simp only [State.holdSets, State.clrAt, clr]

theorem toldAt_kept (c : BayNo) : KeptByNotices (ToldAt c) where
  taken n ns s h := by
    have unfinished := unfinished_of_outside (handle_outside n s)
    by_cases own : n = .clrHolds c
    · subst own
      left
      have dpm : (handle (.clrHolds c) s).1.dpmAt c = s.dpmAt c := by
        have same := (dpm_of_outside (k := .clearance) nofun (handle_outside (.clrHolds c) s)).1
        simp only [State.dpmAt, same]
      rw [dpm]
      refine (congrFun (clrHolds_holdSets c s) c).trans ?_
      simp [State.holdSets]
    · rcases handle_told n s c with reported | told
      · rcases h with same | owed
        · left
          rw [handle_holdSets_other own, reported, same]
        · right
          rw [unfinished, List.append_assoc]
          refine List.mem_append_right _ ?_
          rcases List.mem_cons.mp owed with head | rest
          · exact absurd head.symm own
          · exact rest
      · exact .inr (List.mem_append_left _ (List.mem_append_left _ told))
  leftOver ns s h := by
    rcases h with same | owed
    · exact .inl same
    · exact .inr (List.mem_append_right [] (List.mem_append.mpr (List.mem_append.mp owed).symm))

/-! ### The agreement as one invariant -/

/-- Lanes, wait order, clearance states and hold sets agree, under the notices still to be taken. -/
structure LanesAgree (ns : List Notice) (s : State) : Prop where
  fit : s.LanesFit (fun _ => True)
  derived : ∀ b, DerivedAt b ns s
  told : ∀ b, ToldAt b ns s

theorem standing_fits_of_sound {s : State} (h : s.LanesSound) (b : BayNo) : (s.standing b).Fits where
  lane := standing_lane_iff.trans (h.granted b).symm
  waits := (List.contains_iff_mem.trans (h.waiting.2 b) :)
  clear := h.clear b
  preparing := h.preparing b
  revoking := h.revoking b

theorem lanesSound_iff {s : State} : s.LanesSound ↔ LanesAgree [] s := by
  constructor
  · intro h
    exact ⟨⟨⟨h.record, h.oneLane, h.waiting.1⟩, fun b _ => standing_fits_of_sound h b, fun b other => absurd trivial other⟩,
      h.derived, h.told⟩
  · rintro ⟨⟨⟨record, oneLane, once⟩, fits, -⟩, derived, told⟩
    have fits (b : BayNo) := fits b trivial
    exact ⟨record, oneLane, fun b => (fits b).lane.symm.trans standing_lane_iff,
      ⟨once, fun b => List.contains_iff_mem.symm.trans (fits b).waits⟩, fun b => (fits b).clear,
      fun b => (fits b).preparing, fun b => (fits b).revoking, derived, told⟩

theorem lanesAgree_keptByNotices : KeptByNotices LanesAgree where
  taken n ns s h := ⟨h.fit.handle (fun _ => trivial) n, fun b => (derivedAt_kept b).taken n ns s (h.derived b),
    fun b => (toldAt_kept b).taken n ns s (h.told b)⟩
  leftOver ns s h := ⟨h.fit.of_same rfl (lanesWell_of_eq (s := s) rfl rfl rfl h.fit.toLanesWell),
    fun b => (derivedAt_kept b).leftOver ns s (h.derived b), fun b => (toldAt_kept b).leftOver ns s (h.told b)⟩

/-- What the agreement reads of a state. -/
theorem LanesAgree.of_same {ns ns' : List Notice} {s t : State} (h : LanesAgree ns s) (standing : t.standing = s.standing)
    (well : s.LanesWell → t.LanesWell) (sets : ∀ b, t.holdSets b = s.holdSets b)
    (dpm : ∀ b, (t.dpmAt b).reported = (s.dpmAt b).reported)
    (effective : ∀ b, t.effective b = s.effective b ∨ .rederive b ∈ ns')
    (owed : ∀ n, n ∈ ns ++ s.unfinished → n ∈ ns' ++ t.unfinished) : LanesAgree ns' t := by
  refine ⟨h.fit.of_same standing (well h.fit.toLanesWell), fun b => ?_, fun b => ?_⟩
  · rcases effective b with same | told
    · exact (h.derived b).imp (fun derived => by rw [dpm, derived, same]) (owed _)
    · exact .inr (List.mem_append_left _ told)
  · exact (h.told b).imp (fun told => by rw [sets, dpm, told]) (owed _)

/-- A state with the same clearances, lanes and holds. -/
theorem LanesAgree.of_eq {ns ns' : List Notice} {s t : State} (h : LanesAgree ns s) (clr : t.clr = s.clr)
    (laneA : t.laneA = s.laneA) (laneB : t.laneB = s.laneB) (order : t.waitOrder = s.waitOrder) (dpm : t.dpm = s.dpm)
    (hall : t.hallHold = s.hallHold) (owed : ∀ n, n ∈ ns ++ s.unfinished → n ∈ ns' ++ t.unfinished) :
    LanesAgree ns' t := by
  refine h.of_same (standing_ext (fun c => ?_) laneA laneB order) (lanesWell_of_eq laneA laneB order) (fun b => ?_)
    (fun b => ?_) (fun b => .inl ?_) owed
  · simp only [State.clrAt, clr, and_self]
  · simp only [State.holdSets, State.clrAt, clr]
  · simp only [State.dpmAt, dpm]
  · exact effective_congr (by simp only [State.dpmAt, dpm]) hall

theorem Acts.holdSets {s : State} {k : Writer} {r : Reaction} (acted : Acts s k r) : r.1.holdSets = s.holdSets := by
  by_cases clearance : k = .clearance
  · cases acted with
    | openWait b =>
      unfold clrOpenWaitExpired
      split
      · exact (clrOpenPoint_holdSets b _).trans (holdSets_modClr s b _ fun _ => rfl)
      · rfl
    | plugTimer b =>
      unfold clrPlugExpired
      split
      · exact (clrRevoke_holdSets b true _).trans (holdSets_modClr s b _ fun _ => rfl)
      · rfl
    | laneTimer l => unfold laneExpired; dsimp only; split <;> exact holdSets_modLane ..
    | passage l =>
      unfold passagePulse
      split
      · exact holdSets_modLane ..
      · rfl
    | closeLane l =>
      unfold Machine.closeLane
      split
      case h_4 => rfl
      all_goals exact holdSets_modLane ..
    | openLane l =>
      unfold Machine.openLane
      split
      case h_4 => rfl
      all_goals exact holdSets_modLane ..
    | _ => exact absurd clearance nofun
  · have clr : r.1.clr = s.clr :=
      eq_of_outside State.clr (fun _ => by cases k <;> first | rfl | exact absurd rfl clearance) acted.outside
    funext b; simp only [State.holdSets, State.clrAt, clr]

theorem Begins.lanesAgree {part : Held} {s : State} {r : Reaction} (begun : Begins s part r)
    (h : LanesAgree [] s) : LanesAgree r.2 r.1 := by
  have owed (ns : List Notice) : ∀ n, n ∈ [] ++ s.unfinished → n ∈ ns ++ s.unfinished :=
    fun n mem => List.mem_append_right _ mem
  cases begun with
  | @acts _ k r acted =>
    have holds : k ≠ .holds := by rintro rfl; cases acted
    obtain ⟨dpm, hall⟩ := dpm_of_outside holds acted.outside
    have unfinished := unfinished_of_outside acted.outside
    refine ⟨h.fit.acts (fun _ => trivial) acted, fun b => ?_, fun b => ?_⟩
    · refine (h.derived b).imp (fun derived => ?_) (fun mem => unfinished ▸ List.mem_append_right _ mem)
      have same : r.1.dpmAt b = s.dpmAt b := by simp only [State.dpmAt, dpm]
      rw [same, effective_congr same hall]; exact derived
    · refine (h.told b).imp (fun told => ?_) (fun mem => unfinished ▸ List.mem_append_right _ mem)
      rw [acted.holdSets]
      simpa only [State.dpmAt, dpm] using told
  | hold b x fits =>
    refine h.of_same rfl (lanesWell_of_eq rfl rfl rfl) (fun _ => rfl) (fun c => ?_) (fun c => ?_) (owed _)
    · by_cases e : c = b
      · subst e; simp
      · simp [e]
    · by_cases e : c = b
      · subst e; exact .inr List.mem_cons_self
      · exact .inl (effective_congr (State.modDpm_dpmAt_ne _ _ e) rfl)
  | hallHold x fits =>
    exact h.of_same rfl (lanesWell_of_eq rfl rfl rfl) (fun _ => rfl) (fun _ => rfl)
      (fun c => .inr (List.mem_map_of_mem (mem_allBays c))) (owed _)
  | _ => exact h.of_eq rfl rfl rfl rfl rfl rfl (owed _)

end Sys2Proof.Machine
end

section
/-! O7 through a RESTART (R176): the lanes of CLEARING bays are released and every bay but the CLEARED and RECALLED ones is
set from its sensors; in between, only the CLEARED and RECALLED bays agree, and only they move. -/

namespace Sys2Proof.Machine

/-! ### Up to step 3 -/

/-- What a RESTART up to step 3 leaves of clearances, lanes, wait order and hold sets. -/
structure SameClearances (s t : State) : Prop where
  clr : t.clr = s.clr
  laneA : t.laneA = s.laneA
  laneB : t.laneB = s.laneB
  order : t.waitOrder = s.waitOrder
  dpm : t.dpm = s.dpm
  hall : t.hallHold = s.hallHold
  unfinished : t.unfinished = s.unfinished

theorem SameClearances.refl (s : State) : SameClearances s s := ⟨rfl, rfl, rfl, rfl, rfl, rfl, rfl⟩

theorem SameClearances.trans {s t u : State} (h : SameClearances s t) (h' : SameClearances t u) : SameClearances s u :=
  ⟨h'.clr.trans h.clr, h'.laneA.trans h.laneA, h'.laneB.trans h.laneB, h'.order.trans h.order, h'.dpm.trans h.dpm,
    h'.hall.trans h.hall, h'.unfinished.trans h.unfinished⟩

theorem SameClearances.agree {ns : List Notice} {s t : State} (h : SameClearances s t) (agree : LanesAgree ns s) :
    LanesAgree ns t :=
  agree.of_eq h.clr h.laneA h.laneB h.order h.dpm h.hall (fun _ mem => h.unfinished ▸ mem)

theorem forBays_sameClearances {f : BayNo → State → State} (h : ∀ b s, SameClearances s (f b s)) (s : State) :
    SameClearances s (forBays f s) :=
  forBays_preserves (P := SameClearances s) (fun b t ht => ht.trans (h b t)) (.refl s)

theorem restartLink_sameClearances (b : BayNo) (s : State) : SameClearances s (restartLink b s) := by
  unfold restartLink; split <;> exact ⟨rfl, rfl, rfl, rfl, rfl, rfl, rfl⟩

theorem restartSession_sameClearances (b : BayNo) (s : State) : SameClearances s (restartSession b s) :=
  ⟨rfl, rfl, rfl, rfl, rfl, rfl, rfl⟩

theorem restartHall_sameClearances (s : State) : SameClearances s (restartHall s) := ⟨rfl, rfl, rfl, rfl, rfl, rfl, rfl⟩

theorem restartField_sameClearances (b : BayNo) (s : State) : SameClearances s (restartField b s) :=
  ⟨rfl, rfl, rfl, rfl, rfl, rfl, rfl⟩

theorem restartDocking_sameClearances (b : BayNo) (s : State) : SameClearances s (restartDocking b s) := by
  unfold restartDocking; split <;> exact ⟨rfl, rfl, rfl, rfl, rfl, rfl, rfl⟩

theorem raiseFlag_sameClearances (s : State) (b : BayNo) (k : BayFlag) (r : Reason) (q : Bool) :
    SameClearances s (raiseFlag s b k r q) := ⟨rfl, rfl, rfl, rfl, rfl, rfl, rfl⟩

theorem raiseHallFlag_sameClearances (s : State) (k : HallFlag) (r : Reason) : SameClearances s (raiseHallFlag s k r) :=
  ⟨rfl, rfl, rfl, rfl, rfl, rfl, rfl⟩

theorem restartFlags_sameClearances (b : BayNo) (s : State) : SameClearances s (restartFlags b s) := by
  have first : SameClearances s (if (s.bfeAt b).conflict then raiseFlag s b .sensor .plain false else s) := by
    split
    · exact raiseFlag_sameClearances ..
    · exact .refl s
  unfold restartFlags
  dsimp only
  generalize (if (s.bfeAt b).conflict then raiseFlag s b .sensor .plain false else s) = t at first
  split
  · exact first.trans (raiseFlag_sameClearances t b _ _ _)
  · exact first

theorem restartAllFlags_sameClearances (s : State) : SameClearances s (restartAllFlags s) := by
  have unflagged : SameClearances s s.unflagged := ⟨rfl, rfl, rfl, rfl, rfl, rfl, rfl⟩
  have reset := unflagged.trans (raiseHallFlag_sameClearances s.unflagged .reset (.reset true))
  have hall : SameClearances s s.hallFlagged := by
    unfold State.hallFlagged
    split
    · exact reset
    · exact reset.trans (raiseHallFlag_sameClearances ..)
  rw [restartAllFlags_eq]
  exact hall.trans (forBays_sameClearances restartFlags_sameClearances _)

theorem restartCore_sameClearances (s : State) : SameClearances s (restartCore s) :=
  (((forBays_sameClearances restartLink_sameClearances s).trans
    (forBays_sameClearances restartSession_sameClearances _)).trans (restartHall_sameClearances _)).trans
    (forBays_sameClearances restartField_sameClearances _)

/-! ### Lanes released -/

/-- The notices of a lane release and of what it leads to while only RECALLED bays wait. -/
def Notice.offers : Notice → Prop
  | .raise _ _ _ _ | .raiseHall _ _ | .laneOffer _ | .clrOfferTo _ => True
  | _ => False

theorem Notice.offers_cases {n : Notice} (offers : n.offers) : (∃ b k r q, n = .raise b k r q) ∨ (∃ k r, n = .raiseHall k r) ∨
    (∃ l, n = .laneOffer l) ∨ ∃ b, n = .clrOfferTo b := by
  unfold Notice.offers at offers
  split at offers
  · exact .inl ⟨_, _, _, _, rfl⟩
  · exact .inr (.inl ⟨_, _, rfl⟩)
  · exact .inr (.inr (.inl ⟨_, rfl⟩))
  · exact .inr (.inr (.inr ⟨_, rfl⟩))
  · exact offers.elim

/-- While lanes are offered to RECALLED bays: the bays of a set agree and are CLEARED or RECALLED, the others stand as they
stood and do not wait. -/
structure Offering (X : BayNo → Prop) (before : BayNo → Standing) (ns : List Notice) (s : State) : Prop where
  notices : ∀ n ∈ ns, n.offers
  fit : s.LanesFit X
  order : s.RecalledWait
  out : ∀ b, X b → (s.standing b).state.isOut = true
  others : ∀ b, ¬ X b → s.standing b = before b

section
variable {X : BayNo → Prop} {before : BayNo → Standing} {ns : List Notice} {s : State}

theorem Offering.grant {n : Notice} (h : Offering X before (n :: ns) s) {l : Lane} {b : BayNo}
    (free : (s.laneAt l).state = .free) (none : s.holdsLane b = false) (waits : b ∈ s.waitOrder) :
    Offering X before ((grantLane l b s).2 ++ ns) (grantLane l b s).1 := by
  have hb := h.fit.of_waits waits
  have recalled : (s.standing b).state = .recalled := h.order b waits
  refine ⟨fun m mem => ?_, h.fit.grantLane free none waits, (grantLane_calm h.order l waits).order, fun c hc => ?_,
    fun c hc => ?_⟩
  · rcases List.mem_append.mp mem with mem | mem
    · have recalled : (s.clrAt b).state = .recalled := recalled
      simp only [grantLane, if_pos recalled, Reaction.also, enterClear, List.mem_append, List.mem_singleton] at mem
      rcases mem with rfl | rfl <;> exact trivial
    · exact h.notices m (List.mem_cons_of_mem _ mem)
  · rw [grantLane_standing free]
    by_cases e : c = b
    · subst e; rw [putStanding_same]; simp [Standing.granted, recalled, ClearState.isOut]
    · rw [putStanding_ne e]; exact h.out c hc
  · rw [grantLane_standing free, putStanding_ne (fun e : c = b => hc (e ▸ hb))]; exact h.others c hc

theorem Offering.quiet {n : Notice} (h : Offering X before (n :: ns) s) : Offering X before ns s :=
  ⟨fun m mem => h.notices m (List.mem_cons_of_mem _ mem), h.fit, h.order, h.out, h.others⟩

theorem Offering.of_same {t : State} (h : Offering X before ns s) (standing : t.standing = s.standing)
    (well : t.LanesWell) (order : t.RecalledWait) : Offering X before ns t :=
  ⟨h.notices, h.fit.of_same standing well, order, standing ▸ h.out, standing ▸ h.others⟩

theorem Offering.raised {t : State} (h : Offering X before ns s) (frame : t.outside .raising = s.outside .raising) :
    Offering X before ns t := by
  have clr : t.clr = s.clr := eq_of_outside State.clr (fun _ => rfl) frame
  have order : t.waitOrder = s.waitOrder := eq_of_outside State.waitOrder (fun _ => rfl) frame
  refine h.of_same (standing_of_outside (k := .raising) nofun frame) (h.fit.of_outside (k := .raising) nofun frame).toLanesWell fun b mem => ?_
  rw [State.clrAt, clr]; exact h.order b (order ▸ mem)

theorem offering_kept (X : BayNo → Prop) (before : BayNo → Standing) : KeptByNotices (Offering X before) where
  taken n ns s h := by
    obtain ⟨b, k, r, q, rfl⟩ | ⟨k, r, rfl⟩ | ⟨l, rfl⟩ | ⟨b, rfl⟩ := Notice.offers_cases (h.notices n List.mem_cons_self)
    · exact h.quiet.raised (handle_outside (.raise b k r q) s)
    · exact h.quiet.raised (handle_outside (.raiseHall k r) s)
    · unfold handle laneOffer
      dsimp only
      split
      case isTrue free =>
        split
        case h_1 b found =>
          exact h.grant free (mayBeGranted_holdsLane (List.find?_some (p := fun b => s.mayBeGranted b l) found))
            (List.mem_of_find?_eq_some found)
        · exact h.quiet
      · exact h.quiet
    · unfold handle clrOfferTo
      dsimp only
      split
      case isTrue waits =>
        have waits := List.contains_iff_mem.mp waits
        split
        case isTrue offered => exact h.grant (l := .a) offered.1 (mayBeGranted_holdsLane offered.2) waits
        · split
          case isTrue offered => exact h.grant (l := .b) offered.1 (mayBeGranted_holdsLane offered.2) waits
          · exact h.quiet
      · exact h.quiet
  leftOver ns s h :=
    ⟨fun _ mem => absurd mem List.not_mem_nil, h.fit.of_same rfl (lanesWell_of_eq (s := s) rfl rfl rfl h.fit.toLanesWell),
      h.order, h.out, h.others⟩

end

/-- While the lanes of CLEARING bays are released: the CLEARED and RECALLED bays agree; any other stands before CLEARED,
and holds a lane only while it is CLEARING. -/
structure Releasing (X : BayNo → Prop) (s : State) : Prop where
  fit : s.LanesFit X
  order : s.RecalledWait
  out : ∀ b, X b → (s.standing b).state.isOut = true
  inside : ∀ b, ¬ X b → (s.standing b).state.isOut = false ∧
    ((s.standing b).lane = true → (s.standing b).state = .clearing)

theorem restartUnclear_standing (b : BayNo) (s : State) : (restartUnclear b s).standing = s.standing :=
  standing_ext (fun c => by by_cases e : c = b <;> simp [restartUnclear, e]) rfl rfl rfl

theorem restartClearing_of_clearing {b : BayNo} {s : State} (h : (s.clrAt b).state = .clearing) :
    restartClearing b s = perform (laneReleaseOf b (restartUnclear b s)) := if_pos h

theorem restartClearing_of_other {b : BayNo} {s : State} (h : (s.clrAt b).state ≠ .clearing) :
    restartClearing b s = s := if_neg h

/-- Step 4 takes the lane of a bay before CLEARED and leaves every other one of these bays as it stands. -/
theorem restartClearing_releases {X : BayNo → Prop} {s : State} (h : Releasing X s) (b : BayNo) :
    Releasing X (restartClearing b s) ∧ ∀ c, ¬ X c → (restartClearing b s).standing c =
      if c = b then { s.standing c with lane := false } else s.standing c := by
  by_cases clearing : (s.clrAt b).state = .clearing
  case neg =>
    rw [restartClearing_of_other clearing]
    refine ⟨h, fun c hc => ?_⟩
    split
    case isTrue e =>
      have noLane : (s.standing c).lane = false :=
        Bool.eq_false_iff.mpr fun lane => clearing (e ▸ (h.inside c hc).2 lane)
      rw [← noLane]
    · rfl
  case pos =>
    rw [restartClearing_of_clearing clearing]
    have notOut : ¬ X b := fun hb => by
      have out := h.out b hb
      have state : (s.standing b).state = .clearing := clearing
      rw [state] at out; exact absurd out (by decide)
    have well : (restartUnclear b s).LanesWell := h.fit.toLanesWell.modClr b _
    have standing : (laneReleaseOf b (restartUnclear b s)).1.standing =
        putStanding s.standing b { s.standing b with lane := false } := by
      rw [laneReleaseOf_standing well, restartUnclear_standing]
    have other {c : BayNo} (hc : X c) : (laneReleaseOf b (restartUnclear b s)).1.standing c = s.standing c := by
      rw [standing, putStanding_ne (fun e : c = b => notOut (e ▸ hc))]
    have start : Offering X (laneReleaseOf b (restartUnclear b s)).1.standing (laneReleaseOf b (restartUnclear b s)).2
        (laneReleaseOf b (restartUnclear b s)).1 := by
      refine ⟨laneReleaseOf_all (fun _ => trivial) (fun _ => trivial) (fun _ => trivial) b _,
        ⟨well.laneReleaseOf b, fun c hc => other hc ▸ h.fit.fits c hc, fun c hc => ?_⟩,
        (laneReleaseOf_calm (restartUnclear_recalled h.order b) b).order, fun c hc => other hc ▸ h.out c hc, fun _ _ => rfl⟩
      rw [standing]
      by_cases e : c = b
      · subst e; rw [putStanding_same]; exact h.fit.others c hc
      · rw [putStanding_ne e]; exact h.fit.others c hc
    have after : Offering X (laneReleaseOf b (restartUnclear b s)).1.standing []
        (perform (laneReleaseOf b (restartUnclear b s))) :=
      (offering_kept X _).perform (r := laneReleaseOf b (restartUnclear b s)) start
    have read (c : BayNo) (hc : ¬ X c) : (perform (laneReleaseOf b (restartUnclear b s))).standing c =
        if c = b then { s.standing c with lane := false } else s.standing c := by
      rw [after.others c hc, standing]
      by_cases e : c = b
      · subst e; rw [putStanding_same, if_pos rfl]
      · rw [putStanding_ne e, if_neg e]
    refine ⟨⟨after.fit, after.order, after.out, fun c hc => ?_⟩, read⟩
    obtain ⟨notOut, lane⟩ := h.inside c hc
    rw [read c hc]
    split
    · exact ⟨notOut, fun held => absurd held Bool.false_ne_true⟩
    · exact ⟨notOut, lane⟩

/-- After step 4's releases no bay before CLEARED holds a lane. -/
theorem forBays_restartClearing_lanes {X : BayNo → Prop} {s : State} (h : Releasing X s) :
    Releasing X (forBays restartClearing s) ∧ ∀ c, ¬ X c → ((forBays restartClearing s).standing c).lane = false := by
  refine ⟨forBays_preserves (P := Releasing X) (fun b t ht => (restartClearing_releases ht b).1) h, fun c => ?_⟩
  refine forBays_each (P := Releasing X) (Q := fun t c => ¬ X c → (t.standing c).lane = false)
    (fun b t ht => (restartClearing_releases ht b).1) (fun b t ht hb => ?_) (fun b c t ht free hc => ?_) h c
  · rw [(restartClearing_releases ht b).2 b hb, if_pos rfl]
  · rw [(restartClearing_releases ht b).2 c hc]
    split
    · rfl
    · exact free hc

/-! ### Clearance states set from the sensors -/

/-- Before a bay's clearance state is set from its sensors: it agrees where it is CLEARED or RECALLED; else it holds no lane
and does not wait. -/
def Standing.Settles (x : Standing) : Prop :=
  (x.state.isOut = true → x.Fits) ∧ (x.state.isOut = false → x.lane = false ∧ x.waits = false)

theorem Standing.Fits.idle {x : Standing} (h : x.Settles) {st : ClearState}
    (idle : st = .outOfService ∨ st = .empty ∨ st = .arrived ∨ st = .docking) (inside : x.state.isOut = false) :
    ({ x with state := st, revoking := false } : Standing).Fits := by
  obtain ⟨lane, waits⟩ := h.2 inside
  show (⟨st, x.held, false, x.lane, x.waits⟩ : Standing).Fits
  rw [lane, waits]
  exact Standing.fits_idle _ idle

theorem sensedState_idle (f : Bfe) : f.clearState = .outOfService ∨ f.clearState = .empty ∨ f.clearState = .arrived ∨
    f.clearState = .docking := by
  unfold Bfe.clearState
  split
  · simp
  · split <;> simp

/-- What step 4 makes of a bay's standing. -/
theorem restartClearance_standing (b : BayNo) (s : State) (h : (s.standing b).Settles) :
    ∃ x : Standing, (restartClearance b s).standing = putStanding s.standing b x ∧ x.Fits := by
  unfold restartClearance
  dsimp only
  split
  case isTrue out =>
    have fits := h.1 out
    have notRevoking : (s.standing b).revoking = false := Bool.eq_false_iff.mpr fun revoking => by
      have out : (s.standing b).state.isOut = true := out
      rw [fits.revoking revoking] at out; exact absurd out (by decide)
    refine ⟨{ s.standing b with revoking := false }, ?_, ?_⟩
    · exact standing_modClr (g := fun x => { x with revoking := false }) _ _ rfl
    · rw [← notRevoking]; exact fits
  case isFalse inside =>
    have inside : (s.standing b).state.isOut = false := Bool.not_eq_true _ ▸ inside
    refine ⟨{ s.standing b with
      state := if (s.bfeAt b).enabled then (s.bfeAt b).clearState else .outOfService, revoking := false }, ?_,
      Standing.Fits.idle h ?_ inside⟩
    · rw [standing_setClear, standing_modClr (g := fun x => { x with revoking := false }) _ _ rfl]
      simp
    · split
      · exact sensedState_idle _
      · exact .inl rfl

theorem restartClearance_well (b : BayNo) {s : State} (h : s.LanesWell) : (restartClearance b s).LanesWell := by
  unfold restartClearance
  dsimp only
  split
  · exact h.modClr b _
  · exact State.LanesWell.setClear (h.modClr b _) b _

theorem Standing.Fits.settles {x : Standing} (h : x.Fits) (calm : x.state.calm = true) : x.Settles := by
  refine ⟨fun _ => h, fun inside => h.inside ?_ ?_ ?_ |>.imp id fun waits => ?_⟩
  · intro e; rw [e] at calm; exact absurd calm (by decide)
  · intro e; rw [e] at inside; exact absurd inside (by decide)
  · intro e; rw [e] at inside; exact absurd inside (by decide)
  · refine Bool.eq_false_iff.mpr fun w => ?_
    rw [waits w] at calm; exact absurd calm (by decide)

/-- Where every bay is fit to be set from its sensors, every bay agrees afterwards. -/
theorem forBays_restartClearance_fit {s : State} (well : s.LanesWell) (h : ∀ b, (s.standing b).Settles) :
    (forBays restartClearance s).LanesFit (fun _ => True) := by
  have own (b : BayNo) (t : State) (ht : ∀ c, (t.standing c).Settles) : ((restartClearance b t).standing b).Fits := by
    obtain ⟨x, standing, fits⟩ := restartClearance_standing b t (ht b)
    rw [standing, putStanding_same]; exact fits
  have other (b c : BayNo) (t : State) (ht : ∀ c, (t.standing c).Settles) (e : c ≠ b) :
      (restartClearance b t).standing c = t.standing c := by
    obtain ⟨x, standing, -⟩ := restartClearance_standing b t (ht b)
    rw [standing, putStanding_ne e]
  have keeps (b : BayNo) (t : State) (ht : t.LanesWell ∧ ∀ c, (t.standing c).Settles) :
      (restartClearance b t).LanesWell ∧ ∀ c, ((restartClearance b t).standing c).Settles := by
    refine ⟨restartClearance_well b ht.1, fun c => ?_⟩
    by_cases e : c = b
    · subst e; exact (own c t ht.2).settles (restartClearance_calm c t)
    · rw [other b c t ht.2 e]; exact ht.2 c
  refine ⟨(forBays_preserves (P := fun t => t.LanesWell ∧ ∀ c, (t.standing c).Settles) keeps ⟨well, h⟩).1, fun c _ => ?_,
    fun c notAll => absurd trivial notAll⟩
  refine forBays_each (P := fun t => t.LanesWell ∧ ∀ c, (t.standing c).Settles) (Q := fun t c => (t.standing c).Fits) keeps
    (fun b t ht => own b t ht.2) (fun b c t ht fits => ?_) ⟨well, h⟩ c
  by_cases e : c = b
  · subst e; exact own c t ht.2
  · rw [other b c t ht.2 e]; exact fits

/-! ### The whole RESTART -/

/-- The bays that are CLEARED or RECALLED. -/
def State.outBays (s : State) (b : BayNo) : Prop := (s.clrAt b).state.isOut = true

theorem restartOrder_standing (s : State) (b : BayNo) : (restartOrder s).standing b =
    { s.standing b with waits := (s.standing b).waits && (s.clrAt b).state == .recalled } := by
  simp only [State.standing, restartOrder, State.clrAt]
  congr 1
  rw [Bool.eq_iff_iff]
  simp

theorem restartOrder_releasing {s : State} (h : s.LanesFit (fun _ => True)) : Releasing s.outBays (restartOrder s) := by
  have same {b : BayNo} (out : s.outBays b) : (restartOrder s).standing b = s.standing b := by
    have fits := h.fits b trivial
    rw [restartOrder_standing]
    have waits : ((s.standing b).waits && (s.clrAt b).state == .recalled) = (s.standing b).waits := by
      have state : (s.standing b).state = (s.clrAt b).state := rfl
      rw [Bool.eq_iff_iff, Bool.and_eq_true, beq_iff_eq]
      refine ⟨fun w => w.1, fun w => ⟨w, ?_⟩⟩
      rcases fits.waits.mp w with e | ⟨e, -⟩
      · have out : (s.clrAt b).state.isOut = true := out
        rw [← state, e] at out; exact absurd out (by decide)
      · exact e
    rw [waits]
  refine ⟨⟨⟨h.record, h.oneLane, h.once.filter _⟩, fun b out => same out ▸ h.fits b trivial, fun b inside => ?_⟩,
    restartOrder_recalled s, fun b out => same out ▸ out, fun b inside => ?_⟩
  · rw [restartOrder_standing, Bool.and_eq_false_iff]
    refine .inr (beq_eq_false_iff_ne.mpr fun recalled => inside ?_)
    show (s.clrAt b).state.isOut = true
    rw [recalled]; rfl
  · have notOut : (s.clrAt b).state.isOut = false := Bool.not_eq_true _ ▸ inside
    refine ⟨notOut, fun lane => ?_⟩
    rcases (h.fits b trivial).lane.mp lane with e | e
    · exact e
    · have e : (s.clrAt b).state = .cleared := e
      rw [e] at notOut; exact absurd notOut (by decide)

theorem Releasing.settles {X : BayNo → Prop} {s : State} (h : Releasing X s)
    (lanes : ∀ c, ¬ X c → (s.standing c).lane = false) (c : BayNo) : (s.standing c).Settles := by
  by_cases hc : X c
  · refine ⟨fun _ => h.fit.fits c hc, fun inside => ?_⟩
    rw [h.out c hc] at inside; exact absurd inside (by decide)
  · refine ⟨fun out => ?_, fun _ => ⟨lanes c hc, h.fit.others c hc⟩⟩
    rw [(h.inside c hc).1] at out; exact absurd out (by decide)

theorem restartBlocks_fit (s : State) (h : s.LanesFit (fun _ => True)) : (restartBlocks s).LanesFit (fun _ => True) := by
  have core : (restartCore s).LanesFit (fun _ => True) := by
    have same := restartCore_sameClearances s
    refine h.of_same (standing_ext (fun c => ?_) same.laneA same.laneB same.order)
      (lanesWell_of_eq same.laneA same.laneB same.order h.toLanesWell)
    simp only [State.clrAt, same.clr, and_self]
  obtain ⟨releasing, lanes⟩ := forBays_restartClearing_lanes (restartOrder_releasing core)
  rw [restartBlocks_eq]
  exact forBays_restartClearance_fit releasing.fit.toLanesWell (releasing.settles lanes)

theorem toldAt_of_eq {b : BayNo} {s t : State} (sets : t.holdSets = s.holdSets) (dpm : t.dpm = s.dpm)
    (unfinished : t.unfinished = s.unfinished) (h : ToldAt b [] s) : ToldAt b [] t := by
  unfold ToldAt at h ⊢
  simp only [sets, State.dpmAt, dpm, unfinished]
  exact h

theorem restartClearing_told (b c : BayNo) (s : State) (h : ToldAt c [] s) : ToldAt c [] (restartClearing b s) := by
  by_cases clearing : (s.clrAt b).state = .clearing
  · rw [restartClearing_of_clearing clearing]
    refine (toldAt_kept c).perform (r := laneReleaseOf b (restartUnclear b s)) ?_
    have frame := laneReleaseOf_outside b (restartUnclear b s)
    refine Or.imp (fun told => ?_) (fun mem => ?_) h
    · rw [laneReleaseOf_holdSets, State.dpmAt, (dpm_of_outside (k := .clearance) nofun frame).1]
      have sets : (restartUnclear b s).holdSets = s.holdSets := holdSets_modClr s b _ fun _ => rfl
      rw [sets]; exact told
    · rw [unfinished_of_outside (k := .clearance) frame]; exact List.mem_append_right _ mem
  · rw [restartClearing_of_other clearing]; exact h

theorem restartClearance_told (b c : BayNo) (s : State) (h : ToldAt c [] s) : ToldAt c [] (restartClearance b s) := by
  unfold restartClearance
  dsimp only
  split
  · refine toldAt_of_eq (holdSets_modClr s b _ ?_) rfl rfl h
    exact fun _ => rfl
  · refine toldAt_of_eq ((holdSets_setClear _ b _).trans (holdSets_modClr s b _ ?_)) rfl rfl h
    exact fun _ => rfl

theorem SameClearances.told {b : BayNo} {s t : State} (same : SameClearances s t) (h : ToldAt b [] s) : ToldAt b [] t :=
  toldAt_of_eq (by funext c; simp only [State.holdSets, State.clrAt, same.clr]) same.dpm same.unfinished h

theorem restartBlocks_told (s : State) (c : BayNo) (h : ToldAt c [] s) : ToldAt c [] (restartBlocks s) := by
  rw [restartBlocks_eq]
  refine forBays_preserves (P := ToldAt c []) (fun b t => restartClearance_told b c t) ?_
  refine forBays_preserves (P := ToldAt c []) (fun b t => restartClearing_told b c t) ?_
  have order (t : State) (ht : ToldAt c [] t) : ToldAt c [] (restartOrder t) := ht
  exact order _ ((restartCore_sameClearances s).told h)

/-- The hold sets derived anew in step 7. -/
theorem forBays_restartHolds {s : State} (fit : s.LanesFit (fun _ => True)) (told : ∀ b, ToldAt b [] s) :
    LanesAgree [] (forBays restartHolds s) := by
  have kept : KeptByNotices (fun ns t => t.LanesFit (fun _ => True) ∧ ∀ b, ToldAt b ns t) :=
    ⟨fun n ns t h => ⟨h.1.handle (fun _ => trivial) n, fun b => (toldAt_kept b).taken n ns t (h.2 b)⟩,
      fun ns t h => ⟨h.1.of_same rfl (lanesWell_of_eq (s := t) rfl rfl rfl h.1.toLanesWell),
        fun b => (toldAt_kept b).leftOver ns t (h.2 b)⟩⟩
  have derives (b : BayNo) (t : State) : DerivesAt b t (rederive b (restartReported b t)) :=
    rederive_modDpm_derives b t rfl
  have unfinished (b : BayNo) (t : State) : (rederive b (restartReported b t)).1.unfinished = t.unfinished :=
    unfinished_of_outside (k := .holds) (rederive_outside b (restartReported b t))
  have keeps (b : BayNo) (t : State) (ht : t.LanesFit (fun _ => True) ∧ ∀ b, ToldAt b [] t) :
      (restartHolds b t).LanesFit (fun _ => True) ∧ ∀ c, ToldAt c [] (restartHolds b t) := by
    rw [restartHolds_eq]
    refine kept.perform (r := rederive b (restartReported b t)) ⟨?_, fun c => ?_⟩
    · exact State.LanesFit.of_outside (s := t) ht.1 (k := .holds) nofun (rederive_outside b (restartReported b t))
    · have sets : (rederive b (restartReported b t)).1.holdSets c = t.holdSets c := by
        simp only [State.holdSets, State.clrAt, (rederive_clr b _).1]; rfl
      have same : ((rederive b (restartReported b t)).1.dpmAt c).reported = (t.dpmAt c).reported ∨
          .clrHolds c ∈ (rederive b (restartReported b t)).2 := by
        by_cases e : c = b
        · subst e; exact (derives c t).told
        · exact .inl (by rw [(derives b t).other c e])
      rcases same with same | told
      · refine (ht.2 c).imp (fun told => by rw [sets, same]; exact told) fun mem => ?_
        rw [unfinished]; exact List.mem_append_right _ mem
      · exact .inr (List.mem_append_left _ told)
  obtain ⟨fit', told'⟩ := forBays_preserves (P := fun t => t.LanesFit (fun _ => True) ∧ ∀ b, ToldAt b [] t) keeps ⟨fit, told⟩
  refine ⟨fit', fun c => ?_, told'⟩
  refine forBays_each (P := fun _ => True) (Q := fun t c => DerivedAt c [] t) (fun _ _ _ => trivial) (fun b t _ => ?_)
    (fun b c t _ derived => ?_) trivial c
  · rw [restartHolds_eq]
    exact (derivedAt_kept b).perform (r := rederive b (restartReported b t)) (.inl (rederive_effective b _))
  · rw [restartHolds_eq]
    refine (derivedAt_kept c).perform (r := rederive b (restartReported b t)) ?_
    by_cases e : c = b
    · subst e; exact .inl (rederive_effective c _)
    · have hall : (rederive b (restartReported b t)).1.hallHold = t.hallHold :=
        eq_of_outside (k := .holds) State.hallHold (fun _ => rfl) (rederive_outside b (restartReported b t))
      have same := (derives b t).other c e
      refine derived.imp (fun derived => ?_) fun mem => ?_
      · rw [same, effective_congr same hall]; exact derived
      · rw [unfinished]; exact List.mem_append_right _ mem

theorem restarted_agree (s : State) (h : LanesAgree [] s) : LanesAgree [] (restarted s) := by
  have docked : SameClearances (restartBlocks s) (restartDocked s) :=
    forBays_sameClearances restartDocking_sameClearances _
  have same := docked.trans (restartAllFlags_sameClearances (restartDocked s))
  have fit : (restartAllFlags (restartDocked s)).LanesFit (fun _ => True) := by
    have fit := restartBlocks_fit s h.fit
    refine fit.of_same (standing_ext (fun c => ?_) same.laneA same.laneB same.order)
      (lanesWell_of_eq same.laneA same.laneB same.order fit.toLanesWell)
    simp only [State.clrAt, same.clr, and_self]
  have told (b : BayNo) : ToldAt b [] (restartAllFlags (restartDocked s)) :=
    same.told (restartBlocks_told s b (h.told b))
  have reattend (t : State) : SameClearances t t.reattend := ⟨rfl, rfl, rfl, rfl, rfl, rfl, rfl⟩
  rw [restarted_eq]
  exact (reattend _).agree (forBays_restartHolds fit told)

/-! ### Every step -/

theorem modBfe_sameClearances (s : State) (b : BayNo) (f : Bfe → Bfe) : SameClearances s (s.modBfe b f) :=
  ⟨rfl, rfl, rfl, rfl, rfl, rfl, rfl⟩

theorem reset_lanesAgree : LanesAgree [] State.reset := by
  refine lanesSound_iff.mp ⟨?_, ?_, ?_, ⟨?_, ?_⟩, ?_, ?_, ?_, fun b => .inl ?_, fun b => .inl ?_⟩
  · intro l; cases l <;> decide
  · decide
  · intro b
    constructor
    · have outside : (State.reset.clrAt b).state = .outOfService := by revert b; decide
      rw [outside]; simp
    · rintro ⟨l, granted, -⟩
      cases l <;> exact absurd granted (by decide)
  · decide
  · decide
  · decide
  · decide
  · decide
  · revert b; decide
  · revert b; decide

theorem poweredOn_agree (s : State) : LanesAgree [] (poweredOn s) :=
  (forBays_sameClearances (fun b t => modBfe_sameClearances t b _) _).agree
    (reset_lanesAgree.of_eq (t := { State.reset with hallInputs := s.hallInputs.poweredOn, pending := s.pending })
      rfl rfl rfl rfl rfl rfl (fun _ mem => mem))

theorem tickBay_agree (b : BayNo) (s : State) (h : LanesAgree [] s) : LanesAgree [] (tickBay b s) := by
  have clr (c : BayNo) : ((tickBay b s).clrAt c).state = (s.clrAt c).state ∧
      ((tickBay b s).clrAt c).holds = (s.clrAt c).holds ∧ ((tickBay b s).clrAt c).revoking = (s.clrAt c).revoking := by
    by_cases e : c = b
    · subst e; simp [tickBay, Clr.tick]
    · simp [tickBay, e]
  refine h.of_same (standing_ext clr rfl rfl rfl) (lanesWell_of_eq rfl rfl rfl) (fun c => (clr c).2.1) (fun _ => rfl)
    (fun _ => .inl rfl) (fun _ mem => mem)

theorem countDown_none {t : Timer} : countDown t = none ↔ t = none := by
  cases t <;> simp [countDown]

theorem tickLane_agree (l : Lane) (s : State) (h : LanesAgree [] s) : LanesAgree [] (s.modLane l LaneRecord.tick) := by
  obtain ⟨holder, timer, pending⟩ := h.fit.record l
  have fit : (s.modLane l LaneRecord.tick).LanesFit (fun _ => True) := by
    refine h.fit.modLane_same l ⟨holder, ?_, pending⟩ rfl Iff.rfl
    exact (not_congr countDown_none).trans timer
  have frame := modLane_outside_clearance s l LaneRecord.tick
  obtain ⟨dpm, hall⟩ := dpm_of_outside (k := .clearance) nofun frame
  have unfinished := unfinished_of_outside (k := .clearance) frame
  have same (b : BayNo) : (s.modLane l LaneRecord.tick).dpmAt b = s.dpmAt b := by simp only [State.dpmAt, dpm]
  refine ⟨fit, fun b => ?_, fun b => ?_⟩
  · refine (h.derived b).imp (fun derived => ?_) fun mem => unfinished ▸ mem
    rw [same, effective_congr (same b) hall]; exact derived
  · refine (h.told b).imp (fun told => ?_) fun mem => unfinished ▸ mem
    rw [same, holdSets_modLane]; exact told

theorem tickTimers_agree (s : State) (h : LanesAgree [] s) : LanesAgree [] (tickTimers s) := by
  have bays : LanesAgree [] (forBays tickBay s) := forBays_preserves (P := LanesAgree []) tickBay_agree h
  have hall (t : State) (ht : LanesAgree [] t) : LanesAgree [] (((t.modFeeder Feeder.tick).modInputs HallInputs.tick).modClock
      (fun c => { c with phase := c.phase + 1 })) := ht.of_eq rfl rfl rfl rfl rfl rfl (fun _ mem => mem)
  exact tickLane_agree .b _ (tickLane_agree .a _ (hall _ bays))

theorem LanesAgree.of_sameClearances {s t : State} (h : LanesAgree [] s) (same : SameClearances s t) : LanesAgree [] t :=
  same.agree h

theorem fetched_sameClearances (s : State) : SameClearances s s.fetched := ⟨rfl, rfl, rfl, rfl, rfl, rfl, rfl⟩

theorem lanesAgree_kept : KeptBySteps LanesAgree where
  toKeptByNotices := lanesAgree_keptByNotices
  begins begun h := begun.lanesAgree h
  carriedOn s h := h.of_eq rfl rfl rfl rfl rfl rfl (fun _ mem => List.mem_append_left _ mem)
  timers s h := tickTimers_agree s h
  senses b f s _ h := (modBfe_sameClearances s b f).agree h
  inputs _ _ h := h.of_sameClearances ⟨rfl, rfl, rfl, rfl, rfl, rfl, rfl⟩
  queue _ _ h := h.of_sameClearances ⟨rfl, rfl, rfl, rfl, rfl, rfl, rfl⟩
  reply _ _ _ h := h.of_sameClearances ⟨rfl, rfl, rfl, rfl, rfl, rfl, rfl⟩
  receiver _ _ _ h := h.of_sameClearances ⟨rfl, rfl, rfl, rfl, rfl, rfl, rfl⟩
  freed _ _ h := h.of_sameClearances ⟨rfl, rfl, rfl, rfl, rfl, rfl, rfl⟩
  raisesHall k r s h := (raiseHallFlag_sameClearances s k r).agree h
  fetched s h := (fetched_sameClearances s).agree h
  masked _ _ h := h.of_sameClearances ⟨rfl, rfl, rfl, rfl, rfl, rfl, rfl⟩
  restarted s h := restarted_agree s h
  poweredOn s := poweredOn_agree s

/-- Settles O7: the signal moves with the clearance state, and the agreement of lanes, wait order, clearance states and hold
sets is kept notice by notice. -/
theorem stepKeepsSignalWithClearance : Obligations.StepKeepsSignalWithClearance := by
  unfold Obligations.StepKeepsSignalWithClearance
  exact ⟨fun _ _ hs h => signalFollows_kept.step hs h,
    fun _ _ hs h => lanesSound_iff.mpr (lanesAgree_kept.step (lanesSound_iff.mp hs) h)⟩

end Sys2Proof.Machine
end

section
/-! O11 (R192, R196). The frame of a request is read back as that request and stands for no other: the fields of a
payload are put together from their bytes and taken apart again, per payload shape, then per request kind. -/

namespace Sys2Proof.Machine

/-! ## Fields and their bytes -/

@[simp] theorem word16_bytes (w : Word16) : word16 (w.extractLsb' 0 8) (w.extractLsb' 8 8) = w := by
  unfold word16; ext i hi; simp; grind

@[simp] theorem bytes16_word (lo hi : Byte) : bytes16 (word16 lo hi) = [lo, hi] := by
  simp only [bytes16, word16, List.cons.injEq, and_true]
  constructor <;> ext i hi <;> simp <;> grind

@[simp] theorem word32_bytes (w : Word32) :
    word32 (w.extractLsb' 0 8) (w.extractLsb' 8 8) (w.extractLsb' 16 8) (w.extractLsb' 24 8) = w := by
  unfold word32; ext i hi; simp; grind

@[simp] theorem bytes32_word (b0 b1 b2 b3 : Byte) : bytes32 (word32 b0 b1 b2 b3) = [b0, b1, b2, b3] := by
  simp only [bytes32, word32, List.cons.injEq, and_true]
  refine ⟨?_, ?_, ?_, ?_⟩ <;> ext i hi <;> simp <;> grind

theorem word24_bytes (m : BitVec 24) :
    (m.extractLsb' 16 8 ++ (m.extractLsb' 8 8 ++ m.extractLsb' 0 8) : BitVec 24) = m := by
  ext i hi; simp; grind

theorem bytes24_word (x y z : Byte) :
    [(z ++ (y ++ x) : BitVec 24).extractLsb' 0 8, (z ++ (y ++ x) : BitVec 24).extractLsb' 8 8,
      (z ++ (y ++ x) : BitVec 24).extractLsb' 16 8] = [x, y, z] := by
  simp only [List.cons.injEq, and_true]
  refine ⟨?_, ?_, ?_⟩ <;> ext i hi <;> simp <;> grind

/-! ## Payload shapes: what is read is what was written -/

theorem encode_of_payload0 {i j : Instr} {k : Byte} {p : List Byte} (written : encodeRequest i = some ⟨k, []⟩)
    (h : payload0 i p = .ok j) : encodeRequest j = some ⟨k, p⟩ := by
  match p with
  | [] => cases h; exact written
  | _ :: _ => cases h

theorem encode_of_payload1 {f : Byte → Instr} {j : Instr} {k : Byte} {p : List Byte}
    (written : ∀ x, encodeRequest (f x) = some ⟨k, [x]⟩) (h : payload1 f p = .ok j) : encodeRequest j = some ⟨k, p⟩ := by
  match p with
  | [x] => cases h; exact written x
  | [] | _ :: _ :: _ => cases h

theorem encode_of_payload2 {f : Byte → Byte → Instr} {j : Instr} {k : Byte} {p : List Byte}
    (written : ∀ x y, encodeRequest (f x y) = some ⟨k, [x, y]⟩) (h : payload2 f p = .ok j) :
    encodeRequest j = some ⟨k, p⟩ := by
  match p with
  | [x, y] => cases h; exact written x y
  | [] | [_] | _ :: _ :: _ :: _ => cases h

theorem encode_of_payload3 {f : Byte → Byte → Byte → Instr} {j : Instr} {k : Byte} {p : List Byte}
    (written : ∀ x y z, encodeRequest (f x y z) = some ⟨k, [x, y, z]⟩) (h : payload3 f p = .ok j) :
    encodeRequest j = some ⟨k, p⟩ := by
  match p with
  | [x, y, z] => cases h; exact written x y z
  | [] | [_] | [_, _] | _ :: _ :: _ :: _ :: _ => cases h

theorem encode_of_decodeEventMask {p : List Byte} {j : Instr} (h : decodeEventMask p = .ok j) :
    encodeRequest j = some ⟨0x04, p⟩ := by
  unfold decodeEventMask at h
  split at h
  · cases h; rfl
  · cases h; exact congrArg (fun p => some (HostFrame.mk 0x04 p)) (bytes24_word ..)
  · cases h

theorem encode_of_decodeSettingsWrite {p : List Byte} {j : Instr} (h : decodeSettingsWrite p = .ok j) :
    encodeRequest j = some ⟨0x05, p⟩ := by
  unfold decodeSettingsWrite at h
  split at h
  · cases h; simp [encodeRequest]
  · cases h

theorem encode_of_decodeSetTime {p : List Byte} {j : Instr} (h : decodeSetTime p = .ok j) :
    encodeRequest j = some ⟨0x07, p⟩ := by
  unfold decodeSetTime at h
  split at h
  · cases h; simp [encodeRequest]
  · cases h

theorem encode_of_decodeMapAppend {p : List Byte} {j : Instr} (h : decodeMapAppend p = .ok j) :
    encodeRequest j = some ⟨0x21, p⟩ := by
  unfold decodeMapAppend at h
  split at h
  · cases h; simp [encodeRequest, MapWords.bytes]
  · cases h

theorem encode_of_decodeMapInsert {p : List Byte} {j : Instr} (h : decodeMapInsert p = .ok j) :
    encodeRequest j = some ⟨0x22, p⟩ := by
  unfold decodeMapInsert at h
  split at h
  · cases h; simp [encodeRequest, MapWords.bytes]
  · cases h

theorem encode_of_decodeDepartureAdd {p : List Byte} {j : Instr} (h : decodeDepartureAdd p = .ok j) :
    encodeRequest j = some ⟨0x50, p⟩ := by
  unfold decodeDepartureAdd at h
  split at h
  · cases h; simp [encodeRequest, DepartureWords.bytes]
  · cases h

theorem encode_of_decodeDepartureAmend {p : List Byte} {j : Instr} (h : decodeDepartureAmend p = .ok j) :
    encodeRequest j = some ⟨0x51, p⟩ := by
  unfold decodeDepartureAmend at h
  split at h
  · cases h; simp [encodeRequest, DepartureWords.bytes]
  · cases h

/-! ## The codec -/

/-- The request read from a frame is written as that frame: kind by kind, each by its payload's shape. -/
theorem encode_of_decodeRequest {f : HostFrame} {i : Instr} (h : decodeRequest f = .ok i) : encodeRequest i = some f := by
  obtain ⟨kind, p⟩ := f
  have hkind : kind = BitVec.ofNat 8 kind.toNat := by simp
  rw [hkind]
  unfold decodeRequest at h
  dsimp only at h
  generalize kind.toNat = n at h ⊢
  split at h
  · exact encode_of_payload0 rfl h
  · exact encode_of_payload0 rfl h
  · exact encode_of_payload0 rfl h
  · exact encode_of_decodeEventMask h
  · exact encode_of_decodeSettingsWrite h
  · exact encode_of_payload1 (fun _ => rfl) h
  · exact encode_of_decodeSetTime h
  · exact encode_of_payload0 rfl h
  · exact encode_of_payload1 (fun _ => rfl) h
  · exact encode_of_payload1 (fun _ => rfl) h
  · exact encode_of_payload1 (fun _ => rfl) h
  · exact encode_of_payload1 (fun _ => rfl) h
  · exact encode_of_payload1 (fun _ => rfl) h
  · exact encode_of_payload1 (fun _ => rfl) h
  · exact encode_of_payload0 rfl h
  · exact encode_of_decodeMapAppend h
  · exact encode_of_decodeMapInsert h
  · exact encode_of_payload0 rfl h
  · exact encode_of_payload1 (fun _ => rfl) h
  · exact encode_of_payload1 (fun _ => rfl) h
  · exact encode_of_payload2 (fun _ _ => by simp [encodeRequest]) h
  · exact encode_of_payload1 (fun _ => rfl) h
  · exact encode_of_payload0 rfl h
  · exact encode_of_payload0 rfl h
  · exact encode_of_payload0 rfl h
  · exact encode_of_payload3 (fun _ _ _ => rfl) h
  · exact encode_of_payload1 (fun _ => rfl) h
  · exact encode_of_payload1 (fun _ => rfl) h
  · exact encode_of_payload1 (fun _ => rfl) h
  · exact encode_of_decodeDepartureAdd h
  · exact encode_of_decodeDepartureAmend h
  · exact encode_of_payload2 (fun _ _ => by simp [encodeRequest]) h
  · exact encode_of_payload3 (fun _ _ _ => by simp [encodeRequest]) h
  · exact encode_of_payload2 (fun _ _ => by simp [encodeRequest]) h
  · exact encode_of_payload1 (fun _ => rfl) h
  · exact encode_of_payload2 (fun _ _ => rfl) h
  · exact encode_of_payload1 (fun _ => rfl) h
  · exact encode_of_payload1 (fun _ => rfl) h
  · exact encode_of_payload0 rfl h
  · exact encode_of_payload1 (fun _ => rfl) h
  · exact encode_of_payload1 (fun _ => rfl) h
  · exact encode_of_payload1 (fun _ => rfl) h
  · exact encode_of_payload0 rfl h
  · cases h

/-- The frame written for a request is read as that request. -/
theorem decode_of_encodeRequest {f : HostFrame} {i : Instr} (h : encodeRequest i = some f) : decodeRequest f = .ok i := by
  unfold encodeRequest at h
  split at h
  case h_5 m =>
    cases h
    exact congrArg (fun m => Except.ok (Instr.eventMask (some m))) (word24_bytes m)
  all_goals
    cases h <;>
    simp [decodeRequest, payload0, payload1, payload2, payload3, decodeEventMask, decodeSettingsWrite, decodeSetTime,
      decodeMapAppend, decodeMapInsert, decodeDepartureAdd, decodeDepartureAmend, MapWords.bytes, DepartureWords.bytes,
      bytes16, bytes32]

/-- Settles O11: each direction is a lemma of its own. -/
theorem requestFrameCodecIsExact : Obligations.RequestFrameCodecIsExact :=
  fun _ _ => ⟨encode_of_decodeRequest, decode_of_encodeRequest⟩

end Sys2Proof.Machine
end

section
/-! O23, O24 (R181, R183, R185, R189). What a command leaves alone, read from its chain of moves: no move clears a flag but a
fetch, a restart and power-on, and each held value has the one sort of move that alters it. -/

namespace Sys2Proof.Machine

/-! ## Flags stay set -/

theorem Begins.keepsFlags {part : Held} {s : State} {r : Reaction} (begun : Begins s part r) : KeepsFlags s r.1 := by
  cases begun with
  | acts acted =>
    have view := acted.flagView
    simp only [State.flagView, Prod.mk.injEq] at view
    obtain ⟨flags, hallFlags, -⟩ := view
    exact keepsFlags_of_eq flags hallFlags
  | _ => exact keepsFlags_of_eq rfl rfl

theorem Does.keepsFlags {part : Held} {s t : State} (h : Does part s t) (notFlags : part ≠ .flags) (notAll : part ≠ .all) :
    KeepsFlags s t := by
  induction h with
  | event begun => exact begun.keepsFlags.trans (perform_keepsFlags _)
  | raisesHall k r s => exact raiseHallFlag_keeps s k r
  | fetched s => exact absurd rfl notFlags
  | restarted s => exact absurd rfl notFlags
  | poweredOn s => exact absurd rfl notAll
  | andThen _ _ ih ih' => exact (ih notFlags notAll).trans (ih' notFlags notAll)
  | _ => exact keepsFlags_of_eq rfl rfl

theorem mayClearFlags_of_alters {c : Instr} (h : alters c = .flags ∨ alters c = .all) : mayClearFlags c = true := by
  rcases h with h | h <;> cases c <;> cases h <;> rfl

/-- Settles O23: outside the five rows named the chain of moves holds none that clears a flag. -/
theorem flagsStaySetUntilFetchOrRestart : Obligations.FlagsStaySetUntilFetchOrRestart := by
  intro c s t keeps answered
  obtain ⟨u, same, does⟩ := exec_does_own (i := c) (fun k p e => by subst e; cases keeps) (fun e => by subst e; cases keeps) s
  cases answered.symm.trans same
  refine does.keepsFlags ?_ ?_
  · exact fun clears => absurd (mayClearFlags_of_alters (.inl clears)) (keeps ▸ Bool.false_ne_true)
  · exact fun clears => absurd (mayClearFlags_of_alters (.inr clears)) (keeps ▸ Bool.false_ne_true)

/-! ## Held values -/

/-- The values that stand until a command sets them. -/
structure HeldValues where
  settings : Vector Nat 17
  clock : Clock
  mask : BitVec 20
  map : List MapEntry
  ambient : Int
  shedHost : Nat
  operator : BayNo → HoldStack
  hallHold : HoldStack
  enabled : BayNo → Bool

def State.heldValues (s : State) : HeldValues :=
  { settings := s.settings, clock := s.clock, mask := s.hli.mask, map := s.map, ambient := s.ambient,
    shedHost := s.feeder.shedHost, operator := fun b => (s.dpmAt b).operator, hallHold := s.hallHold,
    enabled := fun b => (s.bfeAt b).enabled }

/-- The held values with one of them blanked. -/
def HeldValues.but (v : HeldValues) : Held → HeldValues
  | .settings => { v with settings := Vector.replicate 17 0 }
  | .clock => { v with clock := ⟨0, false, 0⟩ }
  | .mask => { v with mask := 0 }
  | .map => { v with map := [] }
  | .ambient => { v with ambient := 0 }
  | .shedHost => { v with shedHost := 0 }
  | .operator => { v with operator := fun _ => State.reset.hallHold }
  | .hallHold => { v with hallHold := State.reset.hallHold }
  | .enabled => { v with enabled := fun _ => false }
  | .nothing | .flags | .all => v

theorem heldValues_of_given {s t : State} (h : t.given = s.given) : t.heldValues = s.heldValues := by
  have bfe (b : BayNo) : (t.bfeAt b).enabled = (s.bfeAt b).enabled :=
    show (t.given.bfe b).enabled = (s.given.bfe b).enabled by rw [h]
  have operator (b : BayNo) : (t.dpmAt b).operator = (s.dpmAt b).operator := congrFun (congrArg Given.operator h) b
  have settings : t.settings = s.settings := congrArg Given.settings h
  have clock : t.clock = s.clock := congrArg Given.clock h
  have mask : t.hli.mask = s.hli.mask := congrArg Given.mask h
  have map : t.map = s.map := congrArg Given.map h
  have ambient : t.ambient = s.ambient := congrArg Given.ambient h
  have shedHost : t.feeder.shedHost = s.feeder.shedHost := congrArg Given.shedHost h
  have hallHold : t.hallHold = s.hallHold := congrArg Given.hallHold h
  simp only [State.heldValues, bfe, operator, settings, clock, mask, map, ambient, shedHost, hallHold]

theorem heldValues_modBfe {b : BayNo} {f : Bfe → Bfe} {s : State} (h : (f (s.bfeAt b)).enabled = (s.bfeAt b).enabled) :
    (s.modBfe b f).heldValues = s.heldValues := by
  refine congrArg (fun e => { s.heldValues with enabled := e }) (funext fun c => ?_)
  by_cases at_b : c = b
  · subst at_b; rw [State.modBfe_bfeAt_same]; exact h
  · rw [State.modBfe_bfeAt_ne _ _ at_b]

/-- A block's own action writes nothing given. -/
theorem Acts.given {s : State} {k : Writer} {r : Reaction} (h : Acts s k r) : r.1.given = s.given := by
  by_cases notOwn : k = .feeder ∨ k = .clearance
  · cases h with
    | ramp => exact given_of_quiet (quiet_of_fixed (falRampExpired_fixed s))
    | confirm => exact given_of_quiet (quiet_of_fixed (falConfirmExpired_fixed s))
    | meter b ns => exact given_of_quiet (quiet_of_fixed (falMeter_fixed b s))
    | openWait b => exact given_of_quiet (clrOpenWaitExpired_quiet b s)
    | plugTimer b => exact given_of_quiet (clrPlugExpired_quiet b s)
    | laneTimer l => exact given_of_quiet (laneExpired_quiet l s)
    | passage l => exact given_of_quiet (passagePulse_quiet l s)
    | closeLane l => unfold Machine.closeLane; split <;> cases l <;> rfl
    | openLane l => unfold Machine.openLane; split <;> cases l <;> rfl
    | _ => exact notOwn.elim nofun nofun
  · refine eq_of_outside State.given (k := k) (fun _ => ?_) h.outside
    cases k
    case feeder => exact absurd (.inl rfl) notOwn
    case clearance => exact absurd (.inr rfl) notOwn
    case field | holds => cases h
    all_goals rfl

theorem Acts.heldValues {s : State} {k : Writer} {r : Reaction} (h : Acts s k r) : r.1.heldValues = s.heldValues :=
  heldValues_of_given h.given

theorem Begins.heldValues {part : Held} {s : State} {r : Reaction} (begun : Begins s part r) :
    r.1.heldValues.but part = s.heldValues.but part := by
  cases begun with
  | acts acted => rw [acted.heldValues]
  | plug b => rw [heldValues_modBfe rfl]
  | trip b => rw [heldValues_modBfe rfl]
  | _ => rfl

theorem Does.heldValues {part : Held} {s t : State} (h : Does part s t) (notAll : part ≠ .all) :
    t.heldValues.but part = s.heldValues.but part := by
  induction h with
  | event begun => rw [heldValues_of_given (perform_given _), begun.heldValues]
  | senses b f s only => rw [heldValues_modBfe (congrArg Bfe.enabled only :)]
  | restarted s => rw [heldValues_of_given (restarted_given s)]
  | poweredOn s => exact absurd rfl notAll
  | andThen _ _ ih ih' => exact (ih' notAll).trans (ih notAll)
  | _ => rfl

/-- What is not blanked reads alike in held values that agree but for the blanked one. -/
theorem HeldValues.eq_of_but {part : Held} {v w : HeldValues} (h : v.but part = w.but part) :
    (part ≠ .settings → v.settings = w.settings) ∧ (part ≠ .clock → v.clock = w.clock) ∧
      (part ≠ .mask → v.mask = w.mask) ∧ (part ≠ .map → v.map = w.map) ∧ (part ≠ .ambient → v.ambient = w.ambient) ∧
      (part ≠ .shedHost → v.shedHost = w.shedHost) ∧ (part ≠ .operator → v.operator = w.operator) ∧
      (part ≠ .hallHold → v.hallHold = w.hallHold) ∧ (part ≠ .enabled → v.enabled = w.enabled) := by
  obtain ⟨v1, v2, v3, v4, v5, v6, v7, v8, v9⟩ := v
  obtain ⟨w1, w2, w3, w4, w5, w6, w7, w8, w9⟩ := w
  cases part <;> simp_all [HeldValues.but]

/-- The rows that alter a held value are the ones its statement names. -/
theorem rows_of_alters (c : Instr) :
    (alters c = .all → c = .powerOn) ∧
    (alters c = .settings → ∃ n v, c = .settingsWrite n v) ∧
    (alters c = .clock → (∃ x, c = .setTime x) ∨ c = .clockTick) ∧
    (alters c = .mask → ∃ m, c = .eventMask m) ∧
    (alters c = .map → c = .mapClear ∨ (∃ e, c = .mapAppend e) ∨ ∃ n e, c = .mapInsert n e) ∧
    (alters c = .ambient → ∃ x, c = .ambientSet x) ∧
    (alters c = .shedHost → c = .shedEnter ∨ c = .shedLeave) ∧
    (alters c = .operator → (∃ x r, c = .holdPush x r) ∨ ∃ x, c = .holdPop x) ∧
    (alters c = .hallHold → (∃ r, c = .hallHoldPush r) ∨ c = .hallHoldPop) ∧
    (alters c = .enabled → (∃ x, c = .bayEnable x) ∨ ∃ x, c = .bayDisable x) := by
  refine ⟨?_, ?_, ?_, ?_, ?_, ?_, ?_, ?_, ?_, ?_⟩ <;> intro e <;> cases c <;> cases e <;> simp

/-- Settles O24: a command's chain of moves alters only what the command is named for. -/
theorem heldValuesChangeOnlyByTheirCommands : Obligations.HeldValuesChangeOnlyByTheirCommands := by
  intro c s t notPower notSent notFrame answered
  obtain ⟨u, same, does⟩ := exec_does_own notFrame notSent s
  cases answered.symm.trans same
  obtain ⟨rAll, rSettings, rClock, rMask, rMap, rAmbient, rShed, rOperator, rHall, rEnabled⟩ := rows_of_alters c
  obtain ⟨settings, clock, mask, map, ambient, shed, operator, hall, enabled⟩ :=
    HeldValues.eq_of_but (does.heldValues (mt rAll notPower))
  refine ⟨fun no => settings (mt rSettings (by grind)), fun no no' => clock (mt rClock (by grind)),
    fun no => mask (mt rMask (by grind)), fun no no' no'' => map (mt rMap (by grind)),
    fun no => ambient (mt rAmbient (by grind)), fun no no' => shed (mt rShed (by grind)),
    fun no no' => congrFun (operator (mt rOperator (by grind))),
    fun no no' => hall (mt rHall (by grind)), fun no no' => congrFun (enabled (mt rEnabled (by grind)))⟩

end Sys2Proof.Machine
end

section
/-! O12 to O17 (R178 to R180, R190 to R192). The host link: what the receiver does with a frame, how a request is taken,
and the one reply that each request draws. -/

namespace Sys2Proof.Machine

/-! ## Replies -/

/-- The replies to a request of kind code `kind` taken in a state: OK with the state its effects leave, OK or OK_CLAMPED,
BUSY or REFUSED with the state as it stands (R180). -/
inductive Replies (kind : Nat) (s : State) : State → Prop
  | ok (data : List Byte) (t : State) : Replies kind s (okReply kind data t)
  | taken (clamped : Bool) (data : List Byte) (t : State) : Replies kind s (takenReply kind clamped data t)
  | busy : Replies kind s (busyReply kind s)
  | refused (why : RefusalReason) : Replies kind s (refuse kind why s)

@[simp] theorem replies_ok (kind : Nat) (data : List Byte) (s t : State) : Replies kind s (okReply kind data t) := .ok ..
@[simp] theorem replies_taken (kind : Nat) (clamped : Bool) (data : List Byte) (s t : State) :
    Replies kind s (takenReply kind clamped data t) := .taken ..
@[simp] theorem replies_busy (kind : Nat) (s : State) : Replies kind s (busyReply kind s) := .busy
@[simp] theorem replies_refuse (kind : Nat) (why : RefusalReason) (s : State) : Replies kind s (refuse kind why s) :=
  .refused why

theorem reqEventMask_replies (m : Option (BitVec 24)) (s : State) : Replies 0x04 s (reqEventMask m s) := by
  unfold reqEventMask; repeat' split
  all_goals simp

theorem reqSettingsWrite_replies (n : Byte) (v : Word32) (s : State) : Replies 0x05 s (reqSettingsWrite n v s) := by
  unfold reqSettingsWrite; repeat' split
  all_goals simp

theorem reqSettingsRead_replies (n : Byte) (s : State) : Replies 0x06 s (reqSettingsRead n s) := by
  unfold reqSettingsRead; repeat' split
  all_goals simp

theorem reqBayEnable_replies (x : Byte) (s : State) : Replies 0x10 s (reqBayEnable x s) := by
  unfold reqBayEnable; repeat' split
  all_goals simp

theorem reqBayDisable_replies (x : Byte) (s : State) : Replies 0x11 s (reqBayDisable x s) := by
  unfold reqBayDisable; repeat' split
  all_goals simp

theorem reqBayStatus_replies (x : Byte) (s : State) : Replies 0x12 s (reqBayStatus x s) := by
  unfold reqBayStatus; repeat' split
  all_goals simp

theorem reqLinkRead_replies (x : Byte) (s : State) : Replies 0x13 s (reqLinkRead x s) := by
  unfold reqLinkRead; repeat' split
  all_goals simp

theorem reqRedock_replies (x : Byte) (s : State) : Replies 0x14 s (reqRedock x s) := by
  unfold reqRedock; repeat' split
  all_goals simp

theorem reqProfileRead_replies (x : Byte) (s : State) : Replies 0x15 s (reqProfileRead x s) := by
  unfold reqProfileRead; repeat' split
  all_goals simp

theorem reqMapClear_replies (s : State) : Replies 0x20 s (reqMapClear s) := by
  unfold reqMapClear; repeat' split
  all_goals simp

theorem reqMapAppend_replies (e : MapWords) (s : State) : Replies 0x21 s (reqMapAppend e s) := by
  unfold reqMapAppend; repeat' split
  all_goals simp

theorem reqMapInsert_replies (p : Byte) (e : MapWords) (s : State) : Replies 0x22 s (reqMapInsert p e s) := by
  unfold reqMapInsert; repeat' split
  all_goals simp

theorem reqFaultScan_replies (x : Byte) (s : State) : Replies 0x24 s (reqFaultScan x s) := by
  unfold reqFaultScan; repeat' split
  all_goals simp

theorem reqFaultsRead_replies (x : Byte) (s : State) : Replies 0x25 s (reqFaultsRead x s) := by
  unfold reqFaultsRead; repeat' split
  all_goals simp

theorem reqHeatRead_replies (x : Byte) (s : State) : Replies 0x31 s (reqHeatRead x s) := by
  unfold reqHeatRead; repeat' split
  all_goals simp

theorem reqShedEnter_replies (s : State) : Replies 0x32 s (reqShedEnter s) := by
  unfold reqShedEnter; repeat' split
  all_goals simp

theorem reqShedLeave_replies (s : State) : Replies 0x33 s (reqShedLeave s) := by
  unfold reqShedLeave; repeat' split
  all_goals simp

theorem reqLampStart_replies (x m n : Byte) (s : State) : Replies 0x40 s (reqLampStart x m n s) := by
  unfold reqLampStart; repeat' split
  all_goals simp

theorem reqLampAdvance_replies (x : Byte) (s : State) : Replies 0x41 s (reqLampAdvance x s) := by
  unfold reqLampAdvance; repeat' split
  all_goals simp

theorem reqLampAbort_replies (x : Byte) (s : State) : Replies 0x42 s (reqLampAbort x s) := by
  unfold reqLampAbort; repeat' split
  all_goals simp

theorem reqLampRead_replies (x : Byte) (s : State) : Replies 0x43 s (reqLampRead x s) := by
  unfold reqLampRead; repeat' split
  all_goals simp

theorem reqDepartureAdd_replies (id : Word16) (x : Byte) (w : DepartureWords) (v : Byte) (s : State) : Replies 0x50 s (reqDepartureAdd id x w v s) := by
  unfold reqDepartureAdd addDeparture; repeat' split
  all_goals simp

theorem reqDepartureAmend_replies (id : Word16) (w : DepartureWords) (s : State) : Replies 0x51 s (reqDepartureAmend id w s) := by
  unfold reqDepartureAmend amendDeparture; repeat' split
  all_goals simp

theorem reqDepartureCancel_replies (id : Word16) (s : State) : Replies 0x52 s (reqDepartureCancel id s) := by
  unfold reqDepartureCancel; repeat' split
  all_goals simp

theorem reqDepartureWaive_replies (id : Word16) (v : Byte) (s : State) : Replies 0x53 s (reqDepartureWaive id v s) := by
  unfold reqDepartureWaive; repeat' split
  all_goals simp

theorem reqDepartureRead_replies (id : Word16) (s : State) : Replies 0x54 s (reqDepartureRead id s) := by
  unfold reqDepartureRead; repeat' split
  all_goals simp

theorem reqDepartureList_replies (n : Byte) (s : State) : Replies 0x55 s (reqDepartureList n s) := by
  unfold reqDepartureList; repeat' split
  all_goals simp

theorem reqHoldPush_replies (x r : Byte) (s : State) : Replies 0x60 s (reqHoldPush x r s) := by
  unfold reqHoldPush; repeat' split
  all_goals simp

theorem reqHoldPop_replies (x : Byte) (s : State) : Replies 0x61 s (reqHoldPop x s) := by
  unfold reqHoldPop; repeat' split
  all_goals simp

theorem reqHallHoldPush_replies (r : Byte) (s : State) : Replies 0x62 s (reqHallHoldPush r s) := by
  unfold reqHallHoldPush; repeat' split
  all_goals simp

theorem reqHallHoldPop_replies (s : State) : Replies 0x63 s (reqHallHoldPop s) := by
  unfold reqHallHoldPop; repeat' split
  all_goals simp

theorem reqHoldsRead_replies (x : Byte) (s : State) : Replies 0x64 s (reqHoldsRead x s) := by
  unfold reqHoldsRead; repeat' split
  all_goals simp

theorem reqLaneClose_replies (x : Byte) (s : State) : Replies 0x70 s (reqLaneClose x s) := by
  unfold reqLaneClose; repeat' split
  all_goals simp

theorem reqLaneOpen_replies (x : Byte) (s : State) : Replies 0x71 s (reqLaneOpen x s) := by
  unfold reqLaneOpen; repeat' split
  all_goals simp

/-- Each request draws one reply under its own kind. -/
theorem performRequest_replies {i : Instr} {f : HostFrame} (h : encodeRequest i = some f) (s : State) :
    ∃ n, n < 0x80 ∧ f.kind = byte n ∧ Replies n s (performRequest i s) := by
  cases i with
  | ident => cases h; exact ⟨0x01, by decide, rfl, .ok _ _⟩
  | restart => cases h; exact ⟨0x02, by decide, rfl, .ok _ _⟩
  | eventsFetch => cases h; exact ⟨0x03, by decide, rfl, .ok _ _⟩
  | setTime t => cases h; exact ⟨0x07, by decide, rfl, .ok _ _⟩
  | timeRead => cases h; exact ⟨0x08, by decide, rfl, .ok _ _⟩
  | mapRead => cases h; exact ⟨0x23, by decide, rfl, .ok _ _⟩
  | ambientSet t => cases h; exact ⟨0x30, by decide, rfl, .taken _ _ _⟩
  | budgetRead => cases h; exact ⟨0x34, by decide, rfl, .ok _ _⟩
  | lanesRead => cases h; exact ⟨0x72, by decide, rfl, .ok _ _⟩
  | eventMask m =>
    cases m with
    | none => cases h; exact ⟨0x04, by decide, rfl, reqEventMask_replies none s⟩
    | some m => cases h; exact ⟨0x04, by decide, rfl, reqEventMask_replies (some m) s⟩
  | settingsWrite n v => cases h; exact ⟨0x05, by decide, rfl, reqSettingsWrite_replies n v s⟩
  | settingsRead n => cases h; exact ⟨0x06, by decide, rfl, reqSettingsRead_replies n s⟩
  | bayEnable x => cases h; exact ⟨0x10, by decide, rfl, reqBayEnable_replies x s⟩
  | bayDisable x => cases h; exact ⟨0x11, by decide, rfl, reqBayDisable_replies x s⟩
  | bayStatus x => cases h; exact ⟨0x12, by decide, rfl, reqBayStatus_replies x s⟩
  | linkRead x => cases h; exact ⟨0x13, by decide, rfl, reqLinkRead_replies x s⟩
  | redock x => cases h; exact ⟨0x14, by decide, rfl, reqRedock_replies x s⟩
  | profileRead x => cases h; exact ⟨0x15, by decide, rfl, reqProfileRead_replies x s⟩
  | mapClear => cases h; exact ⟨0x20, by decide, rfl, reqMapClear_replies s⟩
  | mapAppend e => cases h; exact ⟨0x21, by decide, rfl, reqMapAppend_replies e s⟩
  | mapInsert p e => cases h; exact ⟨0x22, by decide, rfl, reqMapInsert_replies p e s⟩
  | faultScan x => cases h; exact ⟨0x24, by decide, rfl, reqFaultScan_replies x s⟩
  | faultsRead x => cases h; exact ⟨0x25, by decide, rfl, reqFaultsRead_replies x s⟩
  | heatRead x => cases h; exact ⟨0x31, by decide, rfl, reqHeatRead_replies x s⟩
  | shedEnter => cases h; exact ⟨0x32, by decide, rfl, reqShedEnter_replies s⟩
  | shedLeave => cases h; exact ⟨0x33, by decide, rfl, reqShedLeave_replies s⟩
  | lampStart x m n => cases h; exact ⟨0x40, by decide, rfl, reqLampStart_replies x m n s⟩
  | lampAdvance x => cases h; exact ⟨0x41, by decide, rfl, reqLampAdvance_replies x s⟩
  | lampAbort x => cases h; exact ⟨0x42, by decide, rfl, reqLampAbort_replies x s⟩
  | lampRead x => cases h; exact ⟨0x43, by decide, rfl, reqLampRead_replies x s⟩
  | departureAdd id x w v => cases h; exact ⟨0x50, by decide, rfl, reqDepartureAdd_replies id x w v s⟩
  | departureAmend id w => cases h; exact ⟨0x51, by decide, rfl, reqDepartureAmend_replies id w s⟩
  | departureCancel id => cases h; exact ⟨0x52, by decide, rfl, reqDepartureCancel_replies id s⟩
  | departureWaive id v => cases h; exact ⟨0x53, by decide, rfl, reqDepartureWaive_replies id v s⟩
  | departureRead id => cases h; exact ⟨0x54, by decide, rfl, reqDepartureRead_replies id s⟩
  | departureList n => cases h; exact ⟨0x55, by decide, rfl, reqDepartureList_replies n s⟩
  | holdPush x r => cases h; exact ⟨0x60, by decide, rfl, reqHoldPush_replies x r s⟩
  | holdPop x => cases h; exact ⟨0x61, by decide, rfl, reqHoldPop_replies x s⟩
  | hallHoldPush r => cases h; exact ⟨0x62, by decide, rfl, reqHallHoldPush_replies r s⟩
  | hallHoldPop => cases h; exact ⟨0x63, by decide, rfl, reqHallHoldPop_replies s⟩
  | holdsRead x => cases h; exact ⟨0x64, by decide, rfl, reqHoldsRead_replies x s⟩
  | laneClose x => cases h; exact ⟨0x70, by decide, rfl, reqLaneClose_replies x s⟩
  | laneOpen x => cases h; exact ⟨0x71, by decide, rfl, reqLaneOpen_replies x s⟩
  | _ => cases h

theorem frameBytes_cons (kind st : Byte) (data : List Byte) :
    frameBytes ⟨kind, st :: data⟩ =
      [0x7E] ++ (bytes16 (BitVec.ofNat 16 (data.length + 1)) ++ [kind, st] ++ data) ++
        bytes16 (crc16 (bytes16 (BitVec.ofNat 16 (data.length + 1)) ++ [kind, st] ++ data)) := rfl

theorem reasonCode_le (why : RefusalReason) : (byte (reasonCode why)).toNat ≤ 8 := by cases why <;> decide

/-- Settles O17: each request is answered by one of the four replies, and BUSY and REFUSED are drawn before any effect. -/
theorem everyRequestDrawsOneReply : Obligations.EveryRequestDrawsOneReply := by
  intro i f s t encoded answered
  cases (exec_of_encodeRequest encoded s).symm.trans answered
  obtain ⟨n, small, kind, replies⟩ := performRequest_replies encoded s
  rw [kind, ← replyKind_of_request small]
  generalize performRequest i s = t at replies
  cases replies with
  | ok data t => exact ⟨0, data, rfl, by decide, frameBytes_cons .., nofun, nofun⟩
  | taken clamped data t =>
    cases clamped
    · exact ⟨0, data, rfl, by decide, frameBytes_cons .., nofun, nofun⟩
    · exact ⟨1, data, rfl, by decide, frameBytes_cons .., nofun, nofun⟩
  | busy => exact ⟨2, [], rfl, by decide, frameBytes_cons .., fun _ => rfl, nofun⟩
  | refused why =>
    exact ⟨3, [byte (reasonCode why)], rfl, by decide, frameBytes_cons .., fun _ => rfl, fun _ => ⟨_, rfl, reasonCode_le why⟩⟩

/-! ## The receiver -/

theorem decodeRequest_error {f : HostFrame} {why : RefusalReason} (h : decodeRequest f = .error why) :
    why = .unknownKind ∨ why = .format := by
  unfold decodeRequest at h
  split at h
  case h_44 => cases h; exact .inl rfl
  all_goals
    right
    simp only [payload0, payload1, payload2, payload3, decodeEventMask, decodeSettingsWrite, decodeSetTime, decodeMapAppend,
      decodeMapInsert, decodeDepartureAdd, decodeDepartureAmend] at h
    split at h <;> cases h <;> rfl

theorem refuse_unknownKind_or_format {f : HostFrame} {why : RefusalReason} (h : decodeRequest f = .error why) (s : State) :
    refuse f.kind.toNat why s = s.sends (replyKind f.kind) [3, if why = .unknownKind then 0 else 1] := by
  have kind : byte f.kind.toNat = f.kind := by simp [byte]
  rw [refuse_eq_sends, kind]
  rcases decodeRequest_error h with rfl | rfl <;> rfl

theorem takeFrame_of_decode {f : HostFrame} {i : Instr} (h : decodeRequest f = .ok i) (s : State) :
    .next (takeFrame f s) = exec i s := by
  rw [exec_of_encodeRequest (encode_of_decodeRequest h), takeFrame, h]

theorem takeFrame_of_error {f : HostFrame} {why : RefusalReason} (h : decodeRequest f = .error why) (s : State) :
    takeFrame f s = s.sends (replyKind f.kind) [3, if why = .unknownKind then 0 else 1] := by
  rw [← refuse_unknownKind_or_format h, takeFrame, h]

/-- A frame completed with a good CRC is what the buffer's slots make of it, the receiver hunting. -/
theorem exec_hostFrameReceived_good {kind : Byte} {payload : List Byte} {crc : Word16} {s : State}
    (inFrame : s.hli.inFrame = true) (fits : payload.length ≤ 1024) (good : crc16 (frameBody ⟨kind, payload⟩) = crc) :
    exec (.hostFrameReceived kind ⟨payload, crc⟩) s = .next (hostFrame ⟨kind, payload⟩ s.hunting) := by
  show Host.Outcome.next (evHostFrameReceived kind ⟨payload, crc⟩ s) = _
  simp [evHostFrameReceived, inFrame, Config.maxHostPayload, fits, good]

theorem exec_hostFrameReceived_bad {kind : Byte} {payload : List Byte} {crc : Word16} {s : State}
    (inFrame : s.hli.inFrame = true) (fits : payload.length ≤ 1024) (bad : crc16 (frameBody ⟨kind, payload⟩) ≠ crc) :
    exec (.hostFrameReceived kind ⟨payload, crc⟩) s = .next (discardFrame .check s) := by
  show Host.Outcome.next (evHostFrameReceived kind ⟨payload, crc⟩ s) = _
  simp [evHostFrameReceived, inFrame, Config.maxHostPayload, fits, bad]

theorem exec_hostFrameReceived_hunting {kind : Byte} {body : CheckedPayload} {s : State} (hunting : s.hli.inFrame = false) :
    exec (.hostFrameReceived kind body) s = .next s := by
  show Host.Outcome.next (evHostFrameReceived kind body s) = _
  simp [evHostFrameReceived, hunting]

/-- With both slots free a good frame is taken at once. -/
theorem hostFrame_free {f : HostFrame} {s : State} (sending : s.hli.sending = none) (held : s.hli.held = none) :
    hostFrame f s.hunting = takeFrame f s.hunting := by
  simp [hostFrame, State.hunting, State.modHli, sending, held]

theorem encodeRequest_payload_fits {i : Instr} {f : HostFrame} (h : encodeRequest i = some f) : f.payload.length ≤ 1024 := by
  unfold encodeRequest at h
  split at h <;> cases h <;> exact Nat.le_of_ble_eq_true rfl

theorem field16_eq (n : Nat) : field16 n = [BitVec.ofNat 8 n, BitVec.ofNat 8 (n / 256)] := by
  simp only [field16, bytes16, List.cons.injEq, and_true]
  constructor <;> apply BitVec.eq_of_toNat_eq <;> simp only [BitVec.extractLsb'_toNat, BitVec.toNat_ofNat] <;> omega

theorem crc16Steps_eight (c : Word16) : crc16Steps 8 c =
    (List.range 8).foldl (fun c _ => if c.getLsbD 15 then (c <<< 1) ^^^ 0x1021 else c <<< 1) c := rfl

/-- Settles O12: a good frame with both slots free is taken at once, and the request it carries is read by the codec. -/
theorem receivedRequestActsAsItsRow : Obligations.ReceivedRequestActsAsItsRow := by
  refine ⟨fun i f s encoded inFrame sending held => ?_, fun why f s wrong fits inFrame sending held => ?_,
    fun f _ => ?_, rfl, by decide +kernel, fun xs x => ?_⟩
  · rw [exec_hostFrameReceived_good inFrame (encodeRequest_payload_fits encoded) rfl, hostFrame_free sending held,
      takeFrame_of_decode (decode_of_encodeRequest encoded)]
    rfl
  · refine ⟨decodeRequest_error wrong, ?_⟩
    rw [exec_hostFrameReceived_good inFrame fits rfl, hostFrame_free sending held, takeFrame_of_error wrong]
    rfl
  · rw [frameBody, field16_eq]; rfl
  · rw [← crc16Steps_eight, crc16, List.foldl_append]
    rfl

/-! ## Raisings of the receiver -/

theorem raiseHallFlag_only (s : State) (k : HallFlag) (r : Reason) : RaisesHallOnly s (raiseHallFlag s k r) k r :=
  ⟨raiseHallFlag_same s k r, fun _ other => raiseHallFlag_other s r other, rfl, rfl⟩

/-- A receiver sent hunting and an error raised: nothing else given changes, and no other flag. -/
theorem hunting_raises (s : State) (r : Reason) :
    (raiseHallFlag s.hunting .hostLinkError r).given = { s.given with inFrame := false } ∧
      RaisesHallOnly s (raiseHallFlag s.hunting .hostLinkError r) .hostLinkError r :=
  ⟨rfl, raiseHallFlag_only s.hunting _ _⟩

/-- Settles O13. -/
theorem receivedFrameIsBufferedOrOverruns : Obligations.ReceivedFrameIsBufferedOrOverruns := by
  intro kind payload crc s fits
  refine ⟨fun inFrame good g sending held => ?_, fun inFrame good g h sending held => ?_,
    fun hunting => exec_hostFrameReceived_hunting hunting⟩
  · rw [exec_hostFrameReceived_good inFrame fits good]
    simp [hostFrame, State.hunting, State.modHli, sending, held]
  · refine ⟨_, exec_hostFrameReceived_good inFrame fits good, ?_⟩
    have overrun : hostFrame ⟨kind, payload⟩ s.hunting = raiseHallFlag s.hunting .hostLinkError (.hostLink .overrun) := by
      simp [hostFrame, State.hunting, State.modHli, sending, held]
    rw [overrun]
    exact hunting_raises s _

theorem discardFrame_inFrame {s : State} (inFrame : s.hli.inFrame = true) (why : HostLinkReason) :
    discardFrame why s = raiseHallFlag s.hunting .hostLinkError (.hostLink why) := by simp [discardFrame, inFrame]

theorem discardFrame_hunting {s : State} (hunting : s.hli.inFrame = false) (why : HostLinkReason) :
    discardFrame why s = s := by simp [discardFrame, hunting]

theorem discardFrame_raises {s : State} (inFrame : s.hli.inFrame = true) (why : HostLinkReason) :
    ∃ t, Host.Outcome.next (σ := State) (φ := Fault) (ρ := Refusal) (discardFrame why s) = .next t ∧
      t.given = { s.given with inFrame := false } ∧ RaisesHallOnly s t .hostLinkError (.hostLink why) :=
  ⟨_, rfl, discardFrame_inFrame inFrame why ▸ hunting_raises s _⟩

/-- Settles O14: each fault discards the frame being gathered with its own reason. -/
theorem frameFaultsDiscardTheFrame : Obligations.FrameFaultsDiscardTheFrame := by
  refine ⟨fun s inFrame => ⟨discardFrame_raises inFrame _, discardFrame_raises inFrame _, discardFrame_raises inFrame _,
    discardFrame_raises inFrame _, fun kind payload crc fits bad => ?_⟩, fun s hunting => ⟨fun cause => ?_, ?_⟩, fun s => rfl⟩
  · rw [exec_hostFrameReceived_bad inFrame fits bad]
    exact discardFrame_raises inFrame _
  · exact congrArg Host.Outcome.next (discardFrame_hunting hunting _)
  · exact congrArg Host.Outcome.next (discardFrame_hunting hunting _)

/-- Settles O15: by the two slots of the buffer. -/
theorem replySentTakesTheHeldFrame : Obligations.ReplySentTakesTheHeldFrame := by
  intro s
  refine ⟨fun idle => ?_, fun g sending free => ?_, fun g f sending held => ?_⟩
  · exact congrArg Host.Outcome.next (by simp [evReplySent, idle])
  · exact congrArg Host.Outcome.next (by simp [evReplySent, sending, free, State.modHli])
  · have taken : exec .replySent s =
        .next (takeFrame f { s with hli := { s.hli with sending := none, lineOut := [], held := none } }) :=
      congrArg Host.Outcome.next (by simp [evReplySent, sending, held, State.modHli])
    refine ⟨fun i h => ?_, fun why h => ?_⟩
    · rw [taken, takeFrame_of_decode h]
    · rw [taken, takeFrame_of_error h]

/-- Settles O16: a KIND that R192 does not list falls through the kinds that are read. -/
theorem unknownKindIsRefused : Obligations.UnknownKindIsRefused := by
  refine ⟨fun kind s unlisted => ?_, fun kind payload unlisted => ?_, fun kind s listed => ?_⟩
  · refine congrArg Host.Outcome.next ?_
    simp only [reqUnknownKind, unlisted]
    rw [if_neg Bool.false_ne_true, refuse_eq_sends, show byte kind.toNat = kind by simp [byte]]
    rfl
  · unfold decodeRequest
    dsimp only
    generalize kind.toNat = n at unlisted
    split <;> first | rfl | cases unlisted
  · exact congrArg Host.Outcome.next (by simp only [reqUnknownKind, listed, if_true])

end Sys2Proof.Machine
end

section
/-! O21, O22 (R181 to R184, R194). What a fetch makes of each flag, and what EVENTS_FETCH and EVENT_MASK answer. -/

namespace Sys2Proof.Machine

/-! ## The fetch, flag by flag -/

theorem fetched_flagsAt (s : State) (b : BayNo) : s.fetched.flagsAt b = s.fetchBay b := by
  obtain ⟨n, small⟩ := b
  match n, small with
  | 0, _ => rfl | 1, _ => rfl | 2, _ => rfl | 3, _ => rfl | 4, _ => rfl | 5, _ => rfl | 6, _ => rfl | 7, _ => rfl
  | 8, _ => rfl | 9, _ => rfl | 10, _ => rfl | 11, _ => rfl | 12, _ => rfl | 13, _ => rfl | 14, _ => rfl | 15, _ => rfl
  | _ + 16, large => exact absurd large (Nat.not_lt.2 (Nat.le_add_left 16 _))

theorem fetchBay_flag (s : State) (b : BayNo) (k : BayFlag) :
    (s.fetchBay b)[k.code] = (s.flag b k).afterFetch (s.conditionHolds b k) := by cases k <;> rfl

theorem fetched_flag (s : State) (b : BayNo) (k : BayFlag) :
    s.fetched.flag b k = (s.flag b k).afterFetch (s.conditionHolds b k) := by
  rw [State.flag, fetched_flagsAt, fetchBay_flag]

theorem fetched_hallFlag (s : State) (k : HallFlag) :
    s.fetched.hallFlag k = (s.hallFlag k).afterFetch (s.hallConditionHolds k) := by cases k <;> rfl

theorem conditionHolds_iff (s : State) (b : BayNo) (k : BayFlag) : s.conditionHolds b k = true ↔
    (k = .link ∧ (s.clcAt b).link = .lost) ∨ (k = .sensor ∧ (s.bfeAt b).plug = true ∧ (s.bfeAt b).presence = false) ∨
      (k = .overdraw ∧ (s.bfeAt b).tripped = true) := by
  cases k <;> simp [State.conditionHolds, Bfe.conflict]

theorem hallConditionHolds_iff (s : State) (k : HallFlag) :
    s.hallConditionHolds k = true ↔ k = .clockUnset ∧ s.clock.isSet = false := by
  cases k <;> simp [State.hallConditionHolds]

theorem Flag.afterFetch_unset {f : Flag} (h : f.set = false) (holds : Bool) : f.afterFetch holds = f := by
  simp [Flag.afterFetch, h]

theorem Flag.afterFetch_holds {f : Flag} (h : f.set = true) {holds : Bool} (stands : holds = true) :
    f.afterFetch holds = { f with count := 0 } := by simp [Flag.afterFetch, h, stands]

theorem Flag.afterFetch_cleared {f : Flag} (h : f.set = true) {holds : Bool} (ended : ¬ holds = true) :
    (f.afterFetch holds).set = false ∧ (f.afterFetch holds).count = 0 := by simp [Flag.afterFetch, h, ended, Flag.fetched]

/-! ## The data of EVENTS_FETCH -/

theorem flagEntry_eq (code : Nat) (f : Flag) : flagEntry code f =
    [BitVec.ofNat 8 (if f.qualifier = true then code + 128 else code), BitVec.ofNat 8 f.count] ++
      bytes16 (BitVec.ofNat 16 f.reason.code) := by
  unfold flagEntry
  split <;> rfl

theorem listOf_eq {α : Type} (f : α → List Byte) (xs : List α) : listOf f xs = [byte xs.length] ++ xs.flatMap f := rfl

/-- The flags of a bay that are set, in flag-code order. -/
def State.setFlags (s : State) (b : BayNo) : List BayFlag := bayFlagKinds.filter (fun k => (s.flag b k).set)

theorem bayGroup_eq (s : State) : bayGroup s = fun b => [byte b.val, byte (s.setFlags b).length] ++
    (s.setFlags b).flatMap (fun k => flagEntry k.code.val (s.flag b k)) := by
  funext b
  simp only [bayGroup, listOf, bayEntries, List.length_map, List.flatMap_map]
  rfl

theorem eventBays_eq (s : State) :
    allBays.filter (fun b => !(bayEntries s b).isEmpty) = allBays.filter (fun b => decide (s.setFlags b ≠ [])) := by
  refine List.filter_congr fun b _ => ?_
  simp only [bayEntries, List.isEmpty_map]
  unfold State.setFlags
  cases bayFlagKinds.filter (fun k => (s.flag b k).set) <;> rfl

theorem eventsData_eq (s : State) : eventsData s = field24 s.hli.mask.toNat ++
    [byte (hallFlagKinds.filter (fun k => (s.hallFlag k).set)).length] ++
    (hallFlagKinds.filter (fun k => (s.hallFlag k).set)).flatMap (fun k => flagEntry (13 + k.code.val) (s.hallFlag k)) ++
    [byte (allBays.filter (fun b => decide (s.setFlags b ≠ []))).length] ++
    (allBays.filter (fun b => decide (s.setFlags b ≠ []))).flatMap (fun b => [byte b.val, byte (s.setFlags b).length] ++
      (s.setFlags b).flatMap (fun k => flagEntry k.code.val (s.flag b k))) := by
  simp only [eventsData, eventBays_eq, bayGroup_eq, maskBytes, hallEntries, listOf_eq, List.length_map, List.flatMap_map,
    ← List.append_assoc]

/-- Settles O21: each flag after the fetch is `afterFetch` of the flag before it. -/
theorem eventsFetchTreatsReportedFlags : Obligations.EventsFetchTreatsReportedFlags := by
  refine ⟨fun s => ⟨okReply 0x03 (eventsData s) s.fetched, rfl, rfl, rfl, ?_, ?_, ?_, ?_, ?_, ?_, rfl, rfl, rfl⟩,
    fun s => ?_, ⟨rfl, rfl⟩, rfl, fun _ _ => ⟨rfl, rfl⟩, fun _ => rfl, fun st => ⟨?_, rfl⟩, fun _ => rfl, fun _ => rfl⟩
  · exact fun b k unset => (fetched_flag s b k).trans (Flag.afterFetch_unset unset _)
  · exact fun b k set stands => (fetched_flag s b k).trans (Flag.afterFetch_holds set ((conditionHolds_iff s b k).mpr stands))
  · intro b k set ended
    have := Flag.afterFetch_cleared set (mt (conditionHolds_iff s b k).mp ended)
    rwa [← fetched_flag] at this
  · exact fun k unset => (fetched_hallFlag s k).trans (Flag.afterFetch_unset unset _)
  · exact fun k set clock unset =>
      (fetched_hallFlag s k).trans (Flag.afterFetch_holds set ((hallConditionHolds_iff s k).mpr ⟨clock, unset⟩))
  · intro k set ended
    have := Flag.afterFetch_cleared set (mt (hallConditionHolds_iff s k).mp ended)
    rwa [← fetched_hallFlag] at this
  · rw [eventsData_eq]
    simp only [← flagEntry_eq]
    rfl
  · exact Nat.zero_add _

theorem anyEnabledFlag_congr {s t : State} (flags : t.flags = s.flags) (hall : t.hallFlags = s.hallFlags)
    (mask : t.hli.mask = s.hli.mask) : t.anyEnabledFlag = s.anyEnabledFlag := by
  simp only [State.anyEnabledFlag, State.flag, State.flagsAt, State.hallFlag, HostLink.enables, flags, hall, mask]

theorem okReply_withMask (kind : Nat) (data : List Byte) (m : BitVec 24) (s : State) :
    okReply kind data (s.withMask m) = { s with hli := { s.hli with
      mask := m.setWidth 20, attn := (s.modHli (fun h => { h with mask := m.setWidth 20 })).anyEnabledFlag,
      sending := some ⟨replyKind (byte kind), 0 :: data⟩, lineOut := frameBytes ⟨replyKind (byte kind), 0 :: data⟩ } } :=
  rfl

/-- Settles O22: the mask alone is written, and ATTN is worked out from it and the flags as they stand. -/
theorem eventMaskReadsAndReplaces : Obligations.EventMaskReadsAndReplaces := by
  refine fun s => ⟨rfl, fun m => ⟨_, congrArg Host.Outcome.next (okReply_withMask 0x04 _ m s), ?_, rfl⟩⟩
  dsimp only
  rw [anyEnabledFlag_congr (s := s.modHli (fun h => { h with mask := m.setWidth 20 })) rfl rfl rfl]
  rfl

end Sys2Proof.Machine
end

section
/-! O19, O20 (R202). The items a read carries: groups of marks bit by bit, timers in whole seconds, optional items, and the
data of each read put together from them. -/

namespace Sys2Proof.Machine

theorem append_congr {α : Type} {a b c d : List α} (front : a = b) (back : c = d) : a ++ c = b ++ d := by rw [front, back]

/-! ## Marks -/

theorem markBits_lt (xs : List Bool) : markBits xs < 2 ^ xs.length := by
  induction xs with
  | nil => decide
  | cons x xs ih =>
    simp only [markBits, List.length_cons, Nat.pow_succ]
    split <;> omega

theorem markBits_testBit (xs : List Bool) (i : Nat) : (markBits xs).testBit i = xs.getD i false := by
  induction xs generalizing i with
  | nil => simp [markBits]
  | cons x xs ih =>
    have half : markBits (x :: xs) / 2 = markBits xs := by simp only [markBits]; split <;> omega
    cases i with
    | zero => cases x <;> simp [markBits, Nat.testBit_zero]
    | succ i => rw [Nat.testBit_succ, half, ih, List.getD_cons_succ]

/-- Bit `i` of a byte of marks is mark `i`. -/
theorem marks_getLsbD {xs : List Bool} {i : Nat} (h : i < 8) : (marks xs).getLsbD i = xs.getD i false := by
  rw [marks, byte, BitVec.getLsbD_ofNat, markBits_testBit]
  simp [h]

theorem marks_toNat_lt {xs : List Bool} (h : xs.length ≤ 8) : (marks xs).toNat < 2 ^ xs.length := by
  have small : 2 ^ xs.length ≤ 2 ^ 8 := Nat.pow_le_pow_right (by decide) h
  have := markBits_lt xs
  rw [marks, byte, BitVec.toNat_ofNat, Nat.mod_eq_of_lt (by omega)]
  exact this

theorem markBits_eq_foldr (xs : List Bool) : markBits xs = xs.foldr (fun x n => (if x = true then 1 else 0) + 2 * n) 0 := by
  induction xs with
  | nil => rfl
  | cons x xs ih => rw [List.foldr_cons, ← ih]; rfl

/-! ## Timers and optional items -/

theorem msLeft_eq (t : Timer) : msLeft t = bytes32 (BitVec.ofNat 32 (t.getD 0xFFFFFFFF)) := by cases t <;> rfl

theorem secondsOf_bounds (n : Nat) : 1000 * secondsOf n < n + 1000 ∧ n < 1000 * secondsOf n + 1000 := by
  unfold secondsOf
  split
  · omega
  · split <;> omega

theorem tenthsOf_bounds (n : Nat) : 100 * tenthsOf (some n) < n + 100 ∧ n < 100 * tenthsOf (some n) + 100 := by
  unfold tenthsOf
  dsimp only
  split
  · omega
  · split <;> omega

theorem allBays_flatMap (f : BayNo → List Byte) : allBays.flatMap f =
    f 0 ++ f 1 ++ f 2 ++ f 3 ++ f 4 ++ f 5 ++ f 6 ++ f 7 ++ f 8 ++ f 9 ++ f 10 ++ f 11 ++ f 12 ++ f 13 ++ f 14 ++ f 15 := by
  simp [allBays]

theorem flagByte_not (x : Bool) : flagByte (!x) = if x = true then 0 else 1 := by cases x <;> rfl

/-! ## The hall's reads -/

theorem settingOf_of_lt {x : Byte} (h : x.toNat < 17) : settingOf x = some ⟨x.toNat, h⟩ := by simp [settingOf, h]

theorem settingOf_of_le {x : Byte} (h : 17 ≤ x.toNat) : settingOf x = none := by
  simp [settingOf, Nat.not_lt.mpr h]

theorem settingOf_byte (n : Fin 17) : settingOf (byte n.val) = some n := by revert n; decide

theorem rowData_eq (r : GrantRow) : rowData r = [byte r.cls.code] ++
      (match r.rankKey with | none => [0, 0, 0, 0, 0] | some k => 1 :: bytes32 (BitVec.ofNat 32 k)) ++
      [byte r.planRequest, byte r.requested, byte r.granted] ++ bytes16 (BitVec.ofNat 16 r.power) ++
      [flagByte r.inFlight, byte r.failures, byte ((flagByte r.quiet).toNat + 2 * (flagByte r.linkHeldLost).toNat),
        byte r.commanded, byte r.lastResult.code] := by
  unfold rowData
  cases r.rankKey <;> cases r.quiet <;> cases r.linkHeldLost <;> rfl

/-- The item of the stage-up in flight (R121). -/
def stageUpData (u : Option StageUp) : List Byte :=
  match u with
  | none => [0, 0, 0, 0, 0, 0, 0, 0, 0, 0]
  | some u => [1, byte u.bay.val, byte u.count] ++ bytes16 (BitVec.ofNat 16 u.reference) ++
    (match u.phase with
      | .awaitingReply => 0 :: bytes32 (BitVec.ofNat 32 0xFFFFFFFF)
      | .confirming n => 1 :: bytes32 (BitVec.ofNat 32 n))

theorem stageUpData_eq (u : Option StageUp) :
    optional (fun (u : StageUp) =>
      [byte u.bay.val, byte u.count] ++ field16 u.reference ++ [byte u.phase.code] ++ msLeft u.phase.timer) 9 u =
      stageUpData u := by
  cases u with
  | none => rfl
  | some u => cases phase : u.phase <;> simp only [optional, stageUpData, phase] <;> rfl

theorem budgetData_eq (s : State) : budgetData s =
    field16 s.feeder.budget ++ field16 s.feeder.base ++ field16 s.grantedLoad ++
      [byte s.feeder.plugged, byte s.feeder.shedHost, byte s.feeder.shedLine, byte s.feeder.depth,
        if s.feeder.gateOpen = true then 0 else 1] ++
      bytes32 (BitVec.ofNat 32 (s.feeder.ramp.getD 0xFFFFFFFF)) ++ stageUpData s.feeder.stageUp ++
      rowData (s.rowAt 0) ++ rowData (s.rowAt 1) ++ rowData (s.rowAt 2) ++ rowData (s.rowAt 3) ++ rowData (s.rowAt 4) ++
      rowData (s.rowAt 5) ++ rowData (s.rowAt 6) ++ rowData (s.rowAt 7) ++ rowData (s.rowAt 8) ++ rowData (s.rowAt 9) ++
      rowData (s.rowAt 10) ++ rowData (s.rowAt 11) ++ rowData (s.rowAt 12) ++ rowData (s.rowAt 13) ++
      rowData (s.rowAt 14) ++ rowData (s.rowAt 15) := by
  unfold budgetData
  dsimp only
  rw [stageUpData_eq]
  simp only [msLeft_eq, flagByte_not, allBays_flatMap, ← List.append_assoc]

theorem laneData_eq (r : LaneRecord) : laneData r = [byte r.state.code] ++
    (match r.holder with | none => [0, 0] | some b => [1, byte b.val]) ++ [flagByte r.closePending] ++ secLeft r.timer := by
  unfold laneData
  cases r.holder <;> rfl

theorem clearanceData_eq (c : Clr) : clearanceData c = [byte c.state.code] ++
    (match c.windowPoint with | none => [0, 0, 0, 0, 0] | some p => 1 :: bytes32 (BitVec.ofNat 32 p)) ++
    [flagByte c.windowOpen] ++ secLeft c.plugTimer ++ secLeft c.openWait ++ [flagByte c.openRequest] := by
  unfold clearanceData
  cases c.windowPoint <;> rfl

theorem waitData_eq (s : State) (b : BayNo) : waitData s b = match s.activeOf b with
    | none => [byte b.val, 0, 0, 0, 0, 0]
    | some d => [byte b.val] ++ bytes32 (BitVec.ofNat 32 d.time) ++ [byte d.lane.code] := by
  unfold waitData
  cases s.activeOf b <;> rfl

theorem lanesData_eq (s : State) : lanesData s = laneData s.laneA ++ laneData s.laneB ++ [byte s.waitOrder.length] ++
    s.waitOrder.flatMap (waitData s) ++ clearanceData (s.clrAt 0) ++ clearanceData (s.clrAt 1) ++
    clearanceData (s.clrAt 2) ++ clearanceData (s.clrAt 3) ++ clearanceData (s.clrAt 4) ++ clearanceData (s.clrAt 5) ++
    clearanceData (s.clrAt 6) ++ clearanceData (s.clrAt 7) ++ clearanceData (s.clrAt 8) ++ clearanceData (s.clrAt 9) ++
    clearanceData (s.clrAt 10) ++ clearanceData (s.clrAt 11) ++ clearanceData (s.clrAt 12) ++ clearanceData (s.clrAt 13) ++
    clearanceData (s.clrAt 14) ++ clearanceData (s.clrAt 15) := by
  simp only [lanesData, listOf_eq, allBays_flatMap, ← List.append_assoc]

theorem exec_settingsRead (x : Byte) (s : State) :
    exec (.settingsRead x) s = .next (match settingOf x with
      | none => refuse 0x06 .range s
      | some n => okReply 0x06 (settingData s n) s) := rfl

theorem exec_departureRead_of_some {id : Word16} {s : State} {d : Departure} (h : s.departureOf id.toNat = some d) :
    exec (.departureRead id) s = .next (s.sends 0xD4 (0 :: departureData s d)) := by
  refine congrArg Host.Outcome.next ?_
  unfold reqDepartureRead
  rw [h]
  rfl

theorem exec_departureRead_of_none {id : Word16} {s : State} (h : s.departureOf id.toNat = none) :
    exec (.departureRead id) s = .next (s.sends 0xD4 [3, 7]) := by
  refine congrArg Host.Outcome.next ?_
  unfold reqDepartureRead
  rw [h]
  rfl

theorem departureData_marks (s : State) (d : Departure) : ∃ m : Byte, departureData s d =
    bytes16 (BitVec.ofNat 16 d.id) ++ [BitVec.ofNat 8 d.bay.val, m] ++ bytes32 (BitVec.ofNat 32 d.time) ++
      bytes16 (BitVec.ofInt 16 (d.target.getD 0)) ++ bytes16 (BitVec.ofNat 16 (d.fleet.getD 0)) ++
      [BitVec.ofNat 8 d.lane.code, BitVec.ofNat 8 d.lead, d.waivers.bits] ∧
    m.getLsbD 0 = d.target.isSome ∧ m.getLsbD 1 = d.fleet.isSome ∧ m.getLsbD 2 = d.lampCheck ∧
    m.getLsbD 3 = d.lateReported ∧ (m.getLsbD 4 = true ↔ (s.dpmAt d.bay).active = some d.id) ∧ m.toNat < 32 := by
  refine ⟨marks [d.target.isSome, d.fleet.isSome, d.lampCheck, d.lateReported, (s.dpmAt d.bay).active == some d.id], rfl,
    marks_getLsbD (by decide), marks_getLsbD (by decide), marks_getLsbD (by decide), marks_getLsbD (by decide), ?_,
    marks_toNat_lt (Nat.le_of_ble_eq_true rfl)⟩
  rw [marks_getLsbD (by decide)]
  exact beq_iff_eq

/-- Settles O19: each read answers with its data, and the data are their items in order. -/
theorem hallReadsAnswerAndChangeNothing : Obligations.HallReadsAnswerAndChangeNothing := by
  refine ⟨fun s => ⟨rfl, rfl, rfl, rfl, fun n => ?_, fun x above => ?_, fun _ _ => exec_departureRead_of_some,
      fun _ => exec_departureRead_of_none, fun start within => ?_, fun start above => ?_⟩,
    fun e => rfl, departureData_marks, rfl, rfl, fun s => ⟨?_, ?_⟩, rfl, fun n => ⟨_, rfl, secondsOf_bounds n⟩, rfl, rfl, rfl⟩
  · rw [exec_settingsRead, settingOf_byte]; rfl
  · rw [exec_settingsRead, settingOf_of_le above]; rfl
  · refine congrArg Host.Outcome.next ?_
    unfold reqDepartureList
    rw [if_neg (by omega)]
    rfl
  · refine congrArg Host.Outcome.next ?_
    unfold reqDepartureList
    rw [if_pos (by omega)]
    rfl
  · rw [budgetData_eq]
    iterate 16 refine append_congr ?_ (rowData_eq _)
    rfl
  · rw [lanesData_eq]
    iterate 16 refine append_congr ?_ (clearanceData_eq _)
    refine append_congr (append_congr (append_congr (laneData_eq _) (laneData_eq _)) rfl) ?_
    exact congrArg (s.waitOrder.flatMap ·) (funext fun b => waitData_eq s b)

end Sys2Proof.Machine
end

section
/-! O20 (R195, R197, R202). The reads that name one bay, item by item. -/

namespace Sys2Proof.Machine

/-! ## The bay named -/

theorem bayOf_byte (b : BayNo) : bayOf (byte b.val) = some b := by revert b; decide

theorem bayOf_of_le {x : Byte} (h : 16 ≤ x.toNat) : bayOf x = none := by simp [bayOf, Nat.not_lt.mpr h]

/-- A request that answers with the data of the bay it names reads that bay. -/
theorem readsBay_of_exec {row : Byte → Instr} {kind : Nat} {data : State → BayNo → List Byte} (small : kind < 0x80)
    (answers : ∀ x s, exec (row x) s = .next (match bayOf x with
      | none => refuse kind .range s
      | some b => okReply kind (data s b) s)) : ReadsBay row (byte kind + 0x80) data := by
  intro s
  rw [← replyKind_of_request small]
  exact ⟨fun b => by rw [answers, bayOf_byte]; rfl, fun x above => by rw [answers, bayOf_of_le above]; rfl⟩

/-! ## BAY_STATUS and the plan record -/

theorem bayStatusData_marks (s : State) (b : BayNo) :
    ∃ m o : Byte, bayStatusData s b = [BitVec.ofNat 8 b.val, m, o, BitVec.ofNat 8 (s.bfeAt b).aspect.code] ++
        bytes16 (BitVec.ofNat 16 (s.bfeAt b).shorePower) ++ bytes16 (BitVec.ofNat 16 (averageOf (s.bfeAt b).auxVolts)) ++
        bytes16 (BitVec.ofNat 16 (averageOf (s.bfeAt b).auxAmps)) ++ [BitVec.ofNat 8 (s.clcAt b).link.code] ++
        bytes16 (BitVec.ofNat 16 (s.clcAt b).attemptErrors) ++
        [BitVec.ofNat 8 (s.dkuAt b).state.code, BitVec.ofNat 8 (s.lcsAt b).status.code,
          BitVec.ofNat 8 (s.hplAt b).plan.state.code, BitVec.ofNat 8 (s.clrAt b).state.code] ∧
      m.getLsbD 0 = (s.bfeAt b).enabled ∧ m.getLsbD 1 = (s.bfeAt b).presence ∧ m.getLsbD 2 = (s.bfeAt b).plug ∧
      m.getLsbD 3 = ((s.bfeAt b).presence || (s.bfeAt b).plug) ∧
      m.getLsbD 4 = ((s.bfeAt b).plug && !(s.bfeAt b).presence) ∧ m.getLsbD 5 = (s.bfeAt b).contactor ∧
      m.getLsbD 6 = (s.bfeAt b).latch ∧ m.getLsbD 7 = (s.bfeAt b).tripped ∧
      ((s.bfeAt b).overdraw = none → o = 0) ∧
      (∀ n, (s.bfeAt b).overdraw = some n → n ≤ 10000 → 100 * o.toNat < n + 100 ∧ n < 100 * o.toNat + 100) := by
  refine ⟨_, _, rfl, marks_getLsbD (by decide), marks_getLsbD (by decide), marks_getLsbD (by decide),
    marks_getLsbD (by decide), marks_getLsbD (by decide), marks_getLsbD (by decide), marks_getLsbD (by decide),
    marks_getLsbD (by decide), fun clear => by rw [clear]; rfl, fun n runs most => ?_⟩
  rw [runs]
  have bounds := tenthsOf_bounds n
  have whole : (byte (tenthsOf (some n))).toNat = tenthsOf (some n) := by
    rw [byte, BitVec.toNat_ofNat]; omega
  rwa [whole]

theorem planData_marks (p : Plan) : ∃ m z : Byte, planData p = bytes16 (BitVec.ofNat 16 (p.departure.getD 0)) ++ [m] ++
      bytes16 (BitVec.ofInt 16 (p.target.getD 0)) ++ bytes32 (BitVec.ofNat 32 (p.scheduled.getD 0)) ++
      bytes16 (BitVec.ofInt 16 p.cabinUsed) ++ bytes16 (BitVec.ofInt 16 p.ambientUsed) ++
      bytes32 (BitVec.ofNat 32 p.energy) ++ bytes32 (BitVec.ofNat 32 p.loss) ++ bytes32 (BitVec.ofInt 32 p.netPower) ++
      bytes32 (BitVec.ofNat 32 p.time) ++ bytes16 (BitVec.ofNat 16 p.lead) ++ bytes32 (BitVec.ofNat 32 p.start) ++
      [BitVec.ofNat 8 p.holdingStages] ++ bytes32 (BitVec.ofNat 32 p.holdingPoint) ++ [z, BitVec.ofNat 8 p.state.code,
        BitVec.ofNat 8 ((p.prior.map PlanState.code).getD 0xFF), BitVec.ofNat 8 ((p.endCode.map EndCode.rank).getD 0)] ∧
    m.getLsbD 0 = p.target.isSome ∧ m.getLsbD 1 = p.scheduled.isSome ∧ m.toNat < 4 ∧
    z.getLsbD 0 = p.unreachable ∧ z.getLsbD 1 = p.short ∧ z.getLsbD 2 = p.late ∧ z.getLsbD 3 = p.noHeater ∧
    z.getLsbD 4 = p.defaultCabin ∧ z.toNat < 32 ∧ (planData p).length = 44 := by
  refine ⟨marks [p.target.isSome, p.scheduled.isSome],
    marks [p.unreachable, p.short, p.late, p.noHeater, p.defaultCabin], ?_, marks_getLsbD (by decide),
    marks_getLsbD (by decide), marks_toNat_lt (Nat.le_of_ble_eq_true rfl), marks_getLsbD (by decide),
    marks_getLsbD (by decide), marks_getLsbD (by decide), marks_getLsbD (by decide), marks_getLsbD (by decide),
    marks_toNat_lt (Nat.le_of_ble_eq_true rfl), rfl⟩
  unfold planData
  cases p.prior <;> cases p.endCode <;> rfl

/-! ## Optional items -/

/-- An optional item of one byte. -/
def oneItem (x : Option Nat) : List Byte :=
  match x with
  | none => [0, 0]
  | some n => [1, byte n]

theorem optional_one {α : Type} (f : α → Nat) (x : Option α) :
    optional (fun a => [byte (f a)]) 1 x = oneItem (x.map f) := by cases x <;> rfl

theorem optional_pollSlot (x : Bool) : optional (fun (r : BayRequest) => [byte r.code]) 1 (if x then some .status else none) =
    if x = true then [1, 0x14] else [0, 0] := by cases x <;> rfl

theorem linkData_eq (s : State) (b : BayNo) : linkData s b =
    [byte (s.clcAt b).link.code, byte (s.clcAt b).failures] ++ field16 (s.clcAt b).attemptErrors ++
      (match (s.clcAt b).inflight with
        | none => [0, 0, 0, 0]
        | some f => [1, byte f.request.code, byte (classCode f.cls), byte f.attempt]) ++
      oneItem ((s.clcAt b).heatSlot.map (fun _ => 0x16)) ++ oneItem ((s.clcAt b).lampSlot.map (fun _ => 0x15)) ++
      oneItem ((s.clcAt b).readSlot.map BayRequest.code) ++
      (if (s.clcAt b).pollSlot = true then [1, 0x14] else [0, 0]) ++
      field32 ((s.clcAt b).reprobe.getD 0xFFFFFFFF) ++ field32 ((s.clcAt b).poll.getD 0xFFFFFFFF) ++
      (match (s.clcAt b).lastStatus with
        | none => [0, 0, 0, 0, 0, 0, 0, 0, 0, 0, 0]
        | some x => [1] ++ field32 x.time ++ (match x.cabin with | none => [0, 0, 0] | some t => [1] ++ signed16 t) ++
          [if x.ignition = true then 2 else 1, marks [x.heaterStop, x.faultsChanged], byte x.stages]) := by
  unfold linkData
  dsimp only
  rw [optional_one BayRequest.code, optional_one BayRequest.code, optional_one BayRequest.code, optional_pollSlot,
    Option.map_map, Option.map_map, msLeft_eq, msLeft_eq]
  refine append_congr (append_congr (append_congr (append_congr (append_congr
    (append_congr (append_congr (append_congr rfl ?_) rfl) rfl) rfl) rfl) rfl) rfl) ?_
  · cases (s.clcAt b).inflight <;> rfl
  · cases (s.clcAt b).lastStatus with
    | none => rfl
    | some x => cases cabin : x.cabin <;> cases ignition : x.ignition <;>
        simp only [optional, coachStatusData, cabin, ignition] <;> rfl

/-! ## PROFILE_READ -/

theorem flagByte_eq (x : Bool) : flagByte x = byte (markBits [x]) := by cases x <;> rfl

theorem complete_iff (d : Dku) :
    d.complete = true ↔ d.retained = true ∨ d.state = .readingFaults ∨ d.state = .docked := by
  simp [Dku.complete, or_assoc]

theorem memoryData_eq (d : Dku) : d.memoryData = match d.profile.identity with
    | none => [0, 0]
    | some i => if i.faultMemory = false then [0, 0]
      else [1, byte (d.profile.faultCapacity.getD
        (if d.retained = true ∨ d.state = .readingFaults ∨ d.state = .docked then 255 else 0))] := by
  unfold Dku.memoryData
  cases d.profile.identity with
  | none => rfl
  | some i =>
    cases memory : i.faultMemory with
    | false => simp only [memory]; rfl
    | true =>
      simp only [memory, if_true, Bool.true_eq_false, if_false]
      by_cases walked : d.complete = true
      · rw [if_pos walked, if_pos ((complete_iff d).mp walked)]; rfl
      · rw [if_neg walked, if_neg (mt (complete_iff d).mpr walked)]; rfl

theorem profileData_eq (s : State) (b : BayNo) : profileData s b =
    [byte (s.dkuAt b).state.code] ++
      (match (s.dkuAt b).failure with | none => [0, 0, 0] | some (i, n) => [1, byte i, byte n]) ++
      (match (s.dkuAt b).profile.identity with
        | none => [0, 0, 0, 0, 0]
        | some i => [1] ++ field16 i.fleet ++ [1, byte i.coachType]) ++
      (match (s.dkuAt b).profile.heater with | none => [0, 0, 0, 0] | some (n, w) => [1, byte n] ++ field16 w) ++
      (match (s.dkuAt b).profile.cabin with | none => [0, 0, 0, 0, 0] | some (h, u) => [1] ++ field16 h ++ field16 u) ++
      [byte (s.dkuAt b).profile.lamps.length] ++ (s.dkuAt b).profile.lamps.flatMap lampEntryData ++
      (s.dkuAt b).memoryData ++
      [marks [(s.dkuAt b).profile.clamped, (s.dkuAt b).profile.duplicate, (s.dkuAt b).profile.lampsTruncated,
        (s.dkuAt b).profile.unknownDescriptor, (s.dkuAt b).retained], byte (s.dkuAt b).matching.code,
        flagByte (s.dkuAt b).wrongBay, byte (s.dkuAt b).indices.length] := by
  have identity : optional (fun (i : Identity) => field16 i.fleet) 2 (s.dkuAt b).profile.identity ++
      optional (fun (i : Identity) => [byte i.coachType]) 1 (s.dkuAt b).profile.identity =
      match (s.dkuAt b).profile.identity with
        | none => [0, 0, 0, 0, 0]
        | some i => [1] ++ field16 i.fleet ++ [1, byte i.coachType] := by
    cases (s.dkuAt b).profile.identity <;> rfl
  rw [← identity]
  unfold profileData
  dsimp only
  simp only [listOf_eq, ← List.append_assoc]
  cases (s.dkuAt b).failure <;> cases (s.dkuAt b).profile.heater <;> cases (s.dkuAt b).profile.cabin <;> rfl

theorem lampEntryData_eq (e : LampEntry) : lampEntryData e =
    [byte e.circuit, byte e.group.code] ++ field16 e.nominal ++ [byte e.tolerance, byte (markBits [e.checkable])] := by
  rw [lampEntryData, flagByte_eq]

/-! ## FAULTS_READ -/

theorem faultEntryData_eq (e : FaultEntry) : faultEntryData e =
    field16 e.code ++ [byte e.source, byte (markBits [e.active]), byte e.occurrences] ++ field24 e.firstSeen ++
      field24 e.lastSeen ++ [marks [e.circuit.isSome, e.freeze.isSome], byte (e.circuit.getD 0)] ++
      (match e.freeze with | none => [0, 0, 0, 0] | some (t, v) => signed16 t ++ field16 v) ++
      [byte e.readIndex, byte e.disposition.code, byte (markBits [e.heatStop]), marks [e.confirmed, e.isNew]] := by
  unfold faultEntryData
  rw [flagByte_eq, flagByte_eq]
  cases e.freeze <;> rfl

theorem faultsData_eq (s : State) (b : BayNo) : faultsData s b =
    [byte (markBits [(s.frdAt b).retained]), byte (s.frdAt b).table.entries.length] ++
      (s.frdAt b).table.entries.flatMap faultEntryData ++ [(s.frdAt b).table.marks.bits] ++
      field32 (s.frdAt b).table.time ++ [(s.frdAt b).table.kinds.bits, byte (s.frdAt b).scan.state.code] ++
      (if (s.frdAt b).scan.state = .idle then [0, 0, 0, 0, 0, 0] else 1 :: scanData (s.frdAt b).scan) ++
      [(s.frdAt b).rescan.bits, marks [(s.frdAt b).readSinceDocking, (s.frdAt b).unreadSinceFailure,
        (s.frdAt b).scanDone, (s.frdAt b).linkHeldLost]] ++
      ([byte (s.frdAt b).unconfirmed.length] ++ (s.frdAt b).unconfirmed.flatMap pairData) := by
  have scan : optional scanData 5 (if (s.frdAt b).scan.state = .idle then none else some (s.frdAt b).scan) =
      if (s.frdAt b).scan.state = .idle then [0, 0, 0, 0, 0, 0] else 1 :: scanData (s.frdAt b).scan := by
    split <;> rfl
  unfold faultsData
  dsimp only
  rw [scan, flagByte_eq]
  simp only [listOf_eq, ← List.append_assoc]
  rfl

/-! ## HEAT_READ -/

theorem heatData_eq (s : State) (b : BayNo) : heatData s b = planData (s.hplAt b).plan ++
    [marks [(s.hplAt b).causeLink, (s.hplAt b).causeClearing], byte (s.readiness b).code,
      byte (markBits [(s.hplAt b).staleCondition])] ++
    (match (s.hplAt b).sample with
      | none => [0, 0, 0, 0, 0, 0, 0]
      | some (t, at_) => [1] ++ signed16 t ++ field32 at_) ++
    [marks [(s.hplAt b).sample.isNone, (s.hplAt b).stale]] ++ secLeft (s.hplAt b).staleTimer ++
    [byte (markBits [(s.hplAt b).coachStop])] ++ signed16 s.ambient := by
  unfold heatData
  dsimp only
  rw [flagByte_eq, flagByte_eq]
  cases (s.hplAt b).sample <;> rfl

/-! ## LAMP_READ -/

theorem placeIn_of_notMem {b : BayNo} {xs : List BayNo} (h : b ∉ xs) : placeIn b xs = none := by
  induction xs with
  | nil => rfl
  | cons x xs ih =>
    obtain ⟨ne, rest⟩ := not_or.mp (mt List.mem_cons.mpr h)
    rw [placeIn, if_neg (Ne.symm ne), ih rest]
    rfl

theorem placeIn_of_split {b : BayNo} {before after : List BayNo} (h : b ∉ before) :
    placeIn b (before ++ b :: after) = some before.length := by
  induction before with
  | nil => simp [placeIn]
  | cons x xs ih =>
    obtain ⟨ne, rest⟩ := not_or.mp (mt List.mem_cons.mpr h)
    rw [List.cons_append, placeIn, if_neg (Ne.symm ne), ih rest]
    rfl

theorem lampResultData_eq (r : LampResult) : lampResultData r =
    [byte r.circuit, byte r.group.code] ++ field16 r.nominal ++ [byte r.tolerance, byte r.outcome.code] ++
      (match r.power with | none => [0, 0, 0] | some w => [1] ++ field16 w) ++ [byte r.measurements] ++
      (match r.time with | none => [0, 0, 0, 0, 0] | some at_ => [1] ++ field32 at_) := by
  unfold lampResultData
  cases r.power <;> cases r.time <;> rfl

theorem channels_flatMap (v : Vector (Option BayNo) 4) (f : Option BayNo → List Byte) :
    v.toList.flatMap f = f v[(0 : Fin 4)] ++ f v[(1 : Fin 4)] ++ f v[(2 : Fin 4)] ++ f v[(3 : Fin 4)] := by
  have list : v.toList = [v[(0 : Fin 4)], v[(1 : Fin 4)], v[(2 : Fin 4)], v[(3 : Fin 4)]] := by
    refine List.ext_getElem (by simp) fun i h _ => ?_
    have : i < 4 := by simpa using h
    match i with
    | 0 | 1 | 2 | 3 => exact Vector.getElem_toList _
  simp [list]

theorem lampData_eq (s : State) (b : BayNo) : lampData s b =
    [byte (s.lcsAt b).status.code,
        marks [(s.lcsAt b).reasons.step, (s.lcsAt b).reasons.ignition, (s.lcsAt b).reasons.link],
        byte (s.lcsAt b).mode.code, byte (s.lcsAt b).passes, byte (s.lcsAt b).pass, byte (s.lcsAt b).index,
        byte (s.lcsAt b).tries, byte (s.lcsAt b).phase.code] ++
      oneItem ((s.lcsAt b).channel.map Fin.val) ++ oneItem (placeIn b s.channelQueue) ++ oneItem (s.lcsAt b).owed ++
      [byte (ignitionCode (s.lcsAt b).ignition), byte (markBits [(s.lcsAt b).linkHeldLost])] ++
      secLeft (s.lcsAt b).validity ++ [byte (markBits [(s.lcsAt b).retained])] ++
      [byte (s.lcsAt b).results.length] ++ (s.lcsAt b).results.flatMap lampResultData ++
      [if (s.frdAt b).unconfirmed = [] then 0 else 1] ++
      ([byte (s.frdAt b).unconfirmed.length] ++ (s.frdAt b).unconfirmed.flatMap pairData) ++ oneItem (s.channels[(0 : Fin 4)].map Fin.val) ++
      oneItem (s.channels[(1 : Fin 4)].map Fin.val) ++ oneItem (s.channels[(2 : Fin 4)].map Fin.val) ++
      oneItem (s.channels[(3 : Fin 4)].map Fin.val) ++ [byte s.channelQueue.length] ++
      s.channelQueue.map (fun x => byte x.val) := by
  have unconfirmed : flagByte (!(s.frdAt b).unconfirmed.isEmpty) = if (s.frdAt b).unconfirmed = [] then 0 else 1 := by
    cases (s.frdAt b).unconfirmed <;> rfl
  unfold lampData
  dsimp only
  rw [unconfirmed, flagByte_eq, flagByte_eq, channels_flatMap, optional_one (fun n => n), optional_one (fun n => n),
    optional_one (fun (c : Fin 4) => c.val)]
  simp only [optional_one (fun (x : BayNo) => x.val), listOf_eq, ← List.append_assoc, Option.map_id']
  rw [List.map_eq_flatMap]

/-! ## HOLDS_READ -/

/-- The reasons that waiving takes from a set are the four that may be waived, each where it is derived and waived. -/
theorem minus_waive (a : AutoSet) (w : Waivers) : markBits (a.minus (a.waive w)) =
    128 * markBits [a.heatNotReady && w.heatNotReady, a.heatFault && w.heatFault, a.heatStale && w.heatStale,
      a.lampNotPassed && w.lampNotPassed] := by
  have kept (x : Bool) : (x && !x) = false := by cases x <;> rfl
  have waived (x y : Bool) : (x && !(x && !y)) = (x && y) := by cases x <;> cases y <;> rfl
  simp only [AutoSet.minus, AutoSet.list, AutoSet.waive, List.zip_cons_cons, List.zip_nil_right, List.map_cons,
    List.map_nil, kept, waived, markBits, Bool.false_eq_true, if_false]
  omega

theorem HoldStack.data_eq (h : HoldStack) : h.data = [h.set, byte h.saved.length] ++ h.saved := by
  simp [HoldStack.data, listOf]

theorem holdsData_eq (s : State) (b : BayNo) : holdsData s b =
    field24 (markBits (s.effective b).auto.list + 2048 * (s.effective b).operator.toNat) ++
      field16 (markBits (autoSet (s.dpmAt b).conditions (s.dpmAt b).reliance).list) ++
      field16 (128 * markBits
        [(autoSet (s.dpmAt b).conditions (s.dpmAt b).reliance).heatNotReady && (s.dpmAt b).conditions.waivers.heatNotReady,
          (autoSet (s.dpmAt b).conditions (s.dpmAt b).reliance).heatFault && (s.dpmAt b).conditions.waivers.heatFault,
          (autoSet (s.dpmAt b).conditions (s.dpmAt b).reliance).heatStale && (s.dpmAt b).conditions.waivers.heatStale,
          (autoSet (s.dpmAt b).conditions (s.dpmAt b).reliance).lampNotPassed &&
            (s.dpmAt b).conditions.waivers.lampNotPassed]) ++
      (if (s.dpmAt b).frozen = true then [1] ++ field16 (markBits (s.dpmAt b).frozenSet.list) else [0, 0, 0]) ++
      [byte (markBits [(s.dpmAt b).reliance])] ++
      (match (s.dpmAt b).active with | none => [0, 0, 0] | some id => [1] ++ field16 id) ++
      ([(s.dpmAt b).operator.set, byte (s.dpmAt b).operator.saved.length] ++ (s.dpmAt b).operator.saved) ++
      ([s.hallHold.set, byte s.hallHold.saved.length] ++ s.hallHold.saved) := by
  have frozen : optional autoBytes 2 (if (s.dpmAt b).frozen then some (s.dpmAt b).frozenSet else none) =
      if (s.dpmAt b).frozen = true then [1] ++ field16 (markBits (s.dpmAt b).frozenSet.list) else [0, 0, 0] := by
    split <;> rfl
  unfold holdsData
  dsimp only
  rw [frozen, minus_waive, HoldStack.data_eq, HoldStack.data_eq, flagByte_eq]
  cases (s.dpmAt b).active <;> rfl

theorem averageOf_eq (xs : List Nat) :
    averageOf xs = if xs = [] then 0 else (2 * xs.sum + xs.length) / (2 * xs.length) := rfl

/-- Settles O20: each read answers with the data of the bay it names, and the data are their items in order. -/
theorem bayReadsAnswerAndChangeNothing : Obligations.BayReadsAnswerAndChangeNothing := by
  refine ⟨⟨readsBay_of_exec (kind := 0x12) (by decide) fun _ _ => rfl,
      readsBay_of_exec (kind := 0x13) (by decide) fun _ _ => rfl,
      readsBay_of_exec (kind := 0x15) (by decide) fun _ _ => rfl,
      readsBay_of_exec (kind := 0x25) (by decide) fun _ _ => rfl,
      readsBay_of_exec (kind := 0x31) (by decide) fun _ _ => rfl,
      readsBay_of_exec (kind := 0x43) (by decide) fun _ _ => rfl,
      readsBay_of_exec (kind := 0x64) (by decide) fun _ _ => rfl⟩, bayStatusData_marks, planData_marks, fun _ => rfl, averageOf_eq, rfl, rfl,
    rfl, rfl, rfl, rfl, fun s b => ⟨?_, ?_, ?_, ?_, fun place at_ => ?_, ?_⟩, rfl, fun _ _ => rfl, rfl, rfl, rfl, rfl, rfl,
    rfl, rfl, rfl, rfl, rfl⟩
  · rw [linkData_eq]
    rfl
  · rw [profileData_eq, memoryData_eq, flagByte_eq]
    exact append_congr (append_congr (append_congr rfl
      (congrArg ((s.dkuAt b).profile.lamps.flatMap ·) (funext lampEntryData_eq))) rfl) rfl
  · rw [faultsData_eq]
    refine append_congr (append_congr (append_congr (append_congr (append_congr
      (append_congr (append_congr rfl
        (congrArg ((s.frdAt b).table.entries.flatMap ·) (funext faultEntryData_eq))) rfl) rfl) rfl) rfl) rfl) rfl
  · rw [heatData_eq]
    rfl
  · have found : placeIn b s.channelQueue = place := by
      obtain ⟨out, rfl⟩ | ⟨before, after, split, out, rfl⟩ := at_
      · exact placeIn_of_notMem out
      · rw [split]; exact placeIn_of_split out
    rw [lampData_eq, found]
    refine append_congr (append_congr (append_congr (append_congr (append_congr
      (append_congr (append_congr (append_congr (append_congr rfl
        (congrArg ((s.lcsAt b).results.flatMap ·) (funext lampResultData_eq))) rfl) rfl) rfl) rfl) rfl) rfl) rfl) rfl
  · rw [holdsData_eq]
    rfl

end Sys2Proof.Machine
end

section
/-! O1 to O4 (R179, R188; logs 1 to 8). The step, the idle millisecond and power-on. -/

namespace Sys2Proof.Machine

/-- Settles O1. -/
theorem stepTakesTheFrontCommand : Obligations.StepTakesTheFrontCommand := by
  intro c rest s front
  unfold step
  rw [front]
  rfl

/-! ## One millisecond, part by part -/

/-- The timers of the hall one millisecond on. -/
def tickHall (u : State) : State :=
  ((((u.modFeeder Feeder.tick).modInputs HallInputs.tick).modClock (fun c =>
    { c with phase := c.phase + 1 })).modLane .a LaneRecord.tick).modLane .b LaneRecord.tick

theorem tickTimers_eq (s : State) : tickTimers s = tickHall (forBays tickBay s) := by
  unfold tickTimers tickHall
  rfl

/-- A part of the bays that the hall's timers leave alone moves on bay by bay. -/
theorem tickTimers_at {α : Type} (get : State → BayNo → α) {g : α → α} (hall : ∀ u b, get (tickHall u) b = get u b)
    (own : ∀ b s, get (tickBay b s) b = g (get s b)) (other : ∀ b c s, c ≠ b → get (tickBay b s) c = get s c) (s : State)
    (b : BayNo) : get (tickTimers s) b = g (get s b) := by
  rw [tickTimers_eq, hall]
  exact forBays_at get own other s b

/-- A part that the bays' timers leave alone moves on with the hall. -/
theorem tickTimers_get {α : Type} (get : State → α) {g : α → α} (hall : ∀ u, get (tickHall u) = g (get u))
    (bays : ∀ b s, get (tickBay b s) = get s) (s : State) : get (tickTimers s) = g (get s) := by
  rw [tickTimers_eq, hall, forBays_keeps get bays]

theorem tickTimers_keeps {α : Type} (get : State → α) (hall : ∀ u, get (tickHall u) = get u)
    (bays : ∀ b s, get (tickBay b s) = get s) (s : State) : get (tickTimers s) = get s := by
  rw [tickTimers_eq, hall, forBays_keeps get bays]

section
variable (s : State) (b : BayNo)

theorem tickTimers_bfeAt : (tickTimers s).bfeAt b = (s.bfeAt b).tick :=
  tickTimers_at State.bfeAt (g := Bfe.tick) (fun u b => by simp [tickHall]) (fun c t => by simp [tickBay]) (fun c d t h => by simp [tickBay, h]) s b

theorem tickTimers_clcAt : (tickTimers s).clcAt b = (s.clcAt b).tick :=
  tickTimers_at State.clcAt (g := Clc.tick) (fun u b => by simp [tickHall]) (fun c t => by simp [tickBay]) (fun c d t h => by simp [tickBay, h]) s b

theorem tickTimers_hplAt : (tickTimers s).hplAt b = (s.hplAt b).tick :=
  tickTimers_at State.hplAt (g := Hpl.tick) (fun u b => by simp [tickHall]) (fun c t => by simp [tickBay]) (fun c d t h => by simp [tickBay, h]) s b

theorem tickTimers_lcsAt : (tickTimers s).lcsAt b = (s.lcsAt b).tick :=
  tickTimers_at State.lcsAt (g := Lcs.tick) (fun u b => by simp [tickHall]) (fun c t => by simp [tickBay]) (fun c d t h => by simp [tickBay, h]) s b

theorem tickTimers_clrAt : (tickTimers s).clrAt b = (s.clrAt b).tick :=
  tickTimers_at State.clrAt (g := Clr.tick) (fun u b => by simp [tickHall]) (fun c t => by simp [tickBay]) (fun c d t h => by simp [tickBay, h]) s b

theorem tickTimers_laneAt (l : Lane) : (tickTimers s).laneAt l = (s.laneAt l).tick := by
  cases l
  · exact tickTimers_get State.laneA (g := LaneRecord.tick) (fun _ => rfl) (fun _ _ => rfl) s
  · exact tickTimers_get State.laneB (g := LaneRecord.tick) (fun _ => rfl) (fun _ _ => rfl) s

theorem tickTimers_feeder : (tickTimers s).feeder = s.feeder.tick :=
  tickTimers_get State.feeder (g := Feeder.tick) (fun _ => rfl) (fun _ _ => rfl) s

theorem tickTimers_hallInputs : (tickTimers s).hallInputs = s.hallInputs.tick :=
  tickTimers_get State.hallInputs (g := HallInputs.tick) (fun _ => rfl) (fun _ _ => rfl) s

theorem tickTimers_clock : (tickTimers s).clock = { s.clock with phase := s.clock.phase + 1 } :=
  tickTimers_get State.clock (g := fun c => { c with phase := c.phase + 1 }) (fun _ => rfl) (fun _ _ => rfl) s

theorem tickTimers_pending : (tickTimers s).pending = s.pending :=
  tickTimers_keeps State.pending (fun u => by simp [tickHall]) (fun b u => by simp [tickBay]) s

end

/-- A state with its timed parts and its queue taken from another. -/
def State.withTimed (s u : State) : State :=
  { s with bfe := u.bfe, clc := u.clc, hpl := u.hpl, lcs := u.lcs, clr := u.clr, feeder := u.feeder,
           hallInputs := u.hallInputs, laneA := u.laneA, laneB := u.laneB, clock := u.clock, pending := u.pending }

theorem tickTimers_withTimed (s u : State) : (tickTimers s).withTimed u = s.withTimed u :=
  tickTimers_keeps (fun s => s.withTimed u) (fun v => by simp [State.withTimed, tickHall])
    (fun b v => by simp [State.withTimed, tickBay]) s

/-- An idle millisecond is the timers' with the rows put into the queue. -/
theorem tick_eq (s : State) : tick s = { tickTimers s with
    pending := s.pending ++ (allBays.flatMap (bayRows (tickTimers s)) ++ hallRows (tickTimers s)) } := by
  rw [← tickTimers_pending s]
  unfold tick
  rfl

/-! ## The rows that join the queue -/

theorem mem_rowIf {due : Bool} {i j : Instr} : i ∈ rowIf due j ↔ i = j ∧ due = true := by
  cases due <;> simp [rowIf]

theorem ranOut_iff {x : Timer} : ranOut x = true ↔ x = some 0 := beq_iff_eq

theorem maySend_iff {c : Clc} {n : Nat} : c.maySend n = true ↔ c.lineOut = [] ∧ (2 ≤ c.quiet ∨ n = 0) := by
  unfold Clc.maySend
  rw [Bool.and_eq_true, Bool.or_eq_true, decide_eq_true_iff, beq_iff_eq, beq_iff_eq]
  rfl

theorem mem_attemptRow {b : BayNo} {c : Clc} {i : Instr} : i ∈ attemptRow b c ↔
    (i = .lineQuietSend b ∧ c.lineOut = [] ∧ ∃ f n, c.inflight = some f ∧ f.phase = .ready n ∧ (2 ≤ c.quiet ∨ n = 0)) ∨
      (i = .noReply b ∧ ∃ f, c.inflight = some f ∧ f.phase = .waiting 0) := by
  unfold attemptRow
  cases c.inflight with
  | none => simp
  | some f =>
    cases phase : f.phase with
    | ready n =>
      by_cases sends : c.maySend n = true
      · simp [phase, sends, maySend_iff.mp sends]
      · have waits := mt maySend_iff.mpr sends
        simp only [phase, sends, Bool.false_eq_true, if_false, List.not_mem_nil, false_iff]
        rintro (⟨-, free, g, m, same, ready, may⟩ | ⟨-, g, same, waiting⟩)
        · cases same
          cases phase.symm.trans ready
          exact waits ⟨free, may⟩
        · cases same
          cases phase.symm.trans waiting
    | waiting n => cases n <;> simp [phase]
    | _ => simp [phase]

theorem mem_bayRows {s : State} {b : BayNo} {i : Instr} : i ∈ bayRows s b ↔
    (i = .presenceChange b ∧ (s.bfeAt b).presenceTimer = some 0) ∨
    (i = .plugChange b ∧ (s.bfeAt b).plugTimer = some 0) ∨
    (i = .overdrawTrip b ∧ (s.bfeAt b).overdraw = some 10000) ∨
    (i = .openWaitTimer b ∧ (s.clrAt b).openWait = some 0) ∨
    (i = .plugTimer b ∧ (s.clrAt b).plugTimer = some 0) ∨
    (i = .lineQuietSend b ∧ (s.clcAt b).lineOut = [] ∧ ∃ f n, (s.clcAt b).inflight = some f ∧ f.phase = .ready n ∧
      (2 ≤ (s.clcAt b).quiet ∨ n = 0)) ∨
    (i = .noReply b ∧ ∃ f, (s.clcAt b).inflight = some f ∧ f.phase = .waiting 0) ∨
    (i = .reprobeTimer b ∧ (s.clcAt b).reprobe = some 0) ∨
    (i = .pollTimer b ∧ (s.clcAt b).poll = some 0) ∨
    (i = .staleTimer b ∧ (s.hplAt b).staleTimer = some 0) ∨
    (i = .settleTimer b ∧ (s.lcsAt b).settle = some 0) ∨
    (i = .validityTimer b ∧ (s.lcsAt b).validity = some 0) := by
  simp only [bayRows, List.mem_append, mem_rowIf, ranOut_iff, mem_attemptRow, beq_iff_eq, Config.overdrawLimit, or_assoc]

theorem confirmOut_iff (f : Feeder) : f.confirmOut = true ↔ ∃ u, f.stageUp = some u ∧ u.phase = .confirming 0 := by
  unfold Feeder.confirmOut
  cases f.stageUp <;> simp

theorem mem_hallRows {s : State} {i : Instr} : i ∈ hallRows s ↔
    (i = .shedLineChange ∧ s.hallInputs.shedTimer = some 0) ∨ (i = .rampTimer ∧ s.feeder.ramp = some 0) ∨
    (i = .confirmTimer ∧ ∃ u, s.feeder.stageUp = some u ∧ u.phase = .confirming 0) ∨
    (∃ l, i = .laneTimer l ∧ (s.laneAt l).timer = some 0) ∨ (i = .clockTick ∧ 1000 ≤ s.clock.phase) := by
  have lanes : (∃ l, i = .laneTimer l ∧ (s.laneAt l).timer = some 0) ↔
      (i = .laneTimer .a ∧ s.laneA.timer = some 0) ∨ (i = .laneTimer .b ∧ s.laneB.timer = some 0) :=
    ⟨fun ⟨l, h⟩ => match l with
      | .a => .inl h
      | .b => .inr h, fun h => h.elim (fun h => ⟨.a, h⟩) (fun h => ⟨.b, h⟩)⟩
  rw [lanes]
  simp only [hallRows, List.mem_append, mem_rowIf, ranOut_iff, confirmOut_iff, decide_eq_true_eq, or_assoc]

theorem InFlight.tick_eq (f : InFlight) : f.tick = { f with phase := match f.phase with
    | .ready n => .ready (n - 1) | .waiting n => .waiting (n - 1)
    | .sending => .sending | .receiving => .receiving | .reporting => .reporting } := by
  unfold InFlight.tick
  cases f.phase <;> rfl

theorem StageUp.tick_eq (u : StageUp) : u.tick = { u with phase := match u.phase with
    | .awaitingReply => .awaitingReply | .confirming n => .confirming (n - 1) } := by
  unfold StageUp.tick
  cases phase : u.phase <;> simp only [← phase]

theorem step_of_idle {s : State} (empty : s.pending = []) (clear : s.unfinished = []) : step s = .next (tick s) := by
  unfold step
  rw [empty]
  simp only [idle, clear, if_true]

/-- What an idle millisecond answers, of the timers' state `u` and the rows `q`. -/
theorem idleMillisecond {s u : State} {q : List Instr} (others : u.withTimed s = s) (empty : s.pending = [])
    (clock : u.clock = { s.clock with phase := s.clock.phase + 1 }) :
    ({ ({ u with pending := q } : State) with
        bfe := s.bfe, clc := s.clc, hpl := s.hpl, lcs := s.lcs, clr := s.clr, feeder := s.feeder,
        hallInputs := s.hallInputs, laneA := s.laneA, laneB := s.laneB, clock := s.clock, pending := [] } : State) = s := by
  rw [← empty]
  exact others

/-- Settles O2: the timers part by part, and the rows each puts into the queue. -/
theorem idleStepIsOneMillisecond : Obligations.IdleStepIsOneMillisecond := by
  intro s empty clear
  refine ⟨_, (step_of_idle empty clear).trans (congrArg Host.Outcome.next (tick_eq s)), ?_⟩
  have others := tickTimers_withTimed s s
  have bfe := tickTimers_bfeAt s
  have clc := tickTimers_clcAt s
  have hpl := tickTimers_hplAt s
  have lcs := tickTimers_lcsAt s
  have clr := tickTimers_clrAt s
  have lanes := tickTimers_laneAt s
  have feeder := tickTimers_feeder s
  have inputs := tickTimers_hallInputs s
  have clock := tickTimers_clock s
  generalize tickTimers s = u at *
  refine ⟨idleMillisecond others empty clock, clock, bfe, fun b => ?_, hpl, lcs, clr, lanes, ?_, inputs, fun i => ?_⟩
  · refine (clc b).trans ?_
    simp only [Clc.tick, funext InFlight.tick_eq]
    rfl
  · refine feeder.trans ?_
    simp only [Feeder.tick, funext StageUp.tick_eq]
    rfl
  · dsimp only
    rw [empty, List.nil_append, List.mem_append, List.mem_flatMap, mem_hallRows]
    simp only [mem_bayRows, mem_allBays, true_and]
    rfl

/-! ## Power-on -/

/-- The reset state with the inputs of the field as power-on reads them and the queue. -/
def poweredHall (s : State) : State := { State.reset with hallInputs := s.hallInputs.poweredOn, pending := s.pending }

/-- Power-on of one bay's field unit. -/
def poweredField (s : State) (b : BayNo) (t : State) : State := t.modBfe b (fun _ => (s.bfeAt b).poweredOn)

theorem poweredOn_eq (s : State) : poweredOn s = forBays (poweredField s) (poweredHall s) := by
  unfold poweredOn poweredHall poweredField
  rfl

theorem poweredOn_get {α : Type} (get : State → α) (field : ∀ s b t, get (poweredField s b t) = get t) (s : State) :
    get (poweredOn s) = get (poweredHall s) := by
  rw [poweredOn_eq, forBays_keeps get (field s)]

theorem poweredOn_bfeAt (s : State) (b : BayNo) : (poweredOn s).bfeAt b = (s.bfeAt b).poweredOn := by
  rw [poweredOn_eq]
  exact forBays_at State.bfeAt (g := fun c _ => (s.bfeAt c).poweredOn) (fun c t => by simp [poweredField])
    (fun c d t h => by simp [poweredField, h]) _ b

/-- A state with the parts that power-on reads from the field taken from another. -/
def State.withField (s u : State) : State := { s with bfe := u.bfe, hallInputs := u.hallInputs, pending := u.pending }

theorem poweredOn_withField (s u : State) : (poweredOn s).withField u = (poweredHall s).withField u :=
  poweredOn_get (fun t => t.withField u) (fun s b t => by simp [State.withField, poweredField]) s

/-! ### The reset state, bay by bay -/

section
variable (b : BayNo)

theorem reset_bfeAt : State.reset.bfeAt b = Bfe.reset := Vector.getElem_replicate b.isLt
theorem reset_clcAt : State.reset.clcAt b = Clc.reset := Vector.getElem_replicate b.isLt
theorem reset_dkuAt : State.reset.dkuAt b = Dku.reset := Vector.getElem_replicate b.isLt
theorem reset_hplAt : State.reset.hplAt b = Hpl.reset := Vector.getElem_replicate b.isLt
theorem reset_rowAt : State.reset.rowAt b = GrantRow.reset := Vector.getElem_replicate b.isLt
theorem reset_lcsAt : State.reset.lcsAt b = Lcs.reset := Vector.getElem_replicate b.isLt
theorem reset_dpmAt : State.reset.dpmAt b = Dpm.reset := Vector.getElem_replicate b.isLt
theorem reset_clrAt : State.reset.clrAt b = Clr.reset := Vector.getElem_replicate b.isLt

theorem reset_flag (k : BayFlag) : State.reset.flag b k = Flag.clear := by
  have bay : State.reset.flagsAt b = Vector.replicate 13 .clear := Vector.getElem_replicate b.isLt
  rw [State.flag, bay]
  exact Vector.getElem_replicate k.code.isLt

end

/-- Settles O3: power-on is the reset state with the field's raw levels and the queue. -/
theorem powerOnTakesThePowerOnState : Obligations.PowerOnTakesThePowerOnState := by
  refine ⟨fun s => ⟨poweredOn s, rfl, ?_, poweredOn_bfeAt s, ?_, poweredOn_withField s State.reset⟩, rfl, rfl, by decide, rfl,
    rfl, fun b => ?_, rfl, rfl, rfl, rfl, rfl, rfl, rfl, rfl⟩
  · exact poweredOn_get State.pending (fun s b t => by simp [poweredField]) s
  · exact poweredOn_get State.hallInputs (fun s b t => by simp [poweredField]) s
  · rw [reset_bfeAt, reset_clrAt, reset_clcAt, reset_dkuAt, reset_lcsAt, reset_hplAt, reset_rowAt]
    exact ⟨rfl, rfl, rfl, rfl, rfl, rfl, rfl, rfl, rfl, rfl, rfl, reset_flag b⟩

/-! ## The reset state is sound -/

theorem reset_withinSizes : State.reset.WithinSizes :=
  ⟨by decide, fun b => by rw [reset_dpmAt]; decide, by decide, by decide⟩

theorem reset_grantedLoad : State.reset.grantedLoad = 0 := by decide

theorem reset_feederSound : State.reset.FeederSound where
  load := by rw [reset_grantedLoad]; exact Nat.zero_le _
  budget := .inl ⟨by decide, by decide, by decide⟩
  grants b := by rw [reset_rowAt]; decide
  capable b := by rw [reset_dkuAt, reset_hplAt]; exact ⟨nofun, by decide⟩
  opened _ := ⟨rfl, rfl⟩
  closed h := by cases h
  inFlight b := by
    rw [reset_rowAt]
    exact ⟨nofun, nofun⟩

theorem reset_channelsSound : State.reset.ChannelsSound where
  holder c b := by
    rw [reset_lcsAt, show State.reset.channels[c] = none from Vector.getElem_replicate c.isLt]
    exact ⟨nofun, nofun⟩
  step b := by rw [reset_lcsAt]; decide
  queued := ⟨List.nodup_nil, fun b => by rw [reset_lcsAt]; exact ⟨nofun, nofun⟩⟩
  full h := absurd rfl h
  quiet b := by rw [reset_rowAt, reset_lcsAt]; decide
  running b h := by rw [reset_lcsAt] at h; exact absurd rfl h
  valid b h := by rw [reset_lcsAt] at h; exact absurd rfl h

/-- Settles O4: invariant by invariant. -/
theorem resetIsSound : Obligations.ResetIsSound := by
  refine ⟨reset_settingsInRange, fun b => ?_, fun b => .inl ?_, fun b => ?_, reset_attnFollows, rfl, ?_, reset_withinSizes,
    reset_feederSound, reset_channelsSound, lanesSound_iff.mpr reset_lanesAgree⟩
  · rw [reset_bfeAt]; decide
  · rw [reset_bfeAt]; exact ⟨nofun, fun h => absurd h.1 (by decide)⟩
  · rw [reset_bfeAt, reset_clrAt]; rfl
  · exact ⟨Nat.zero_le _, List.nodup_nil, .nil, fun _ h => absurd h List.not_mem_nil⟩

end Sys2Proof.Machine
end

section
/-! O33, O34, O40, O47 (R57, R65, R105, R135). The first fit, the two rankings as insertion into an ordered list, and the
fold of outcomes. -/

namespace Sys2Proof.Machine

/-! ## The first fit -/

theorem MapEntry.fits_iff (e : MapEntry) (code source : Nat) : e.fits code source = true ↔
    e.low ≤ code ∧ code ≤ e.high ∧ (e.source = none ∨ e.source = some source) := by
  simp [MapEntry.fits, and_assoc]

/-- Settles O33: the search either splits the map at its first fit or finds none. -/
theorem classificationTakesTheFirstFit : Obligations.ClassificationTakesTheFirstFit := by
  intro m code source
  simp only [← MapEntry.fits_iff]
  cases found : m.find? (fun e => e.fits code source) with
  | none =>
    refine .inr ⟨fun x mem => by simpa using List.find?_eq_none.mp found x mem, ?_⟩
    rw [classify, found]
  | some e =>
    obtain ⟨fits, before, after, split, none⟩ := List.find?_eq_some_iff_append.mp found
    refine .inl ⟨before, e, after, split, fun x mem => by simpa using none x mem, fits, ?_⟩
    rw [classify, found]

/-! ## Insertion into an ordered list -/

/-- Insertion before the first entry that the new one is above. -/
def insertBy {α : Type} (r : α → α → Bool) (a : α) : List α → List α
  | [] => [a]
  | x :: xs => if r a x then a :: x :: xs else x :: insertBy r a xs

theorem insertBy_perm {α : Type} (r : α → α → Bool) (a : α) (l : List α) : (insertBy r a l).Perm (a :: l) := by
  induction l with
  | nil => exact .refl _
  | cons x xs ih =>
    unfold insertBy
    split
    · exact .refl _
    · exact (ih.cons x).trans (.swap a x xs)

/-- Insertion keeps a list ordered by a relation that is transitive from the new entry on and compares it with every
entry. -/
theorem pairwise_insertBy {α : Type} {r : α → α → Bool} {a : α} {l : List α} (ordered : l.Pairwise (fun x y => r x y = true))
    (compared : ∀ x ∈ l, ¬ r a x = true → r x a = true) (trans : ∀ x ∈ l, ∀ y ∈ l, r a x = true → r x y = true → r a y = true) :
    (insertBy r a l).Pairwise (fun x y => r x y = true) := by
  induction l with
  | nil => exact List.pairwise_singleton _ a
  | cons x xs ih =>
    obtain ⟨first, rest⟩ := List.pairwise_cons.mp ordered
    unfold insertBy
    split
    · next above =>
      refine List.pairwise_cons.mpr ⟨fun y mem => ?_, ordered⟩
      rcases List.mem_cons.mp mem with rfl | mem
      · exact above
      · exact trans x List.mem_cons_self y (List.mem_cons_of_mem _ mem) above (first y mem)
    · next above =>
      refine List.pairwise_cons.mpr ⟨fun y mem => ?_, ih rest (fun y mem => compared y (List.mem_cons_of_mem _ mem))
        fun y mem z mem' => trans y (List.mem_cons_of_mem _ mem) z (List.mem_cons_of_mem _ mem')⟩
      rcases List.mem_cons.mp ((insertBy_perm r a xs).mem_iff.mp mem) with rfl | mem
      · exact compared x List.mem_cons_self above
      · exact first y mem

/-! ## The rank of faults -/

theorem FaultEntry.above_iff (x y : FaultEntry) : x.above y = true ↔
    x.rankClass < y.rankClass ∨ (x.rankClass = y.rankClass ∧
      (y.lastSeen < x.lastSeen ∨ (x.lastSeen = y.lastSeen ∧ x.readIndex < y.readIndex))) := by
  unfold FaultEntry.above
  split
  · split <;> rw [decide_eq_true_iff] <;> omega
  · rw [decide_eq_true_iff]; omega

theorem FaultEntry.above_trans {x y z : FaultEntry} (h : x.above y = true) (h' : y.above z = true) : x.above z = true := by
  rw [FaultEntry.above_iff] at *
  omega

theorem FaultEntry.above_iff_not_above {x y : FaultEntry} (distinct : x.readIndex ≠ y.readIndex) :
    x.above y = true ↔ y.above x = false := by
  rw [← Bool.not_eq_true, FaultEntry.above_iff, FaultEntry.above_iff]
  omega

theorem rankInsert_eq (e : FaultEntry) (es : List FaultEntry) :
    rankInsert e es = insertBy FaultEntry.above e es := by
  induction es with
  | nil => rfl
  | cons x xs ih => rw [rankInsert, insertBy, ih]

theorem rankInsert_perm (e : FaultEntry) (es : List FaultEntry) : (rankInsert e es).Perm (e :: es) := by
  rw [rankInsert_eq]
  exact insertBy_perm _ e es

theorem rankInsert_ranked {e : FaultEntry} {es : List FaultEntry} (ranked : es.Pairwise (fun x y => x.above y = true))
    (distinct : ∀ x ∈ es, x.readIndex ≠ e.readIndex) : (rankInsert e es).Pairwise (fun x y => x.above y = true) := by
  rw [rankInsert_eq]
  refine pairwise_insertBy ranked (fun x mem not => ?_) fun _ _ _ _ => FaultEntry.above_trans
  rw [FaultEntry.above_iff_not_above (distinct x mem)]
  exact Bool.not_eq_true _ ▸ not

theorem rankSort_perm (es : List FaultEntry) : (rankSort es).Perm es := by
  induction es with
  | nil => exact .nil
  | cons x xs ih => exact (rankInsert_perm x _).trans (ih.cons x)

theorem rankSort_ranked {es : List FaultEntry} (distinct : es.Pairwise (fun x y => x.readIndex ≠ y.readIndex)) :
    (rankSort es).Pairwise (fun x y => x.above y = true) := by
  induction es with
  | nil => exact .nil
  | cons x xs ih =>
    obtain ⟨first, rest⟩ := List.pairwise_cons.mp distinct
    exact rankInsert_ranked (ih rest) fun y mem => Ne.symm (first y ((rankSort_perm xs).mem_iff.mp mem))

/-- Settles O34. -/
theorem faultRankIsATotalOrder : Obligations.FaultRankIsATotalOrder := by
  refine ⟨FaultEntry.above_iff, fun x y => FaultEntry.above_iff_not_above, fun es distinct =>
    ⟨rankSort_perm es, rankSort_ranked distinct⟩, fun e => rfl, fun e es ranked distinct =>
    ⟨rankInsert_perm e es, rankInsert_ranked ranked distinct⟩⟩

/-! ## The rank of rows -/

/-- The order of the ranked rows (R105). -/
def State.RowAbove (s : State) (x y : BayNo) : Prop :=
  ((s.rowAt x).cls = .heating ∧ (s.rowAt y).cls = .holding) ∨
    ((s.rowAt x).cls = (s.rowAt y).cls ∧
      ((s.rowAt x).rankKey.getD 0 < (s.rowAt y).rankKey.getD 0 ∨
        ((s.rowAt x).rankKey.getD 0 = (s.rowAt y).rankKey.getD 0 ∧ x.val < y.val)))

theorem rowAbove_iff {s : State} {x y : BayNo} (hx : (s.rowAt x).cls ≠ .none) (hy : (s.rowAt y).cls ≠ .none) :
    s.rowAbove x y = true ↔ s.RowAbove x y := by
  unfold State.rowAbove State.RowAbove
  dsimp only
  by_cases cls : (s.rowAt x).cls = (s.rowAt y).cls
  · have same : ¬ ((s.rowAt x).cls = .heating ∧ (s.rowAt y).cls = .holding) := fun ⟨h, h'⟩ => by
      rw [h, h'] at cls; cases cls
    rw [if_pos cls]
    simp only [same, eq_true cls, true_and, false_or]
    split <;> rw [decide_eq_true_iff] <;> omega
  · rw [if_neg cls]
    simp only [cls, false_and, or_false, beq_iff_eq, iff_self_and]
    intro h
    cases other : (s.rowAt y).cls with
    | none => exact absurd other hy
    | heating => exact absurd (h.trans other.symm) cls
    | holding => rfl

theorem State.RowAbove.trans {s : State} {x y z : BayNo} (h : s.RowAbove x y) (h' : s.RowAbove y z) : s.RowAbove x z := by
  unfold State.RowAbove at *
  rcases h with ⟨hx, hy⟩ | ⟨cls, key⟩
  · rcases h' with ⟨hy', -⟩ | ⟨cls', -⟩
    · rw [hy] at hy'; cases hy'
    · exact .inl ⟨hx, cls' ▸ hy⟩
  · rcases h' with ⟨hy, hz⟩ | ⟨cls', key'⟩
    · exact .inl ⟨cls.trans hy, hz⟩
    · exact .inr ⟨cls.trans cls', by omega⟩

theorem rowAbove_total {s : State} {x y : BayNo} (hx : (s.rowAt x).cls ≠ .none) (hy : (s.rowAt y).cls ≠ .none)
    (other : x ≠ y) (h : ¬ s.RowAbove x y) : s.RowAbove y x := by
  have distinct : x.val ≠ y.val := fun e => other (Fin.ext e)
  unfold State.RowAbove at *
  cases cx : (s.rowAt x).cls with
  | none => exact absurd cx hx
  | heating =>
    cases cy : (s.rowAt y).cls with
    | none => exact absurd cy hy
    | holding => exact absurd (.inl ⟨cx, cy⟩) h
    | heating => simp only [cx, cy, reduceCtorEq, and_false, true_and, false_or] at h ⊢; omega
  | holding =>
    cases cy : (s.rowAt y).cls with
    | none => exact absurd cy hy
    | heating => exact .inl ⟨rfl, rfl⟩
    | holding => simp only [cx, cy, reduceCtorEq, false_and, true_and, false_or] at h ⊢; omega

theorem rankBay_eq (s : State) (b : BayNo) (bs : List BayNo) :
    s.rankBay b bs = insertBy s.rowAbove b bs := by
  induction bs with
  | nil => rfl
  | cons x xs ih => rw [State.rankBay, insertBy, ih]

theorem rankBays_perm (s : State) (bs : List BayNo) :
    (s.rankBays bs).Perm (bs.filter (fun b => decide ((s.rowAt b).cls ≠ .none))) := by
  induction bs with
  | nil => exact .nil
  | cons b bs ih =>
    rw [State.rankBays]
    split
    case isTrue none => rwa [List.filter_cons_of_neg (by simpa using none)]
    case isFalse ranked =>
      rw [List.filter_cons_of_pos (by simpa using ranked), rankBay_eq]
      exact (insertBy_perm _ b _).trans (ih.cons b)

theorem mem_rankBays {s : State} {bs : List BayNo} {b : BayNo} :
    b ∈ s.rankBays bs ↔ b ∈ bs ∧ (s.rowAt b).cls ≠ .none := by
  rw [(rankBays_perm s bs).mem_iff, List.mem_filter, decide_eq_true_iff]

theorem rankBays_ranked (s : State) {bs : List BayNo} (once : bs.Nodup) : (s.rankBays bs).Pairwise s.RowAbove := by
  suffices (s.rankBays bs).Pairwise (fun x y => s.rowAbove x y = true) by
    refine this.imp_of_mem fun hx hy h => (rowAbove_iff ?_ ?_).mp h
    · exact (mem_rankBays.mp hx).2
    · exact (mem_rankBays.mp hy).2
  induction bs with
  | nil => exact .nil
  | cons b bs ih =>
    obtain ⟨new, once⟩ := List.nodup_cons.mp once
    rw [State.rankBays]
    split
    · exact ih once
    case isFalse ranked =>
      rw [rankBay_eq]
      refine pairwise_insertBy (ih once) (fun x mem not => ?_) fun x memx y memy h h' => ?_
      · obtain ⟨listed, cls⟩ := mem_rankBays.mp mem
        rw [rowAbove_iff ranked cls] at not
        exact (rowAbove_iff cls ranked).mpr (rowAbove_total ranked cls (fun e => new (e ▸ listed)) not)
      · obtain ⟨-, clsx⟩ := mem_rankBays.mp memx
        obtain ⟨-, clsy⟩ := mem_rankBays.mp memy
        exact (rowAbove_iff ranked clsy).mpr (((rowAbove_iff ranked clsx).mp h).trans ((rowAbove_iff clsx clsy).mp h'))

theorem ranked_nodup (s : State) : s.ranked.Nodup :=
  (rankBays_perm s allBays).nodup_iff.mpr (allBays_nodup.filter _)

theorem mem_ranked {s : State} {b : BayNo} : b ∈ s.ranked ↔ (s.rowAt b).cls ≠ .none :=
  mem_rankBays.trans (and_iff_right (mem_allBays b))

/-- Settles O40. -/
theorem rankingIsATotalOrder : Obligations.RankingIsATotalOrder :=
  fun s => ⟨ranked_nodup s, fun _ => mem_ranked, rankBays_ranked s allBays_nodup⟩

/-! ## The fold of outcomes -/

theorem LampResult.fold_of_le {r : LampResult} {o : LampOutcome} (h : r.outcome.severity ≤ o.severity) (p : Option Nat) :
    r.fold o p = { r with outcome := o, power := p } := if_pos h

theorem LampResult.fold_of_lt {r : LampResult} {o : LampOutcome} (h : o.severity < r.outcome.severity) (p : Option Nat) :
    r.fold o p = r := if_neg (Nat.not_le.mpr h)

theorem LampResult.fold_severity (r : LampResult) (o : LampOutcome) (p : Option Nat) :
    (r.fold o p).outcome.severity = max r.outcome.severity o.severity := by
  rcases Nat.lt_or_ge o.severity r.outcome.severity with lower | worse
  · rw [LampResult.fold_of_lt lower]; omega
  · rw [LampResult.fold_of_le worse]; dsimp only; omega

theorem foldl_severity (xs : List (LampOutcome × Option Nat)) (r : LampResult) :
    (xs.foldl (fun e x => e.fold x.1 x.2) r).outcome.severity =
      xs.foldl (fun m x => max m x.1.severity) r.outcome.severity := by
  induction xs generalizing r with
  | nil => rfl
  | cons x xs ih => rw [List.foldl_cons, List.foldl_cons, ih, LampResult.fold_severity]

theorem LampOutcome.retried_iff (o : LampOutcome) :
    o.retried = true ↔ o = .disturbed ∨ o = .noResponse ∨ o = .lowSupply := by
  cases o <;> simp [LampOutcome.retried]

/-- Settles O47. -/
theorem standingOutcomeKeepsTheWorst : Obligations.StandingOutcomeKeepsTheWorst := by
  refine ⟨fun r xs => foldl_severity xs r, fun r o p => ⟨fun h => LampResult.fold_of_le h p, fun h => LampResult.fold_of_lt h p⟩,
    fun x y => by cases x <;> cases y <;> decide, LampOutcome.retried_iff, rfl,
    fun r o p fresh => LampResult.fold_of_le (by rw [fresh]; exact Nat.zero_le _) p, fun l => ⟨?_, ?_⟩⟩
  · rintro (none | past)
    · rw [Lcs.judge, none]
    · have none : l.circuit = none := List.getElem?_eq_none past
      unfold Lcs.judge
      rw [none]
      split
      · rename_i h; cases h
      · rfl
  · intro o p c outcome circuit
    have circuit : l.circuit = some c := circuit
    simp only [Lcs.judge, outcome, circuit, ← LampOutcome.retried_iff]
    refine ⟨fun retried few => ?_, fun stands => ?_⟩
    · rw [if_pos (by simp [retried, few])]
      rfl
    · have past : ¬ (o.retried && decide (l.tries < 3)) = true := fun both => by
        rw [Bool.and_eq_true, decide_eq_true_iff] at both
        exact stands.elim (absurd both.1) (Nat.not_le.mpr both.2)
      rw [if_neg past]
      rfl

end Sys2Proof.Machine
end

section
/-! O29, O36 (R6 to R8, R82 to R85). A bay taken out or unplugged has its contactor open; the heat computation by its three
courses: no rise, a net power too low, and a heating that is reached. -/

namespace Sys2Proof.Machine

/-! ## Disable and plug-out -/

theorem bfe_given_of_perform (r : Reaction) (b : BayNo) : ((perform r).bfeAt b).given = (r.1.bfeAt b).given :=
  congrFun (congrArg Given.bfe (perform_given r)) b

/-- Where latch and contactor agree, a bay that is not enabled or not plugged has both open. -/
theorem open_of_latchFollows {s : State} (h : s.LatchFollows) {b : BayNo}
    (out : (s.bfeAt b).enabled = false ∨ (s.bfeAt b).plug = false) :
    (s.bfeAt b).contactor = false ∧ (s.bfeAt b).latch = false := by
  obtain ⟨latch, closed⟩ := h b
  have contactor : (s.bfeAt b).contactor = false := by
    refine Classical.byContradiction fun now => ?_
    obtain ⟨enabled, plug, -⟩ := closed (Bool.not_eq_false _ ▸ now)
    rcases out with out | out
    · rw [enabled] at out; cases out
    · rw [plug] at out; cases out
  exact ⟨contactor, latch.trans contactor⟩

/-- Settles O29: both events keep latch and contactor together, and leave the bay disabled or unplugged. -/
theorem disableAndPlugOutOpenTheContactor : Obligations.DisableAndPlugOutOpenTheContactor := by
  intro b s h
  refine ⟨fun enabled freeA freeB => ?_, fun plug runs => ?_⟩
  · have free : s.holdsLane b = false := by simp [State.holdsLane, freeA, freeB]
    let r : Reaction := (s.modBfe b (fun f => { f with enabled := false, tripped := false, overdraw := none }),
      disableNotices b (s.dkuAt b).retained)
    have follows : (perform r).LatchFollows := (Begins.disable b free).latch h
    have given : ((perform r).bfeAt b).given = (r.1.bfeAt b).given := bfe_given_of_perform r b
    have disabled : ((perform r).bfeAt b).enabled = false := by
      have : (r.1.bfeAt b).enabled = false := by simp [r]
      exact (congrArg Bfe.enabled given).trans this
    refine ⟨okReply 0x11 [] (perform r), congrArg Host.Outcome.next ?_, disabled, open_of_latchFollows follows (.inl disabled)⟩
    unfold reqBayDisable
    rw [bayOf_byte]
    dsimp only
    rw [if_neg (by simp [enabled]), if_neg (by simp [free])]
  · let r : Reaction := (s.modBfe b (fun f => { f with plug := !f.plug, plugTimer := none }),
      if (s.bfeAt b).plug then plugOutNotices b (s.bfeAt b) ((s.clrAt b).state == .clearing)
      else plugInNotices b (s.bfeAt b))
    have follows : (perform r).LatchFollows := (Begins.plug (part := .nothing) b).latch h
    have given : ((perform r).bfeAt b).given = (r.1.bfeAt b).given := bfe_given_of_perform r b
    have unplugged : ((perform r).bfeAt b).plug = false := by
      have : (r.1.bfeAt b).plug = false := by simp [r, plug]
      exact (congrArg Bfe.plug given).trans this
    refine ⟨perform r, congrArg Host.Outcome.next ?_, unplugged, open_of_latchFollows follows (.inr unplugged)⟩
    have running : (s.bfeAt b).plugTimer.isNone = false := by
      cases timer : (s.bfeAt b).plugTimer with
      | none => exact absurd timer runs
      | some => rfl
    simp [evPlugChange, plugChange, running, r]

/-! ## Quotients rounded up -/

theorem ceilDiv_bounds {b : Nat} (pos : 0 < b) (a : Nat) : a ≤ ceilDiv a b * b ∧ ceilDiv a b * b < a + b := by
  have whole := Nat.div_add_mod (a + (b - 1)) b
  have rest := Nat.mod_lt (a + (b - 1)) pos
  rw [Nat.mul_comm] at whole
  unfold ceilDiv
  omega

/-! ## The computation -/

/-- A plan with the figures of a computation's first steps (R82, R85). -/
def Plan.figured (p : Plan) (x : HeatFigures) (target : Int) : Plan :=
  { p with cabinUsed := x.cabinUsed, ambientUsed := x.ambient, defaultCabin := x.cabin.isNone,
           holdingStages := x.holding target }

/-- A plan with the figures of a heating (R83, R84). -/
def Plan.heated (p : Plan) (x : HeatFigures) (target : Int) : Plan :=
  { p.figured x target with energy := x.energy target, loss := x.meanLoss target, netPower := x.netPower target }

section
variable {p : Plan} {x : HeatFigures} {target : Int} {time : Nat}

theorem compute_of_noRise (h : x.rise target ≤ 0) : p.compute x target time =
    { p.figured x target with energy := 0, loss := 0, netPower := 0, unreachable := false, short := false }.schedule time
      (min x.margin x.maxLead) 0 := if_pos h

theorem compute_of_unreachable (h : ¬ x.rise target ≤ 0) (low : x.netPower target < 500) : p.compute x target time =
    { p.heated x target with unreachable := true, short := false }.schedule time x.maxLead (x.maxLead * 60) :=
  (if_neg h).trans (if_pos low)

theorem compute_of_reached (h : ¬ x.rise target ≤ 0) (enough : ¬ x.netPower target < 500) : p.compute x target time =
    { p.heated x target with unreachable := false, short := decide (x.maxLead < x.wantedLead target) }.schedule time
      (min (x.wantedLead target) x.maxLead) (x.heatTime target) := by
  refine ((if_neg h).trans (if_neg enough)).trans ?_
  by_cases short : x.maxLead < x.wantedLead target
  · rw [if_pos short, decide_eq_true short, Nat.min_eq_right (Nat.le_of_lt short)]; rfl
  · rw [if_neg short, decide_eq_false short, Nat.min_eq_left (Nat.not_lt.mp short)]; rfl

theorem schedule_start (p : Plan) (time lead t : Nat) : (p.schedule time lead t).start = time - 60 * lead := by
  show (if time < 60 * lead then 0 else time - 60 * lead) = _
  split <;> omega

theorem energy_bounds (rises : 0 < x.rise target) :
    (x.capacity : Int) * x.rise target ≤ 10 * (x.energy target : Int) ∧
      10 * (x.energy target : Int) < x.capacity * x.rise target + 10 := by
  obtain ⟨low, high⟩ := ceilDiv_bounds (b := 10) (by decide) (x.capacity * (x.rise target).toNat)
  have product : ((x.capacity * (x.rise target).toNat : Nat) : Int) = x.capacity * x.rise target := by
    rw [Int.natCast_mul, Int.toNat_of_nonneg (Int.le_of_lt rises)]
  unfold HeatFigures.energy
  omega

theorem meanLoss_of_le (h : target + x.cabinUsed - 2 * x.ambient ≤ 0) : x.meanLoss target = 0 := if_pos h

theorem meanLoss_bounds (h : 0 < target + x.cabinUsed - 2 * x.ambient) :
    (x.loss : Int) * (target + x.cabinUsed - 2 * x.ambient) ≤ 20 * (x.meanLoss target : Int) ∧
      20 * (x.meanLoss target : Int) < x.loss * (target + x.cabinUsed - 2 * x.ambient) + 20 := by
  have heated : x.meanLoss target = ceilDiv (x.loss * (target + x.cabinUsed - 2 * x.ambient).toNat) 20 :=
    if_neg (Int.not_le.mpr h)
  obtain ⟨low, high⟩ := ceilDiv_bounds (b := 20) (by decide) (x.loss * (target + x.cabinUsed - 2 * x.ambient).toNat)
  have product : ((x.loss * (target + x.cabinUsed - 2 * x.ambient).toNat : Nat) : Int) =
      x.loss * (target + x.cabinUsed - 2 * x.ambient) := by
    rw [Int.natCast_mul, Int.toNat_of_nonneg (Int.le_of_lt h)]
  rw [heated]
  omega

theorem heatTime_bounds (enough : 500 ≤ x.netPower target) :
    1000 * (x.energy target : Int) ≤ x.heatTime target * x.netPower target ∧
      x.heatTime target * x.netPower target < 1000 * (x.energy target : Int) + x.netPower target := by
  obtain ⟨n, net⟩ := Int.eq_ofNat_of_zero_le (show 0 ≤ x.netPower target by omega)
  have pos : 0 < (x.netPower target).toNat := by omega
  obtain ⟨low, high⟩ := ceilDiv_bounds pos (x.energy target * 1000)
  unfold HeatFigures.heatTime
  rw [net] at *
  rw [Int.toNat_natCast] at *
  constructor
  · rw [← Int.natCast_mul]; omega
  · rw [← Int.natCast_mul]; omega

theorem wantedLead_minutes : ∃ minutes, x.heatTime target ≤ 60 * minutes ∧ 60 * minutes < x.heatTime target + 60 ∧
    x.wantedLead target = minutes + x.margin := by
  obtain ⟨low, high⟩ := ceilDiv_bounds (b := 60) (by decide) (x.heatTime target)
  exact ⟨ceilDiv (x.heatTime target) 60, by omega, by omega, rfl⟩

/-- The holding power and the stages it takes (R85). -/
theorem holding_stages (pos : 0 < x.power) : ∃ watts stages : Nat,
    (target ≤ x.ambient → watts = 0) ∧
    (x.ambient < target → x.loss * (target - x.ambient) ≤ 10 * (watts : Int) ∧
      10 * (watts : Int) < x.loss * (target - x.ambient) + 10) ∧
    watts ≤ stages * (x.power * 100) ∧ stages * (x.power * 100) < watts + x.power * 100 ∧
    x.holding target = min x.stages stages := by
  refine ⟨if x.ambient < target then ceilDiv (x.loss * (target - x.ambient).toNat) 10 else 0, _, fun warm => if_neg (by omega),
    fun cold => ?_, (ceilDiv_bounds (b := x.power * 100) (by omega) _).1,
    (ceilDiv_bounds (b := x.power * 100) (by omega) _).2, rfl⟩
  obtain ⟨low, high⟩ := ceilDiv_bounds (b := 10) (by decide) (x.loss * (target - x.ambient).toNat)
  have product : ((x.loss * (target - x.ambient).toNat : Nat) : Int) = x.loss * (target - x.ambient) := by
    rw [Int.natCast_mul, Int.toNat_of_nonneg (by omega)]
  rw [if_pos cold]
  omega

theorem capacity_eq : (x.capacity : Int) = match x.cabin with | some c => (c.1 : Int) | none => x.defaultCapacity := by
  unfold HeatFigures.capacity
  cases x.cabin <;> rfl

theorem loss_eq : (x.loss : Int) = match x.cabin with | some c => (c.2 : Int) | none => x.defaultLoss := by
  unfold HeatFigures.loss
  cases x.cabin <;> rfl

end

/-- The steps that a rise asks for (R83, R84), read from a plan `q`. -/
def HeatedBy (q : Plan) (x : HeatFigures) (target : Int) : Prop :=
  x.capacity * x.rise target ≤ 10 * (q.energy : Int) ∧ 10 * (q.energy : Int) < x.capacity * x.rise target + 10 ∧
  (target + x.cabinUsed - 2 * x.ambient ≤ 0 → q.loss = 0) ∧
  (0 < target + x.cabinUsed - 2 * x.ambient →
    x.loss * (target + x.cabinUsed - 2 * x.ambient) ≤ 20 * (q.loss : Int) ∧
      20 * (q.loss : Int) < x.loss * (target + x.cabinUsed - 2 * x.ambient) + 20) ∧
  q.netPower = (x.stages * x.power * 100 : Nat) - (q.loss : Int) ∧
  (500 ≤ q.netPower →
    1000 * (q.energy : Int) ≤ q.time * q.netPower ∧ q.time * q.netPower < 1000 * (q.energy : Int) + q.netPower ∧
    ∃ minutes, q.time ≤ 60 * minutes ∧ 60 * minutes < q.time + 60 ∧
      q.lead = min (minutes + x.margin) x.maxLead ∧ (q.short = true ↔ x.maxLead < minutes + x.margin))

section
variable {x : HeatFigures} {target : Int} {time : Nat} (p : Plan)

theorem compute_heatedBy (rises : 0 < x.rise target) : HeatedBy (p.compute x target time) x target := by
  obtain ⟨energyLow, energyHigh⟩ := energy_bounds rises
  have none : ¬ x.rise target ≤ 0 := by omega
  by_cases low : x.netPower target < 500
  · rw [compute_of_unreachable none low]
    exact ⟨energyLow, energyHigh, meanLoss_of_le, meanLoss_bounds, rfl, fun enough => absurd low (Int.not_lt.mpr enough)⟩
  · rw [compute_of_reached none low]
    obtain ⟨minutes, least, most, wanted⟩ := wantedLead_minutes (x := x) (target := target)
    obtain ⟨timeLow, timeHigh⟩ := heatTime_bounds (Int.not_lt.mp low)
    refine ⟨energyLow, energyHigh, meanLoss_of_le, meanLoss_bounds, rfl, fun _ => ⟨timeLow, timeHigh, minutes, least, most,
      ?_, ?_⟩⟩
    · rw [← wanted]; rfl
    · rw [← wanted]; exact decide_eq_true_iff

/-- What a computation leaves alone, and what it takes from the figures in every course. -/
theorem compute_kept : (p.compute x target time).state = p.state ∧ (p.compute x target time).late = p.late ∧
    (p.compute x target time).noHeater = p.noHeater ∧ (p.compute x target time).endCode = p.endCode ∧
    (p.compute x target time).prior = p.prior ∧ (p.compute x target time).cabinUsed = x.cabinUsed ∧
    (p.compute x target time).ambientUsed = x.ambient ∧ (p.compute x target time).defaultCabin = x.cabin.isNone ∧
    (p.compute x target time).departure = p.departure ∧ (p.compute x target time).target = p.target ∧
    (p.compute x target time).scheduled = p.scheduled ∧
    (p.compute x target time).holdingStages = x.holding target := by
  by_cases none : x.rise target ≤ 0
  · rw [compute_of_noRise none]
    exact ⟨rfl, rfl, rfl, rfl, rfl, rfl, rfl, rfl, rfl, rfl, rfl, rfl⟩
  · by_cases low : x.netPower target < 500
    · rw [compute_of_unreachable none low]
      exact ⟨rfl, rfl, rfl, rfl, rfl, rfl, rfl, rfl, rfl, rfl, rfl, rfl⟩
    · rw [compute_of_reached none low]
      exact ⟨rfl, rfl, rfl, rfl, rfl, rfl, rfl, rfl, rfl, rfl, rfl, rfl⟩

theorem compute_scheduled : (p.compute x target time).lead ≤ x.maxLead ∧
    (p.compute x target time).start = time - 60 * (p.compute x target time).lead ∧
    (p.compute x target time).holdingPoint =
      min ((p.compute x target time).start + (p.compute x target time).time) 4294967295 := by
  by_cases none : x.rise target ≤ 0
  · rw [compute_of_noRise none]
    exact ⟨Nat.min_le_right _ _, schedule_start .., rfl⟩
  · by_cases low : x.netPower target < 500
    · rw [compute_of_unreachable none low]
      exact ⟨Nat.le_refl _, schedule_start .., rfl⟩
    · rw [compute_of_reached none low]
      exact ⟨Nat.min_le_right _ _, schedule_start .., rfl⟩

theorem compute_flags :
    ¬ ((p.compute x target time).unreachable = true ∧ (p.compute x target time).short = true) ∧
    ((p.compute x target time).unreachable = true ↔ x.cabinUsed < target ∧ (p.compute x target time).netPower < 500) ∧
    ((p.compute x target time).unreachable = true →
      (p.compute x target time).lead = x.maxLead ∧ (p.compute x target time).time = 60 * x.maxLead) := by
  have rises : x.rise target = target - x.cabinUsed := rfl
  by_cases none : x.rise target ≤ 0
  · rw [compute_of_noRise none]
    exact ⟨nofun, ⟨nofun, fun ⟨warmer, _⟩ => by omega⟩, nofun⟩
  · by_cases low : x.netPower target < 500
    · rw [compute_of_unreachable none low]
      exact ⟨fun ⟨_, short⟩ => absurd short Bool.false_ne_true, ⟨fun _ => ⟨by omega, low⟩, fun _ => rfl⟩, fun _ => ⟨rfl, Nat.mul_comm _ _⟩⟩
    · rw [compute_of_reached none low]
      exact ⟨fun ⟨far, _⟩ => absurd far Bool.false_ne_true, ⟨nofun, fun ⟨_, less⟩ => absurd less low⟩, nofun⟩

end

/-- Settles O36: the three courses of the computation, step by step. -/
theorem heatPlanFiguresStayInBounds : Obligations.HeatPlanFiguresStayInBounds := by
  intro p x target time
  obtain ⟨lead, start, point⟩ := compute_scheduled p (x := x) (target := target) (time := time)
  obtain ⟨apart, unreachable, unreached⟩ := compute_flags p (x := x) (target := target) (time := time)
  obtain ⟨state, late, noHeater, ended, prior, cabin, ambient, assumed, departure, kept, scheduled, stages⟩ :=
    compute_kept p (x := x) (target := target) (time := time)
  refine ⟨lead, start, point, ?_, apart, unreachable, unreached, state, late, noHeater, ended, prior, cabin, ambient, ?_,
    departure, kept, scheduled, fun none => ?_, fun rises => ?_, fun pos => ?_⟩
  · rw [stages]; exact Nat.min_le_left _ _
  · rw [assumed]; exact Option.isNone_iff_eq_none
  · rw [compute_of_noRise none]
    exact ⟨rfl, rfl, rfl, rfl, rfl, rfl, rfl⟩
  · have heated := compute_heatedBy p (time := time) rises
    unfold HeatedBy at heated
    rw [capacity_eq, loss_eq] at heated
    exact heated
  · have holding := holding_stages (target := target) pos
    rw [loss_eq] at holding
    rw [stages]
    exact holding

end Sys2Proof.Machine
end

section
/-! O10, the channels (R119, R126, R128, R140). The LCS alone hands the precision channels on; what a bay's step has to do
with them is its seat, which the FAL leaves as it stands. -/

namespace Sys2Proof.Machine

/-- Where a step stands with the precision channels: no step, waiting for one, or past the queue. -/
inductive Place | idle | waiting | underWay
  deriving DecidableEq

/-- The place of a phase. -/
def StepPhase.place : StepPhase → Place
  | .none => .idle
  | .queued => .waiting
  | .quietWait | .baseline | .light | .settle | .lit | .off => .underWay

theorem StepPhase.place_eq_idle (p : StepPhase) : p.place = .idle ↔ p = .none := by cases p <;> decide

theorem StepPhase.place_eq_waiting (p : StepPhase) : p.place = .waiting ↔ p = .queued := by cases p <;> decide

/-- What the agreement of the channels reads of a lamp record. -/
structure Seat where
  channel : Option (Fin 4)
  place : Place
  status : LampStatus
  validity : Timer

/-- A bay's seat. -/
def Lcs.seat (l : Lcs) : Seat := ⟨l.channel, l.phase.place, l.status, l.validity⟩

/-- What the agreement of the channels reads of a state. -/
structure Seating where
  channels : Vector (Option BayNo) 4
  queue : List BayNo
  quiet : BayNo → Bool
  seat : BayNo → Seat

/-- The seating of a state. -/
def State.seating (s : State) : Seating :=
  ⟨s.channels, s.channelQueue, fun b => (s.rowAt b).quiet, fun b => (s.lcsAt b).seat⟩

/-- The seating agrees, but that a channel may be free while bays wait. -/
structure Seating.Agrees (x : Seating) : Prop where
  holder : ∀ (c : Fin 4) (b : BayNo), x.channels[c] = some b ↔ (x.seat b).channel = some c
  step : ∀ b, (x.seat b).channel ≠ none ↔ (x.seat b).place = .underWay
  nodup : x.queue.Nodup
  queued : ∀ b, b ∈ x.queue ↔ (x.seat b).place = .waiting
  quiet : ∀ b, x.quiet b = true ↔ (x.seat b).channel ≠ none
  running : ∀ b, (x.seat b).place ≠ .idle → (x.seat b).status = .running
  valid : ∀ b, (x.seat b).validity ≠ none → (x.seat b).status = .passed ∨ (x.seat b).status = .failed

/-- No channel is free while a bay waits. -/
def Seating.Full (x : Seating) : Prop := x.queue ≠ [] → ∀ c : Fin 4, x.channels[c] ≠ none

theorem place_underWay (p : StepPhase) : p.place = .underWay ↔ p ≠ .none ∧ p ≠ .queued := by cases p <;> decide

theorem channelsSound_iff {s : State} : s.ChannelsSound ↔ s.seating.Agrees ∧ s.seating.Full := by
  constructor
  · intro h
    refine ⟨⟨h.holder, fun b => (h.step b).trans (place_underWay _).symm, h.queued.1,
      fun b => (h.queued.2 b).trans (StepPhase.place_eq_waiting _).symm, h.quiet,
      fun b ne => h.running b fun e => ne ((StepPhase.place_eq_idle _).mpr e), h.valid⟩, h.full⟩
  · intro ⟨h, full⟩
    exact { holder := h.holder, step := fun b => (h.step b).trans (place_underWay _),
            queued := ⟨h.nodup, fun b => (h.queued b).trans (StepPhase.place_eq_waiting _)⟩, full := full, quiet := h.quiet,
            running := fun b ne => h.running b fun e => ne ((StepPhase.place_eq_idle _).mp e), valid := h.valid }

/-- Two states seated alike are sound alike. -/
theorem channelsSound_of_seating {s t : State} (h : t.seating = s.seating) (hs : s.ChannelsSound) : t.ChannelsSound := by
  rw [channelsSound_iff] at hs ⊢
  rwa [h]

/-! ## Seatings changed -/

/-- A bay's seat replaced. -/
def Seating.put (x : Seating) (b : BayNo) (y : Seat) : Seating :=
  { x with seat := fun c => if c = b then y else x.seat c }

/-- A channel given to a bay or freed, with the bay's quiet mark. -/
def Seating.hand (x : Seating) (c : Fin 4) (holder : Option BayNo) (b : BayNo) : Seating :=
  { x with channels := x.channels.set c.val holder c.isLt, quiet := fun d => if d = b then holder.isSome else x.quiet d }

theorem set_get (v : Vector (Option BayNo) 4) (c d : Fin 4) (h : Option BayNo) :
    (v.set c.val h c.isLt)[d] = if d = c then h else v[d] := by
  simp only [Fin.getElem_fin, Vector.getElem_set, Fin.ext_iff, eq_comm]

/-- A change of a bay's seat that keeps its channel and its place. -/
theorem Seating.Agrees.put {x : Seating} (h : x.Agrees) {b : BayNo} {y : Seat} (channel : y.channel = (x.seat b).channel)
    (place : y.place = (x.seat b).place) (running : y.place ≠ .idle → y.status = .running)
    (valid : y.validity ≠ none → y.status = .passed ∨ y.status = .failed) : (x.put b y).Agrees := by
  obtain ⟨holder, step, nodup, queued, quiet, run, val⟩ := h
  constructor <;> simp only [Seating.put] <;> grind

/-- A bay without a step takes a free channel. -/
theorem Seating.Agrees.take {x : Seating} (h : x.Agrees) {b : BayNo} {c : Fin 4} {y : Seat} (free : x.channels[c] = none)
    (idle : (x.seat b).place = .idle) (channel : y.channel = some c) (place : y.place = .underWay)
    (running : y.status = .running) (valid : y.validity = none) : ((x.hand c (some b) b).put b y).Agrees := by
  obtain ⟨holder, step, nodup, queued, quiet, run, val⟩ := h
  constructor <;> simp only [Seating.put, Seating.hand, set_get] <;> grind

/-- A bay without a step joins the queue. -/
theorem Seating.Agrees.wait {x : Seating} (h : x.Agrees) {b : BayNo} {y : Seat} (idle : (x.seat b).place = .idle)
    (channel : y.channel = (x.seat b).channel) (place : y.place = .waiting) (running : y.status = .running)
    (valid : y.validity = none) : (({ x with queue := x.queue ++ [b] } : Seating).put b y).Agrees := by
  obtain ⟨holder, step, nodup, queued, quiet, run, val⟩ := h
  have : (x.queue ++ [b]).Nodup := List.nodup_append.mpr ⟨nodup, by simp, by grind⟩
  constructor <;> simp only [Seating.put] <;> grind

/-- A bay that waits leaves the queue; one that holds no channel is as it was. -/
theorem Seating.Agrees.leave {x : Seating} (h : x.Agrees) {b : BayNo} {y : Seat} (none' : (x.seat b).channel = none)
    (channel : y.channel = none) (place : y.place = .idle)
    (valid : y.validity ≠ none → y.status = .passed ∨ y.status = .failed) :
    (({ x with queue := x.queue.filter (fun z => z != b) } : Seating).put b y).Agrees := by
  obtain ⟨holder, step, nodup, queued, quiet, run, val⟩ := h
  have := nodup.filter (fun z => z != b)
  constructor <;> simp only [Seating.put] <;> grind

/-- A bay gives its channel up. -/
theorem Seating.Agrees.free {x : Seating} (h : x.Agrees) {b : BayNo} {c : Fin 4} {y : Seat}
    (held : (x.seat b).channel = some c) (channel : y.channel = none) (place : y.place = .idle)
    (valid : y.validity ≠ none → y.status = .passed ∨ y.status = .failed) : ((x.hand c none b).put b y).Agrees := by
  obtain ⟨holder, step, nodup, queued, quiet, run, val⟩ := h
  have alone (d : BayNo) : (x.seat d).channel = some c → d = b := fun e => by
    have := (holder c d).mpr e
    have := (holder c b).mpr held
    grind
  constructor <;> simp only [Seating.put, Seating.hand, set_get] <;> grind

/-- The bay at the queue's head leaves it for a free channel. -/
theorem Seating.Agrees.promote {x : Seating} (h : x.Agrees) {b : BayNo} {rest : List BayNo} {c : Fin 4} {y : Seat}
    (head : x.queue = b :: rest) (free : x.channels[c] = none) (channel : y.channel = some c) (place : y.place = .underWay)
    (running : y.status = .running) (valid : y.validity = none) :
    ((({ x with queue := rest } : Seating).hand c (some b) b).put b y).Agrees := by
  obtain ⟨holder, step, nodup, queued, quiet, run, val⟩ := h
  rw [head] at nodup queued
  have : rest.Nodup := nodup.of_cons
  constructor <;> simp only [Seating.put, Seating.hand, set_get] <;> grind

/-! ## States seated -/

theorem modLcs_seating (s : State) (b : BayNo) (f : Lcs → Lcs) :
    (s.modLcs b f).seating = s.seating.put b (f (s.lcsAt b)).seat := by
  simp only [State.seating, Seating.put, State.modLcs_channels, State.modLcs_channelQueue, State.modLcs_rowAt,
    Seating.mk.injEq, true_and]
  funext c
  split
  · next e => rw [e, State.modLcs_lcsAt_same]
  · next ne => rw [State.modLcs_lcsAt_ne s f ne]

/-- A change of a row that leaves its quiet mark. -/
theorem modRow_seating (s : State) (b : BayNo) (f : GrantRow → GrantRow) (quiet : (f (s.rowAt b)).quiet = (s.rowAt b).quiet) :
    (s.modRow b f).seating = s.seating := by
  simp only [State.seating, State.modRow_channels, State.modRow_channelQueue, State.modRow_lcsAt, Seating.mk.injEq,
    true_and, and_true]
  funext c
  by_cases e : c = b
  · rw [e, State.modRow_rowAt_same, quiet]
  · rw [State.modRow_rowAt_ne s f e]

@[simp] theorem Seating.put_put (x : Seating) (b : BayNo) (y z : Seat) : (x.put b y).put b z = x.put b z := by
  simp only [Seating.put, Seating.mk.injEq, true_and]
  funext c
  split <;> rfl

@[simp] theorem Seating.put_self (x : Seating) (b : BayNo) : x.put b (x.seat b) = x := by
  cases x
  simp only [Seating.put, Seating.mk.injEq, true_and]
  funext c
  split
  · next e => rw [e]
  · rfl

@[simp] theorem Seating.put_seat_same (x : Seating) (b : BayNo) (y : Seat) : (x.put b y).seat b = y := if_pos rfl

theorem Seating.put_seat_ne (x : Seating) {b c : BayNo} (y : Seat) (h : c ≠ b) : (x.put b y).seat c = x.seat c := if_neg h

theorem put_hand (x : Seating) (b d : BayNo) (y : Seat) (c : Fin 4) (h : Option BayNo) :
    (x.put b y).hand c h d = (x.hand c h d).put b y := rfl

/-- A bay's quiet mark replaced. -/
def Seating.mark (x : Seating) (b : BayNo) (q : Bool) : Seating :=
  { x with quiet := fun d => if d = b then q else x.quiet d }

theorem modRow_quiet_seating (s : State) (b : BayNo) (q : Bool) :
    (s.modRow b (fun r => { r with quiet := q })).seating = s.seating.mark b q := by
  simp only [State.seating, State.modRow_channels, State.modRow_channelQueue, State.modRow_lcsAt, Seating.mark,
    Seating.mk.injEq, true_and, and_true]
  funext d
  split
  · next e => rw [e, State.modRow_rowAt_same]
  · next ne => rw [State.modRow_rowAt_ne _ _ ne]

theorem setChannel_seating (s : State) (c : Fin 4) (h : Option BayNo) :
    (s.setChannel c h).seating = { s.seating with channels := s.channels.set c.val h c.isLt } := rfl

/-- The seat of a bay that has taken a channel. -/
def Seat.taken (y : Seat) (c : Fin 4) : Seat := { y with channel := some c, place := .underWay }

theorem takeChannel_seating (b : BayNo) (c : Fin 4) (s : State) :
    (takeChannel b c s).seating = (s.seating.hand c (some b) b).put b ((s.lcsAt b).seat.taken c) := by
  unfold takeChannel
  rw [modLcs_seating, modRow_quiet_seating, setChannel_seating, State.modRow_lcsAt, State.setChannel_lcsAt]
  refine congrArg (Seating.put _ b) ?_
  simp only [Lcs.seat, Seat.taken]
  split <;> rfl

theorem State.freeChannel_spec {s : State} {c : Fin 4} (h : s.freeChannel = some c) : s.channels[c] = none :=
  Option.isNone_iff_eq_none.mp (List.find?_some (p := fun c : Fin 4 => s.channels[c].isNone) h)

theorem State.freeChannel_none {s : State} (h : s.freeChannel = none) (c : Fin 4) : s.channels[c] ≠ none := by
  have all := List.find?_eq_none.mp h c (by revert c; decide)
  rwa [Option.isNone_iff_eq_none] at all

section Sound

variable {s : State} (h : s.ChannelsSound) (b : BayNo)
include h

/-- A RUNNING run's validity timer is stopped. -/
theorem State.ChannelsSound.unexpired (running : (s.lcsAt b).status = .running) : (s.lcsAt b).validity = none := by
  have valid := h.valid b
  rw [running] at valid
  refine Classical.byContradiction fun ne => ?_
  exact absurd (valid ne) (by decide)

/-- A change of a lamp record that keeps its channel and its place. -/
theorem State.ChannelsSound.modLcs (f : Lcs → Lcs) (channel : (f (s.lcsAt b)).channel = (s.lcsAt b).channel)
    (place : (f (s.lcsAt b)).phase.place = (s.lcsAt b).phase.place)
    (running : (s.lcsAt b).phase ≠ .none → (f (s.lcsAt b)).status = .running)
    (valid : (f (s.lcsAt b)).validity ≠ none →
      (f (s.lcsAt b)).status = .passed ∨ (f (s.lcsAt b)).status = .failed) : (s.modLcs b f).ChannelsSound := by
  obtain ⟨agrees, full⟩ := channelsSound_iff.mp h
  rw [channelsSound_iff, modLcs_seating]
  refine ⟨agrees.put channel place (fun ne => running fun e => ne ?_) valid, full⟩
  exact place.trans ((StepPhase.place_eq_idle _).mpr e)

/-- A change of a lamp record that keeps its channel, its place, its status and its validity timer. -/
theorem State.ChannelsSound.modLcs_seat (f : Lcs → Lcs) (seat : (f (s.lcsAt b)).seat = (s.lcsAt b).seat) :
    (s.modLcs b f).ChannelsSound := by
  refine channelsSound_of_seating ?_ h
  rw [modLcs_seating, seat]
  exact Seating.put_self s.seating b

/-- A step that asks for a channel. -/
theorem askChannel_sound (idle : (s.lcsAt b).phase = .none) (running : (s.lcsAt b).status = .running) :
    (askChannel b s).ChannelsSound := by
  obtain ⟨agrees, full⟩ := channelsSound_iff.mp h
  have place : (s.seating.seat b).place = .idle := (StepPhase.place_eq_idle _).mpr idle
  have stopped := h.unexpired b running
  rw [channelsSound_iff]
  unfold askChannel
  split
  · next c free empty =>
    rw [takeChannel_seating]
    exact ⟨agrees.take (State.freeChannel_spec free) place rfl rfl running stopped, fun ne => absurd empty ne⟩
  · next noneFree =>
    have out : s.channelQueue.contains b = false := by
      have mem := agrees.queued b
      rw [place] at mem
      exact Bool.eq_false_iff.mpr fun m => absurd (mem.mp (List.contains_iff_mem.mp m)) (by decide)
    have busy (c : Fin 4) : s.channels[c] ≠ none := by
      by_cases empty : s.channelQueue = []
      · refine State.freeChannel_none ?_ c
        cases e : s.freeChannel with
        | none => rfl
        | some d => exact absurd empty (noneFree d e)
      · exact full empty c
    rw [modLcs_seating, out]
    exact ⟨agrees.wait (b := b) (y := ({ s.lcsAt b with phase := .queued } : Lcs).seat) place rfl rfl running stopped,
      fun _ => busy⟩

end Sound

/-! ## A step's release -/

/-- The queue replaced. -/
def State.withQueue (s : State) (q : List BayNo) : State := { s with channelQueue := q }

/-- A bay's channel freed. -/
def State.vacate (s : State) (b : BayNo) (c : Fin 4) : State :=
  (s.setChannel c none).modLcs b (fun l => { l with channel := none })

/-- The queue without a bay. -/
def State.queueWithout (s : State) (b : BayNo) : List BayNo := s.channelQueue.filter (fun x => x != b)

/-- A bay's quiet mark cleared. -/
def State.calm (s : State) (b : BayNo) : State := s.modRow b (fun r => { r with quiet := false })

theorem withQueue_seating (s : State) (q : List BayNo) : (s.withQueue q).seating = { s.seating with queue := q } := rfl

theorem calm_seating (s : State) (b : BayNo) : (s.calm b).seating = s.seating.mark b false := modRow_quiet_seating s b false

theorem vacate_seating (s : State) (b : BayNo) (c : Fin 4) :
    (s.vacate b c).seating = ({ s.seating with channels := s.channels.set c.val none c.isLt } : Seating).put b
      ({ s.lcsAt b with channel := none } : Lcs).seat := by
  unfold State.vacate
  rw [modLcs_seating, setChannel_seating, State.setChannel_lcsAt]

theorem withQueue_lcsAt (s : State) (q : List BayNo) (x : BayNo) : (s.withQueue q).lcsAt x = s.lcsAt x := rfl

theorem calm_lcsAt (s : State) (b x : BayNo) : (s.calm b).lcsAt x = s.lcsAt x := State.modRow_lcsAt ..

theorem vacate_lcsAt_same (s : State) (b : BayNo) (c : Fin 4) : (s.vacate b c).lcsAt b = { s.lcsAt b with channel := none } :=
  State.modLcs_lcsAt_same ..

theorem vacate_lcsAt_ne (s : State) {b x : BayNo} (c : Fin 4) (ne : x ≠ b) : (s.vacate b c).lcsAt x = s.lcsAt x :=
  State.modLcs_lcsAt_ne _ _ ne

theorem takeChannel_lcsAt_ne (s : State) {b x : BayNo} (c : Fin 4) (ne : x ≠ b) : (takeChannel b c s).lcsAt x = s.lcsAt x := by
  unfold takeChannel
  rw [State.modLcs_lcsAt_ne _ _ ne, State.modRow_lcsAt, State.setChannel_lcsAt]

theorem releaseStep_of_none {b : BayNo} {s : State} (h : (s.lcsAt b).channel = none) :
    (releaseStep b s).1 = (s.withQueue (s.queueWithout b)).calm b := by
  unfold releaseStep freeChannelOf
  rw [show ({ s with channelQueue := s.channelQueue.filter (fun x => x != b) } : State) = s.withQueue (s.queueWithout b)
    from rfl, withQueue_lcsAt, h]
  rfl

/-- What a release leaves where the queue, the bay taken out, is as given. -/
def State.freed (s : State) (b : BayNo) (c : Fin 4) : List BayNo → State
  | [] => ((s.withQueue []).vacate b c).calm b
  | head :: rest => (takeChannel head c ((s.withQueue rest).vacate b c)).calm b

theorem releaseStep_of_some {b : BayNo} {c : Fin 4} {s : State} (h : (s.lcsAt b).channel = some c) :
    (releaseStep b s).1 = s.freed b c (s.queueWithout b) := by
  unfold releaseStep freeChannelOf
  rw [show ({ s with channelQueue := s.channelQueue.filter (fun x => x != b) } : State) = s.withQueue (s.queueWithout b)
    from rfl, withQueue_lcsAt, h]
  dsimp only
  rw [show ((s.withQueue (s.queueWithout b)).setChannel c none).modLcs b (fun l => { l with channel := none }) =
    (s.withQueue (s.queueWithout b)).vacate b c from rfl,
    show ((s.withQueue (s.queueWithout b)).vacate b c).channelQueue = s.queueWithout b from rfl]
  cases s.queueWithout b with
  | nil => rfl
  | cons head rest => rfl

theorem ne_of_mem_queueWithout {s : State} {b x : BayNo} (h : x ∈ s.queueWithout b) : x ≠ b := by
  simpa using (List.mem_filter.mp h).2

/-- The bay itself has no channel after a release, and is otherwise as it was. -/
theorem releaseStep_lcsAt (b : BayNo) (s : State) : (releaseStep b s).1.lcsAt b = { s.lcsAt b with channel := none } := by
  cases held : (s.lcsAt b).channel with
  | none =>
    rw [releaseStep_of_none held, calm_lcsAt, withQueue_lcsAt]
    exact congrArg (fun x => { s.lcsAt b with channel := x }) held
  | some c =>
    rw [releaseStep_of_some held]
    cases queue : s.queueWithout b with
    | nil => rw [State.freed, calm_lcsAt, vacate_lcsAt_same, withQueue_lcsAt]
    | cons head rest =>
      have ne : b ≠ head := (ne_of_mem_queueWithout (queue ▸ List.mem_cons_self)).symm
      rw [State.freed, calm_lcsAt, takeChannel_lcsAt_ne _ _ ne, vacate_lcsAt_same, withQueue_lcsAt]

theorem mark_put (x : Seating) (b c : BayNo) (y : Seat) (q : Bool) : (x.put b y).mark c q = (x.mark c q).put b y := rfl

theorem put_comm (x : Seating) {b c : BayNo} (y z : Seat) (ne : b ≠ c) : (x.put b y).put c z = (x.put c z).put b y := by
  simp only [Seating.put, Seating.mk.injEq, true_and]
  funext d
  grind

/-- A step released and forgotten. -/
theorem releaseStep_sound {s : State} (h : s.ChannelsSound) (b : BayNo) (f : Lcs → Lcs)
    (channel : (f { s.lcsAt b with channel := none }).channel = none)
    (idle : (f { s.lcsAt b with channel := none }).phase = .none)
    (valid : (f { s.lcsAt b with channel := none }).validity ≠ none →
      (f { s.lcsAt b with channel := none }).status = .passed ∨ (f { s.lcsAt b with channel := none }).status = .failed) :
    ((releaseStep b s).1.modLcs b f).ChannelsSound := by
  obtain ⟨agrees, full⟩ := channelsSound_iff.mp h
  have place := (StepPhase.place_eq_idle _).mpr idle
  rw [channelsSound_iff, modLcs_seating, releaseStep_lcsAt]
  generalize f { s.lcsAt b with channel := none } = l at channel idle valid place
  cases held : (s.lcsAt b).channel with
  | none =>
    have quiet : s.seating.mark b false = s.seating := by
      have unmarked := agrees.quiet b
      simp only [Seating.mark]
      refine congrArg (fun q => ({ s.seating with quiet := q } : Seating)) ?_
      funext d
      split
      · next e => subst e; exact (Bool.eq_false_iff.mpr fun m => unmarked.mp m held).symm
      · rfl
    rw [releaseStep_of_none held, calm_seating, withQueue_seating]
    have left := agrees.leave (b := b) (y := l.seat) held channel place valid
    rw [← quiet] at left
    refine ⟨left, fun ne => full fun e => ne ?_⟩
    exact (congrArg (List.filter _) e).trans rfl
  | some c =>
    have under : (s.seating.seat b).place = .underWay := (agrees.step b).mp (by rw [show (s.seating.seat b).channel = _ from held]; exact nofun)
    have out : s.queueWithout b = s.channelQueue := by
      refine List.filter_eq_self.mpr fun x m => ?_
      have waits := (agrees.queued x).mp m
      simp only [bne_iff_ne]
      rintro rfl
      exact absurd (under.symm.trans waits) (by decide)
    have freed := agrees.free (y := l.seat) held channel place valid
    rw [releaseStep_of_some held, out]
    cases queue : s.channelQueue with
    | nil =>
      have now : (((s.freed b c []).seating).put b l.seat) = (s.seating.hand c none b).put b l.seat := by
        rw [State.freed, calm_seating, vacate_seating, withQueue_seating, ← queue, mark_put, Seating.put_put]
        rfl
      rw [now]
      exact ⟨freed, fun ne => absurd queue ne⟩
    | cons head rest =>
      have waits := (agrees.queued head).mp (show head ∈ s.channelQueue from queue ▸ List.mem_cons_self)
      have ne : head ≠ b := by rintro rfl; exact absurd (under.symm.trans waits) (by decide)
      have now : (((s.freed b c (head :: rest)).seating).put b l.seat) =
          ((({ (s.seating.hand c none b).put b l.seat with queue := rest } : Seating).hand c (some head) head).put head
            ((s.lcsAt head).seat.taken c)) := by
        rw [State.freed, calm_seating, takeChannel_seating, vacate_seating, withQueue_seating, vacate_lcsAt_ne _ _ ne,
          withQueue_lcsAt, withQueue_lcsAt]
        simp only [Seating.put, Seating.hand, Seating.mark, Seating.mk.injEq]
        refine ⟨rfl, trivial, funext fun d => ?_, funext fun d => ?_⟩ <;> grind
      have running : (s.lcsAt head).status = .running := agrees.running head (by rw [waits]; decide)
      rw [now]
      refine ⟨freed.promote queue ?_ rfl rfl running (h.unexpired head running), fun _ d => ?_⟩
      · exact (set_get _ c c none).trans (if_pos rfl)
      · by_cases e : d = c
        · exact fun free => nomatch ((set_get _ c d (some head)).trans (if_pos e)).symm.trans free
        · have busy := full (show s.channelQueue ≠ [] from by rw [queue]; exact List.cons_ne_nil _ _) d
          have stands := ((set_get _ c d (some head)).trans (if_neg e)).trans ((set_get s.seating.channels c d none).trans (if_neg e))
          exact fun free => busy (stands.symm.trans free)

end Sys2Proof.Machine
end

section
/-! O10 (R58, R103, R119, R126, R128, R140, R143): what each block's actions do to the channels, and the sizes of stacks and
map. -/

namespace Sys2Proof.Machine

/-! ## The LCS -/

theorem Lcs.judge_seat (l : Lcs) : l.judge.seat = l.seat := by
  unfold Lcs.judge
  split
  · dsimp only
    split <;> rfl
  · rfl

theorem Lcs.judge_channel (l : Lcs) : l.judge.channel = l.channel := congrArg Seat.channel l.judge_seat
theorem Lcs.judge_status (l : Lcs) : l.judge.status = l.status := congrArg Seat.status l.judge_seat
theorem Lcs.judge_validity (l : Lcs) : l.judge.validity = l.validity := congrArg Seat.validity l.judge_seat

theorem Lcs.nextPass_seat (l : Lcs) : l.nextPass.seat = l.seat := by
  unfold Lcs.nextPass; split <;> rfl

theorem Lcs.nextPass_status (l : Lcs) : l.nextPass.status = l.status := congrArg Seat.status l.nextPass_seat

@[simp] theorem bayPut_bayPut {α : Type} (v : Vector α 16) (b : BayNo) (x y : α) :
    bayPut (bayPut v b x) b y = bayPut v b y := Vector.set_set ..

theorem modLcs_modLcs (s : State) (b : BayNo) (f g : Lcs → Lcs) : (s.modLcs b f).modLcs b g = s.modLcs b (fun l => g (f l)) := by
  simp only [State.modLcs, bayAt_bayPut_same, bayPut_bayPut]

/-- A change of a lamp record that forgets its step and nothing else that its seat shows. -/
structure Lcs.Forgets (f : Lcs → Lcs) : Prop where
  channel : ∀ l, (f l).channel = l.channel
  phase : ∀ l, (f l).phase = .none
  status : ∀ l, (f l).status = l.status
  validity : ∀ l, (f l).validity = l.validity

theorem Lcs.Forgets.judged : Lcs.Forgets (fun l => l.judge.noStep) :=
  ⟨Lcs.judge_channel, fun _ => rfl, Lcs.judge_status, Lcs.judge_validity⟩

theorem abandonStep_forgets (b : BayNo) (s : State) :
    ∃ f, (abandonStep b s).1 = (releaseStep b s).1.modLcs b f ∧ Lcs.Forgets f := by
  unfold abandonStep
  dsimp only
  split
  case h_2 =>
    dsimp only
    refine ⟨_, rfl, ?_⟩
    exact ⟨Lcs.judge_channel, fun _ => rfl, Lcs.judge_status, Lcs.judge_validity⟩
  all_goals
    dsimp only
    refine ⟨_, rfl, ?_⟩
    exact ⟨fun _ => rfl, fun _ => rfl, fun _ => rfl, fun _ => rfl⟩

section Sound

variable {s : State} (h : s.ChannelsSound) (b : BayNo)
include h

theorem modClc_sound (f : Clc → Clc) : (s.modClc b f).ChannelsSound := channelsSound_of_seating (by rfl) h

theorem modFrd_sound (f : Frd → Frd) : (s.modFrd b f).ChannelsSound := channelsSound_of_seating (by rfl) h

theorem submitLampOf_sound (c : Nat) (on : Bool) : (submitLampOf b c on s).1.ChannelsSound := by
  unfold submitLampOf
  dsimp only [done]
  split
  · exact modClc_sound h b _
  · exact h

theorem submitOwed_sound (c : Nat) : (submitOwed b c s).ChannelsSound := by
  unfold submitOwed
  split
  · exact modClc_sound h b _
  · exact h

theorem handOutcomes_sound : (handOutcomes b s).1.ChannelsSound := by
  unfold handOutcomes
  exact modFrd_sound h b (fun _ => (s.frdAt b).takeOutcomes (s.lcsAt b).results)

theorem State.ChannelsSound.status_of_phase {p : StepPhase} (phase : (s.lcsAt b).phase = p) (under : p.place = .underWay) :
    (s.lcsAt b).status = .running := by
  refine h.running b fun e => ?_
  rw [← phase, e] at under
  cases under

/-- A step under way goes to another phase past the queue. -/
theorem State.ChannelsSound.toPhase (f : Lcs → Lcs) {p : StepPhase} (phase : (s.lcsAt b).phase = p) (under : p.place = .underWay)
    (channel : (f (s.lcsAt b)).channel = (s.lcsAt b).channel) (place : (f (s.lcsAt b)).phase.place = .underWay)
    (status : (f (s.lcsAt b)).status = (s.lcsAt b).status) (validity : (f (s.lcsAt b)).validity = (s.lcsAt b).validity) :
    (s.modLcs b f).ChannelsSound := by
  refine h.modLcs b f channel (by rw [place, phase, under]) (fun _ => ?_) ?_
  · rw [status]; exact h.status_of_phase b phase under
  · rw [validity, status]; exact h.valid b

theorem goOff_sound {p : StepPhase} (phase : (s.lcsAt b).phase = p) (under : p.place = .underWay) :
    (goOff b s).1.ChannelsSound := by
  unfold goOff
  dsimp only [done]
  split
  · exact submitLampOf_sound (h.toPhase b _ phase under rfl rfl rfl rfl) b _ _
  · exact h

/-- A release whose step is forgotten. -/
theorem release_forgets_sound {f : Lcs → Lcs} (forgets : Lcs.Forgets f) : ((releaseStep b s).1.modLcs b f).ChannelsSound :=
  releaseStep_sound h b f (forgets.channel _) (forgets.phase _) (by rw [forgets.validity, forgets.status]; exact h.valid b)

theorem abandonStep_then_sound (g : Lcs → Lcs) (channel : ∀ l, (g l).channel = l.channel)
    (phase : ∀ l : Lcs, l.phase = .none → (g l).phase = .none)
    (valid : ∀ l : Lcs, (l.validity ≠ none → l.status = .passed ∨ l.status = .failed) → l.status = (s.lcsAt b).status →
      (g l).validity ≠ none → (g l).status = .passed ∨ (g l).status = .failed) :
    ((abandonStep b s).1.modLcs b g).ChannelsSound := by
  obtain ⟨f, e, forgets⟩ := abandonStep_forgets b s
  rw [e, modLcs_modLcs]
  refine releaseStep_sound h b _ ?_ (phase _ (forgets.phase _)) (valid _ ?_ (forgets.status _))
  · rw [channel, forgets.channel]
  · rw [forgets.validity, forgets.status]; exact h.valid b

theorem pauseRun_sound (add : PauseReasons → PauseReasons) (running : (s.lcsAt b).status = .running) :
    (pauseRun b add s).1.ChannelsSound := by
  unfold pauseRun
  dsimp only [done]
  refine abandonStep_then_sound h b _ ?_ ?_ ?_
  · exact fun _ => rfl
  · exact fun _ e => e
  intro l valid status ne
  rw [status, running] at valid
  exact absurd (valid ne) (by decide)

theorem addReason_sound (add : PauseReasons → PauseReasons) : (addReason b add s).1.ChannelsSound := by
  unfold addReason
  dsimp only [done]
  split
  · next running => exact pauseRun_sound h b add running
  · dsimp only
    exact h.modLcs_seat b _ rfl
  all_goals exact h

/-- A run that stands but is not RUNNING has no step, and no validity timer. -/
theorem State.ChannelsSound.paused (status : (s.lcsAt b).status = .paused) :
    (s.lcsAt b).phase = .none ∧ (s.lcsAt b).validity = none := by
  constructor
  · refine Classical.byContradiction fun ne => ?_
    have := h.running b ne
    rw [status] at this; cases this
  · refine Classical.byContradiction fun ne => ?_
    have := h.valid b ne
    rw [status] at this; revert this; decide

theorem dropReason_sound (drop : PauseReasons → PauseReasons) : (dropReason b drop s).1.ChannelsSound := by
  unfold dropReason
  dsimp only [done]
  split
  · next status =>
    obtain ⟨phase, validity⟩ := h.paused b status
    split
    · dsimp only
      exact h.modLcs b _ rfl rfl (fun ne => absurd phase ne) (fun ne => absurd validity ne)
    · dsimp only
      exact h.modLcs_seat b _ rfl
  · exact h

theorem lcsStart_sound (m : LampMode) (n : Nat) (free : (s.lcsAt b).status.active = false) :
    (lcsStart b m n s).1.ChannelsSound := by
  have phase : (s.lcsAt b).phase = .none := by
    refine Classical.byContradiction fun ne => ?_
    rw [h.running b ne] at free; cases free
  unfold lcsStart
  dsimp only [done]
  exact h.modLcs b _ rfl (by rw [phase]; rfl) (fun ne => absurd phase ne) (fun ne => absurd rfl ne)

theorem lcsAutomatic_sound : (lcsAutomatic b s).1.ChannelsSound := by
  unfold lcsAutomatic
  dsimp only [done]
  split
  · exact h
  · exact h
  all_goals next status => exact lcsStart_sound h b _ _ (by rw [status]; rfl)

theorem lcsNext_sound : (lcsNext b s).1.ChannelsSound := by
  unfold lcsNext
  dsimp only [done]
  split
  · next runs =>
    have kept := h.modLcs_seat b (fun _ => (s.lcsAt b).nextPass) (Lcs.nextPass_seat _)
    split
    · exact h
    · split
      · exact kept
      · refine askChannel_sound kept b ?_ ?_ <;> rw [State.modLcs_lcsAt_same]
        · exact runs.2
        · exact runs.1
  · exact h

theorem lcsStepEnd_sound : (lcsStepEnd b s).1.ChannelsSound := by
  unfold lcsStepEnd
  dsimp only [done]
  split
  · next stops =>
    rw [modLcs_modLcs]
    rw [State.modLcs_lcsAt_same, releaseStep_lcsAt] at stops
    have running : (s.lcsAt b).status = .running :=
      (Lcs.judge_status { s.lcsAt b with channel := none }).symm.trans stops.1
    dsimp only
    refine releaseStep_sound h b _ ?_ ?_ ?_
    · exact Lcs.judge_channel _
    · rfl
    · intro ne
      exact absurd ((Lcs.judge_validity { s.lcsAt b with channel := none }).trans (h.unexpired b running)) ne
  · exact release_forgets_sound h b .judged

theorem lcsRunEnd_sound : (lcsRunEnd b s).1.ChannelsSound := by
  unfold lcsRunEnd
  dsimp only [done]
  split
  · next ends =>
    refine handOutcomes_sound (h.modLcs b _ rfl ?_ (fun ne => absurd ends.2 ne) fun _ => ?_) b
    · exact congrArg StepPhase.place ends.2.symm
    · dsimp only
      split
      · exact .inl rfl
      · exact .inr rfl
  · exact h

theorem lcsAbort_sound (stands : (s.lcsAt b).status.active = true) : (lcsAbort b s).1.ChannelsSound := by
  unfold lcsAbort
  dsimp only [done]
  refine handOutcomes_sound ?_ b
  refine abandonStep_then_sound h b _ ?_ ?_ ?_
  · exact fun _ => rfl
  · exact fun _ _ => rfl
  intro l valid status ne
  have inactive := valid ne
  rw [status] at inactive
  rcases inactive with e | e <;> (rw [e] at stands; cases stands)

theorem lampOnResult_sound (x : TxResult) (phase : (s.lcsAt b).phase = .light) : (lampOnResult b x s).1.ChannelsSound := by
  unfold lampOnResult
  dsimp only [done]
  split
  · split
    · exact goOff_sound h b phase rfl
    · dsimp only
      exact h.toPhase b _ phase rfl rfl rfl rfl rfl
  · dsimp only
    exact h.modLcs_seat b _ rfl
  · split
    · refine goOff_sound (h.modLcs_seat b _ (by rfl)) b (p := .light) ?_ rfl
      rw [State.modLcs_lcsAt_same]; exact phase
    · exact addReason_sound h b _

theorem lampOffResult_sound (c : Nat) (x : TxResult) : (lampOffResult b c x s).1.ChannelsSound := by
  unfold lampOffResult
  dsimp only [done]
  split
  · exact h
  · exact h
  · exact submitOwed_sound (h.modLcs_seat b (fun l => { l with owed := some c }) rfl) b c

theorem lampOwedResult_sound (c : Nat) (on : Bool) (x : TxResult) : (lampOwedResult b c on x s).1.ChannelsSound := by
  unfold lampOwedResult
  dsimp only [done]
  split
  · dsimp only
    exact h.modLcs_seat b _ rfl
  · dsimp only
    exact h.modLcs_seat b _ rfl
  · exact submitOwed_sound h b c
  · exact submitOwed_sound h b c

theorem lcsResult_sound (c : Nat) (on : Bool) (x : TxResult) : (lcsResult b c on x s).1.ChannelsSound := by
  unfold lcsResult
  dsimp only [done]
  split
  · next lit => exact lampOnResult_sound h b x lit.1
  · split
    · exact lampOffResult_sound h b c x
    · split
      · exact lampOwedResult_sound h b c on x
      · exact h

theorem lcsRemoved_sound : (lcsRemoved b s).1.ChannelsSound := by
  have disturb : (s.modLcs b (fun l => { l with outcome := some (.disturbed, none), baseline := [] })).ChannelsSound :=
    h.modLcs_seat b _ (by rfl)
  have phaseKept : ((s.modLcs b (fun l => { l with outcome := some (.disturbed, none), baseline := [] })).lcsAt b).phase =
      (s.lcsAt b).phase := by rw [State.modLcs_lcsAt_same]
  unfold lcsRemoved
  dsimp only [done]
  split
  · split
    · exact disturb
    · exact disturb
    · next phase => exact goOff_sound disturb b (phaseKept.trans phase) rfl
    · next phase => exact goOff_sound disturb b (phaseKept.trans phase) rfl
    all_goals exact h
  · exact h

theorem lcsSwitchOff_sound : (lcsSwitchOff b s).1.ChannelsSound := by
  unfold lcsSwitchOff
  dsimp only [done]
  split
  · exact submitOwed_sound h b _
  · exact h

theorem lcsIgnition_sound (on : Bool) : (lcsIgnition b on s).1.ChannelsSound := by
  have kept := h.modLcs_seat b (fun l => { l with ignition := some on }) rfl
  unfold lcsIgnition
  dsimp only [done]
  split <;> split
  · exact kept
  · exact addReason_sound kept b _
  · exact dropReason_sound kept b _
  · exact kept

theorem lcsLost_sound : (lcsLost b s).1.ChannelsSound := by
  have kept := h.modLcs_seat b (fun l => { l with linkHeldLost := true }) rfl
  unfold lcsLost
  dsimp only [done]
  split
  · exact kept
  · exact addReason_sound kept b _

theorem lcsRecovered_sound : (lcsRecovered b s).1.ChannelsSound := by
  have kept := h.modLcs_seat b (fun l => { l with linkHeldLost := false }) rfl
  unfold lcsRecovered
  dsimp only [done]
  split <;> split
  · exact dropReason_sound (submitOwed_sound kept b _) b _
  · exact dropReason_sound kept b _
  · exact submitOwed_sound kept b _
  · exact kept

theorem lcsDocked_sound : (lcsDocked b s).1.ChannelsSound := by
  have kept := h.modLcs_seat b (fun l => { l with linkHeldLost := false }) rfl
  unfold lcsDocked
  dsimp only [done]
  split
  · split
    · exact lcsAutomatic_sound kept b
    · exact kept
  · exact kept

theorem lcsAbandonRun_sound : (lcsAbandonRun b s).1.ChannelsSound := by
  unfold lcsAbandonRun
  dsimp only
  refine release_forgets_sound h b ?_
  exact ⟨fun _ => rfl, fun _ => rfl, fun _ => rfl, fun _ => rfl⟩

theorem lcsUndock_sound : (lcsUndock b s).1.ChannelsSound := by
  unfold lcsUndock
  dsimp only
  exact releaseStep_sound h b _ rfl rfl (fun ne => absurd rfl ne)

theorem lcsRetain_sound : (lcsRetain b s).1.ChannelsSound := by
  unfold lcsRetain
  dsimp only
  exact releaseStep_sound h b _ rfl rfl (fun ne => absurd rfl ne)

theorem lcsBaseline_sound (x : FourSamples) : (lcsBaseline b x s).1.ChannelsSound := by
  unfold lcsBaseline
  dsimp only [done]
  split
  · split
    · next phase => exact submitLampOf_sound (h.toPhase b _ phase (by rfl) (by rfl) (by rfl) (by rfl) (by rfl)) b _ _
    · exact h
  · exact h

theorem lcsSettled_sound : (lcsSettled b s).1.ChannelsSound := by
  unfold lcsSettled
  dsimp only [done]
  split
  · next settles =>
    dsimp only
    exact h.toPhase b _ settles.1 rfl rfl rfl rfl rfl
  · exact h

theorem lcsLit_sound (x y : FourSamples) : (lcsLit b x y s).1.ChannelsSound := by
  unfold lcsLit
  dsimp only [done]
  split
  · split
    · split
      · next phase =>
        refine goOff_sound (h.modLcs_seat b _ (by rfl)) b (p := .lit) ?_ rfl
        rw [State.modLcs_lcsAt_same]; exact phase
      · exact h
    · exact h
  · exact h

theorem lcsExpired_sound : (lcsExpired b s).1.ChannelsSound := by
  unfold lcsExpired
  dsimp only [done]
  split
  · next runs =>
    have ne : (s.lcsAt b).validity ≠ none := fun e => by rw [e] at runs; cases runs
    dsimp only
    refine h.modLcs b _ rfl rfl (fun step => ?_) (fun off => absurd rfl off)
    exact absurd (h.unexpired b (h.running b step)) ne
  · exact h

end Sound

/-! ## The FAL -/

theorem modClc_seating (s : State) (b : BayNo) (f : Clc → Clc) : (s.modClc b f).seating = s.seating := rfl

theorem modFeeder_seating (s : State) (f : Feeder → Feeder) : (s.modFeeder f).seating = s.seating := rfl

theorem submitStage_seating (b : BayNo) (n : Nat) (s : State) : (submitStage b n s).seating = s.seating :=
  modRow_seating (s.modClc b (fun c => c.submitHeat n)) b _ rfl

theorem lcsStageEnded_seating (b : BayNo) (s : State) : (lcsStageEnded b s).seating = s.seating := by
  unfold lcsStageEnded
  rw [modLcs_seating]
  split
  · next phase =>
    have same : ({ s.lcsAt b with phase := .baseline, baseline := [] } : Lcs).seat = (s.lcsAt b).seat := by
      simp only [Lcs.seat, phase]; rfl
    rw [same]
    exact Seating.put_self s.seating b
  · exact Seating.put_self s.seating b

theorem endStageUp_seating (b : BayNo) (s : State) : (endStageUp b s).seating = s.seating := by
  unfold endStageUp startRamp
  rw [lcsStageEnded_seating, modFeeder_seating]
  exact modRow_seating (s.modFeeder (fun f => { f with stageUp := none })) b _ rfl

theorem cancelStageUp_seating (b : BayNo) (s : State) : (cancelStageUp b s).seating = s.seating := by
  unfold cancelStageUp
  split
  · exact endStageUp_seating b s
  · rfl

theorem stripRows_seating (bs : List BayNo) (n : Nat) (s : State) : (stripRows bs n s).seating = s.seating := by
  induction bs generalizing n s with
  | nil => rfl
  | cons b bs ih =>
    unfold stripRows
    dsimp only
    rw [ih]
    split
    · rfl
    · rw [cancelStageUp_seating]
      exact modRow_seating s b _ rfl

theorem submitStages_seating (bs : List BayNo) (s : State) : (submitStages bs s).seating = s.seating := by
  unfold submitStages
  induction bs generalizing s with
  | nil => rfl
  | cons b bs ih => exact (ih _).trans (submitStage_seating b _ s)

theorem forcedRemoval_seating (s : State) : (forcedRemoval s).seating = s.seating := by
  unfold forcedRemoval
  rw [submitStages_seating, stripRows_seating]

theorem commitStageUp_seating (b : BayNo) (s : State) : (commitStageUp b s).seating = s.seating := by
  unfold commitStageUp
  dsimp only
  rw [modFeeder_seating, submitStage_seating, modFeeder_seating]
  exact modRow_seating s b _ rfl

theorem preempt_seating (b : BayNo) (s : State) : (preempt b s).seating = s.seating := by
  unfold preempt
  dsimp only
  split
  · rfl
  · rw [commitStageUp_seating, submitStages_seating, stripRows_seating]

theorem selection_seating (s : State) : (selection s).seating = s.seating := by
  unfold selection
  split
  · dsimp only
    split
    · exact commitStageUp_seating ..
    · split
      · rfl
      · exact preempt_seating ..
  · rfl

theorem cutGrant_seating (b : BayNo) (s : State) : (cutGrant b s).1.seating = s.seating := by
  unfold cutGrant
  dsimp only
  rw [submitStage_seating, cancelStageUp_seating]
  exact modRow_seating s b _ rfl

theorem setRequested_seating (b : BayNo) (s : State) : (setRequested b s).1.seating = s.seating := by
  have kept := modRow_seating s b (fun r => { r with requested := s.effectiveRequest b }) rfl
  unfold setRequested
  dsimp only [done]
  split
  · exact (cutGrant_seating ..).trans kept
  · split <;> exact kept

theorem falTake_seating (b : BayNo) (s : State) : (falTake b s).1.seating = s.seating := by
  unfold falTake
  dsimp only
  rw [setRequested_seating]
  exact modRow_seating s b _ rfl

theorem falLost_seating (b : BayNo) (s : State) : (falLost b s).1.seating = s.seating := by
  unfold falLost
  dsimp only
  split
  · rw [submitStage_seating, setRequested_seating]
    exact modRow_seating s b _ rfl
  · rw [setRequested_seating]
    exact modRow_seating s b _ rfl

theorem falRecovered_seating (b : BayNo) (s : State) : (falRecovered b s).1.seating = s.seating :=
  (setRequested_seating b _).trans (modRow_seating s b _ rfl)

theorem falEmpty_seating (b : BayNo) (s : State) : (falEmpty b s).1.seating = s.seating := by
  unfold falEmpty
  dsimp only [done]
  split
  · exact modRow_seating s b _ rfl
  · refine (modRow_seating _ b _ rfl).trans ((cutGrant_seating ..).trans ?_)
    exact modRow_seating s b _ rfl

theorem falUndock_seating (b : BayNo) (s : State) : (falUndock b s).1.seating = s.seating := by
  unfold falUndock
  dsimp only
  split
  · exact falEmpty_seating b s
  · exact (submitStage_seating ..).trans (falEmpty_seating b s)

theorem falRecompute_seating (s : State) : (falRecompute s).1.seating = s.seating := by
  unfold falRecompute
  dsimp only
  split
  · exact forcedRemoval_seating _
  · rfl

theorem stageUpFails_seating (b : BayNo) (why : CommandResult) (s : State) : (stageUpFails b why s).1.seating = s.seating := by
  unfold stageUpFails
  dsimp only
  rw [endStageUp_seating]
  refine (modRow_seating _ b _ rfl).trans ((submitStage_seating ..).trans ?_)
  exact modRow_seating s b _ rfl

theorem stageUpResult_seating (b : BayNo) (u : StageUp) (x : TxResult) (s : State) :
    (stageUpResult b u x s).1.seating = s.seating := by
  unfold stageUpResult
  split
  · rfl
  · exact stageUpFails_seating ..
  · split
    · exact stageUpFails_seating ..
    · exact (endStageUp_seating ..).trans (modRow_seating s b _ rfl)

theorem commandResult_seating (b : BayNo) (x : TxResult) (s : State) : (commandResult b x s).1.seating = s.seating := by
  have kept := modRow_seating s b (fun r => { r with lastResult := commandOf x }) rfl
  unfold commandResult
  dsimp only [done]
  split
  · exact (submitStage_seating ..).trans kept
  · exact kept

theorem falResult_seating (b : BayNo) (n : Nat) (x : TxResult) (s : State) : (falResult b n x s).1.seating = s.seating := by
  unfold falResult
  split
  · split
    · exact stageUpResult_seating ..
    · exact commandResult_seating ..
  · exact commandResult_seating ..

theorem falMeter_seating (b : BayNo) (s : State) : (falMeter b s).seating = s.seating := by
  unfold falMeter
  split
  · split
    · split
      · exact (endStageUp_seating ..).trans (modRow_seating s b _ rfl)
      · rfl
    · rfl
  · rfl

theorem falConfirmExpired_seating (s : State) : (falConfirmExpired s).1.seating = s.seating := by
  unfold falConfirmExpired
  split
  · split
    · exact stageUpFails_seating ..
    · rfl
  · rfl

theorem falRampExpired_seating (s : State) : (falRampExpired s).1.seating = s.seating := by
  unfold falRampExpired
  split <;> rfl

/-! ## Events -/

/-- A writer but the FAL and the LCS leaves the seating as it stands. -/
theorem seating_of_outside {s t : State} {k : Writer} (ne : k ≠ .feeder ∧ k ≠ .lamps) (h : t.outside k = s.outside k) :
    t.seating = s.seating := by
  refine eq_of_outside State.seating (k := k) (fun _ => ?_) h
  cases k
  case feeder => exact absurd rfl ne.1
  case lamps => exact absurd rfl ne.2
  all_goals rfl

/-- Every notice keeps the channels with the steps. -/
theorem handle_channelsSound (n : Notice) {s : State} (h : s.ChannelsSound) : (handle n s).1.ChannelsSound := by
  by_cases own : n.writer = .feeder ∨ n.writer = .lamps
  · cases n <;> simp only [Notice.writer, reduceCtorEq, or_self] at own
    case falTake b => exact channelsSound_of_seating (falTake_seating b s) h
    case falContactor b => exact channelsSound_of_seating (setRequested_seating b s) h
    case falLost b => exact channelsSound_of_seating (falLost_seating b s) h
    case falRecovered b => exact channelsSound_of_seating (falRecovered_seating b s) h
    case falDocked b => exact channelsSound_of_seating (modRow_seating s b _ rfl) h
    case falEmpty b => exact channelsSound_of_seating (falEmpty_seating b s) h
    case falUndock b => exact channelsSound_of_seating (falUndock_seating b s) h
    case falRecompute => exact channelsSound_of_seating (falRecompute_seating s) h
    case falResult b n x => exact channelsSound_of_seating (falResult_seating b n x s) h
    case falSelect => exact channelsSound_of_seating (selection_seating s) h
    case lcsAutomatic b => exact lcsAutomatic_sound h b
    case lcsNext b => exact lcsNext_sound h b
    case lcsStepEnd b => exact lcsStepEnd_sound h b
    case lcsRunEnd b => exact lcsRunEnd_sound h b
    case lcsResult b c on x => exact lcsResult_sound h b c on x
    case lcsRemoved b => exact lcsRemoved_sound h b
    case lcsSwitchOff b => exact lcsSwitchOff_sound h b
    case lcsIgnition b on => exact lcsIgnition_sound h b on
    case lcsLost b => exact lcsLost_sound h b
    case lcsRecovered b => exact lcsRecovered_sound h b
    case lcsDocked b => exact lcsDocked_sound h b
    case lcsAbandonRun b => exact lcsAbandonRun_sound h b
    case lcsUndock b => exact lcsUndock_sound h b
    case lcsRetain b => exact lcsRetain_sound h b
    case lcsSessionStart b => exact h.modLcs_seat b (fun l => { l with ignition := none }) rfl
  · exact channelsSound_of_seating (seating_of_outside (not_or.mp own) (handle_outside n s)) h

theorem Acts.channelsSound {s : State} {k : Writer} {r : Reaction} (acts : Acts s k r) (h : s.ChannelsSound) :
    r.1.ChannelsSound := by
  by_cases own : k = .feeder ∨ k = .lamps
  · cases acts with
    | ramp => exact channelsSound_of_seating (falRampExpired_seating s) h
    | confirm => exact channelsSound_of_seating (falConfirmExpired_seating s) h
    | meter b ns => exact channelsSound_of_seating (falMeter_seating b s) h
    | baseline b x => exact lcsBaseline_sound h b x
    | settle b => exact lcsSettled_sound h b
    | lit b x y => exact lcsLit_sound h b x y
    | validity b => exact lcsExpired_sound h b
    | lampStart b m n free => exact lcsStart_sound h b m n free
    | advance b => exact dropReason_sound h b _
    | abort b stands => exact lcsAbort_sound h b stands
    | _ => simp only [reduceCtorEq, or_self] at own
  · exact channelsSound_of_seating (seating_of_outside (not_or.mp own) acts.outside) h

theorem Begins.channelsSound {part : Held} {s : State} {r : Reaction} (begun : Begins s part r) (h : s.ChannelsSound) :
    r.1.ChannelsSound := by
  cases begun with
  | acts acted => exact acted.channelsSound h
  | _ => exact channelsSound_of_seating (by rfl) h

/-! ## Timers and resets -/

theorem tickTimers_channelsSound {s : State} (h : s.ChannelsSound) : (tickTimers s).ChannelsSound := by
  have channels : (tickTimers s).channels = s.channels := tickTimers_keeps State.channels (fun _ => by simp [tickHall]) (fun _ _ => rfl) s
  have queue : (tickTimers s).channelQueue = s.channelQueue :=
    tickTimers_keeps State.channelQueue (fun _ => by simp [tickHall]) (fun _ _ => rfl) s
  have row (b : BayNo) : (tickTimers s).rowAt b = s.rowAt b :=
    tickTimers_keeps (State.rowAt · b) (fun _ => by simp [tickHall]) (fun _ _ => rfl) s
  have ticked (t : Timer) : countDown t ≠ none → t ≠ none := by cases t <;> simp [countDown]
  refine { holder := fun c b => ?_, step := fun b => ?_, queued := ⟨?_, fun b => ?_⟩, full := ?_, quiet := fun b => ?_,
           running := fun b => ?_, valid := fun b ne => ?_ } <;>
    simp only [channels, queue, row, tickTimers_lcsAt, Lcs.tick] at *
  · exact h.holder c b
  · exact h.step b
  · exact h.queued.1
  · exact h.queued.2 b
  · exact h.full
  · exact h.quiet b
  · exact h.running b
  · exact h.valid b (ticked _ ne)

/-- Channels without a holder, an empty queue, no quiet mark and empty lamp records agree. -/
theorem channelsSound_of_reset {s : State} (channels : s.channels = Vector.replicate 4 none) (queue : s.channelQueue = [])
    (quiet : ∀ b, (s.rowAt b).quiet = false) (lcs : ∀ b, s.lcsAt b = .reset) : s.ChannelsSound := by
  refine channelsSound_of_seating ?_ reset_channelsSound
  simp only [State.seating, channels, queue, quiet, lcs, reset_rowAt, reset_lcsAt]
  rfl

theorem restarted_channelsSound (s : State) : (restarted s).ChannelsSound := by
  refine channelsSound_of_reset ((restarted_channels s).trans (restartCore_channels s))
    ((restarted_channelQueue s).trans (restartCore_channelQueue s)) (fun b => ?_) (fun b => ?_)
  · rw [State.rowAt, restarted_row, ← State.rowAt, restartCore_rowAt]
  · rw [State.lcsAt, restarted_lcs, ← State.lcsAt, restartCore_lcsAt]

theorem poweredOn_channelsSound (s : State) : (poweredOn s).ChannelsSound := by
  refine channelsSound_of_reset ?_ ?_ (fun b => ?_) (fun b => ?_)
  · exact poweredOn_get State.channels (fun _ _ _ => rfl) s
  · exact poweredOn_get State.channelQueue (fun _ _ _ => rfl) s
  · have row := poweredOn_get (State.rowAt · b) (fun _ _ _ => rfl) s
    exact congrArg GrantRow.quiet (row.trans (reset_rowAt b))
  · exact (poweredOn_get (State.lcsAt · b) (fun _ _ _ => rfl) s).trans (reset_lcsAt b)

theorem channelsSound_kept : KeptBySteps (fun _ s => s.ChannelsSound) where
  taken n _ _ := handle_channelsSound n
  leftOver _ _ h := channelsSound_of_seating (by rfl) h
  begins begun h := begun.channelsSound h
  carriedOn _ h := channelsSound_of_seating (by rfl) h
  timers _ h := tickTimers_channelsSound h
  senses _ _ _ _ h := channelsSound_of_seating (by rfl) h
  inputs _ _ h := channelsSound_of_seating (by rfl) h
  queue _ _ h := channelsSound_of_seating (by rfl) h
  reply _ _ _ h := channelsSound_of_seating (by rfl) h
  receiver _ _ _ h := channelsSound_of_seating (by rfl) h
  freed _ _ h := channelsSound_of_seating (by rfl) h
  raisesHall _ _ _ h := channelsSound_of_seating (by rfl) h
  fetched _ h := channelsSound_of_seating (by rfl) h
  masked _ _ h := channelsSound_of_seating (by rfl) h
  restarted s _ := restarted_channelsSound s
  poweredOn := poweredOn_channelsSound

/-! ## Sizes -/

theorem withinSizes_of_given {s t : State} (h : t.given = s.given) (hs : s.WithinSizes) : t.WithinSizes := by
  obtain ⟨hall, bays, map, shed⟩ := hs
  have operator (b : BayNo) : (t.dpmAt b).operator = (s.dpmAt b).operator := congrFun (congrArg Given.operator h) b
  have holds : t.hallHold = s.hallHold := congrArg Given.hallHold h
  have entries : t.map = s.map := congrArg Given.map h
  have depth : t.feeder.shedHost = s.feeder.shedHost := congrArg Given.shedHost h
  refine ⟨?_, fun b => ?_, ?_, ?_⟩
  · rw [holds]; exact hall
  · rw [operator]; exact bays b
  · rw [entries]; exact map
  · rw [depth]; exact shed

theorem Begins.withinSizes {part : Held} {s : State} {r : Reaction} (begun : Begins s part r) (h : s.WithinSizes) :
    r.1.WithinSizes := by
  obtain ⟨hall, bays, map, shed⟩ := h
  cases begun with
  | acts acted => exact withinSizes_of_given acted.given ⟨hall, bays, map, shed⟩
  | shed n fits => exact ⟨hall, bays, map, fits shed⟩
  | map m fits => exact ⟨hall, bays, fits map, shed⟩
  | hallHold h fits => exact ⟨fits hall, bays, map, shed⟩
  | hold b h fits =>
    refine ⟨hall, fun c => ?_, map, shed⟩
    dsimp only
    by_cases e : c = b
    · subst e
      rw [State.modDpm_dpmAt_same]
      exact fits (bays c)
    · rw [State.modDpm_dpmAt_ne _ _ e]
      exact bays c
  | _ => exact ⟨hall, bays, map, shed⟩

theorem tickTimers_withinSizes {s : State} (h : s.WithinSizes) : (tickTimers s).WithinSizes := by
  obtain ⟨hall, bays, map, shed⟩ := h
  have operator (b : BayNo) : (tickTimers s).dpmAt b = s.dpmAt b :=
    tickTimers_keeps (State.dpmAt · b) (fun _ => by simp [tickHall]) (fun _ _ => rfl) s
  have holds : (tickTimers s).hallHold = s.hallHold := tickTimers_keeps State.hallHold (fun _ => by simp [tickHall]) (fun _ _ => rfl) s
  have entries : (tickTimers s).map = s.map := tickTimers_keeps State.map (fun _ => by simp [tickHall]) (fun _ _ => rfl) s
  have depth : (tickTimers s).feeder.shedHost = s.feeder.shedHost :=
    tickTimers_keeps (fun t => t.feeder.shedHost) (fun _ => by simp [tickHall, Feeder.tick]) (fun _ _ => rfl) s
  refine ⟨?_, fun b => ?_, ?_, ?_⟩
  · rw [holds]; exact hall
  · rw [operator]; exact bays b
  · rw [entries]; exact map
  · rw [depth]; exact shed

theorem poweredOn_withinSizes (s : State) : (poweredOn s).WithinSizes := by
  have operator (b : BayNo) : (poweredOn s).dpmAt b = .reset :=
    (poweredOn_get (State.dpmAt · b) (fun _ _ _ => rfl) s).trans (reset_dpmAt b)
  have holds : (poweredOn s).hallHold = .empty := poweredOn_get State.hallHold (fun _ _ _ => rfl) s
  have entries : (poweredOn s).map = [] := poweredOn_get State.map (fun _ _ _ => rfl) s
  have depth : (poweredOn s).feeder = .reset := poweredOn_get State.feeder (fun _ _ _ => rfl) s
  refine ⟨?_, fun b => ?_, ?_, ?_⟩
  · rw [holds]; decide
  · rw [operator]; decide
  · rw [entries]; decide
  · rw [depth]; decide

theorem withinSizes_kept : KeptBySteps (fun _ s => s.WithinSizes) where
  taken n s _ h := withinSizes_of_given (handle_given n _) h
  leftOver _ _ h := h
  begins begun h := begun.withinSizes h
  carriedOn _ h := h
  timers _ h := tickTimers_withinSizes h
  senses _ _ _ _ h := h
  inputs _ _ h := h
  queue _ _ h := h
  reply _ _ _ h := h
  receiver _ _ _ h := h
  freed _ _ h := h
  raisesHall _ _ _ h := h
  fetched _ h := h
  masked _ _ h := h
  restarted s h := withinSizes_of_given (restarted_given s) h
  poweredOn := poweredOn_withinSizes

/-- Settles O10: the sizes follow what is given, which requests alone alter; the channels are kept notice by notice. -/
theorem stepKeepsStacksAndMapWithinSizes : Obligations.StepKeepsStacksAndMapWithinSizes :=
  ⟨fun _ _ h stepped => withinSizes_kept.step h stepped, fun _ _ h stepped => channelsSound_kept.step h stepped⟩

end Sys2Proof.Machine
end

section
/-! Removing stages (R108, R113), said once for forced removal and preemption: how many stages each row loses, and that the
removal is the loss of them, the STAGE requests, and the end of a stage-up on a changed row. -/

namespace Sys2Proof.Machine

/-! ## How many stages go -/

theorem GrantRow.stagesToTake_le (r : GrantRow) (e : Nat) : r.stagesToTake e ≤ r.granted := by
  unfold GrantRow.stagesToTake
  split
  · exact Nat.zero_le _
  · split
    · exact Nat.le_refl _
    · exact Nat.min_le_left ..

/-- A row gives all it has, or covers the excess. -/
theorem GrantRow.stagesToTake_covers (r : GrantRow) (e : Nat) :
    e ≤ r.stagesToTake e * r.power ∨ r.stagesToTake e = r.granted := by
  unfold GrantRow.stagesToTake
  split
  · next zero => exact .inl (by omega)
  · split
    · exact .inr rfl
    · next power =>
      rcases Nat.le_total r.granted (ceilDiv e r.power) with few | many
      · exact .inr (Nat.min_eq_left few)
      · rw [Nat.min_eq_right many]
        exact .inl (ceilDiv_bounds (Nat.pos_of_ne_zero power) e).1

/-- The last stage that a row gives is still needed. -/
theorem GrantRow.stagesToTake_needed {r : GrantRow} {e : Nat} (some' : r.stagesToTake e ≠ 0) :
    (r.stagesToTake e - 1) * r.power < e := by
  unfold GrantRow.stagesToTake at *
  split at some'
  · exact absurd rfl some'
  next excess =>
  rw [if_neg excess]
  split
  · next power => rw [power, Nat.mul_zero]; exact Nat.pos_of_ne_zero excess
  · next power =>
    have bound := (ceilDiv_bounds (Nat.pos_of_ne_zero power) e).2
    have most : min r.granted (ceilDiv e r.power) - 1 ≤ ceilDiv e r.power - 1 := Nat.sub_le_sub_right (Nat.min_le_right ..) 1
    have := Nat.mul_le_mul_right r.power most
    have : (ceilDiv e r.power - 1) * r.power = ceilDiv e r.power * r.power - r.power := by rw [Nat.sub_mul, Nat.one_mul]
    omega

theorem GrantRow.stagesToTake_zero (r : GrantRow) : r.stagesToTake 0 = 0 := if_pos rfl

/-- The stages that each row gives when an excess is taken from some rows in turn. -/
def taken (row : BayNo → GrantRow) : List BayNo → Nat → BayNo → Nat
  | [], _ => fun _ => 0
  | b :: bs, e =>
    let k := (row b).stagesToTake e
    fun x => if x = b then k else taken row bs (e - k * (row b).power) x

/-- The load of some stages of each row. -/
def loadUnder (row : BayNo → GrantRow) (k : BayNo → Nat) (xs : List BayNo) : Nat := (xs.map (fun x => k x * (row x).power)).sum

section Taken

variable (row : BayNo → GrantRow)

theorem taken_le (bs : List BayNo) (e : Nat) (x : BayNo) : taken row bs e x ≤ (row x).granted := by
  induction bs generalizing e with
  | nil => exact Nat.zero_le _
  | cons b bs ih =>
    simp only [taken]
    split
    · next same => rw [same]; exact GrantRow.stagesToTake_le ..
    · exact ih _

theorem taken_of_not_mem {bs : List BayNo} (e : Nat) {x : BayNo} (out : x ∉ bs) : taken row bs e x = 0 := by
  induction bs generalizing e with
  | nil => rfl
  | cons b bs ih =>
    rw [List.mem_cons, not_or] at out
    simp only [taken, if_neg out.1]
    exact ih _ out.2

theorem taken_zero (bs : List BayNo) (x : BayNo) : taken row bs 0 x = 0 := by
  induction bs with
  | nil => rfl
  | cons b bs ih =>
    simp only [taken, GrantRow.stagesToTake_zero, Nat.zero_mul, Nat.sub_zero]
    split
    · rfl
    · exact ih

theorem loadUnder_congr {k j : BayNo → Nat} {xs : List BayNo} (same : ∀ x ∈ xs, k x = j x) :
    loadUnder row k xs = loadUnder row j xs := by
  unfold loadUnder
  refine congrArg List.sum (List.map_congr_left fun x m => ?_)
  rw [same x m]

/-- What the tail of a list gives. -/
theorem loadUnder_taken_tail {b : BayNo} {bs : List BayNo} (out : b ∉ bs) (e : Nat) :
    loadUnder row (taken row (b :: bs) e) bs =
      loadUnder row (taken row bs (e - (row b).stagesToTake e * (row b).power)) bs := by
  refine loadUnder_congr row fun x m => ?_
  have ne : x ≠ b := by rintro rfl; exact out m
  exact if_neg ne

/-- The excess is covered, or every row gives all it has. -/
theorem taken_covers {bs : List BayNo} (nodup : bs.Nodup) (e : Nat) :
    e ≤ loadUnder row (taken row bs e) bs ∨ ∀ x ∈ bs, taken row bs e x = (row x).granted := by
  induction bs generalizing e with
  | nil => exact .inr nofun
  | cons b bs ih =>
    rw [List.nodup_cons] at nodup
    obtain ⟨out, nodup⟩ := nodup
    have head : taken row (b :: bs) e b = (row b).stagesToTake e := if_pos rfl
    have total : loadUnder row (taken row (b :: bs) e) (b :: bs) = (row b).stagesToTake e * (row b).power +
        loadUnder row (taken row (b :: bs) e) bs := by
      simp only [loadUnder, List.map_cons, List.sum_cons, head]
    rw [total, loadUnder_taken_tail row out]
    rcases GrantRow.stagesToTake_covers (row b) e with covered | all
    · exact .inl (by omega)
    · rcases ih nodup (e - (row b).stagesToTake e * (row b).power) with covered | rest
      · exact .inl (by omega)
      · refine .inr fun x m => ?_
        simp only [taken]
        split
        · next same => rw [same]; exact all
        · next ne => exact rest x ((List.mem_cons.mp m).resolve_left ne)

/-- A row gives a stage only when those before it have given all, and not one more than is needed. -/
theorem taken_needed {bs lower higher : List BayNo} {x : BayNo} (nodup : bs.Nodup) (e : Nat) (split : bs = lower ++ x :: higher)
    (gives : taken row bs e x ≠ 0) : (∀ y ∈ lower, taken row bs e y = (row y).granted) ∧
      loadUnder row (taken row bs e) lower + (taken row bs e x - 1) * (row x).power < e := by
  induction lower generalizing bs e with
  | nil =>
    subst split
    have head : taken row ([] ++ x :: higher) e x = (row x).stagesToTake e := if_pos rfl
    rw [head] at gives ⊢
    refine ⟨nofun, ?_⟩
    have := GrantRow.stagesToTake_needed gives
    simpa [loadUnder] using this
  | cons b lower ih =>
    subst split
    rw [List.cons_append, List.nodup_cons] at nodup
    obtain ⟨out, nodup⟩ := nodup
    have ne : x ≠ b := fun same => out (by simp [same])
    have step (y : BayNo) (other : y ≠ b) : taken row (b :: lower ++ x :: higher) e y =
        taken row (lower ++ x :: higher) (e - (row b).stagesToTake e * (row b).power) y := if_neg other
    have head : taken row (b :: lower ++ x :: higher) e b = (row b).stagesToTake e := if_pos rfl
    rw [step x ne] at gives ⊢
    obtain ⟨all, bound⟩ := ih nodup _ rfl gives
    have excess : (row b).stagesToTake e * (row b).power < e := by omega
    have own : (row b).stagesToTake e = (row b).granted :=
      (GrantRow.stagesToTake_covers (row b) e).resolve_left (by omega)
    refine ⟨fun y m => ?_, ?_⟩
    · by_cases same : y = b
      · rw [same, head, own]
      · rw [step y same]
        exact all y ((List.mem_cons.mp m).resolve_left same)
    · have tail : loadUnder row (taken row (b :: lower ++ x :: higher) e) lower =
          loadUnder row (taken row (lower ++ x :: higher) (e - (row b).stagesToTake e * (row b).power)) lower :=
        loadUnder_congr row fun y m => step y fun same => out (by rw [← same]; simp [m])
      have total : loadUnder row (taken row (b :: lower ++ x :: higher) e) (b :: lower) =
          (row b).stagesToTake e * (row b).power + loadUnder row (taken row (b :: lower ++ x :: higher) e) lower := by
        simp only [loadUnder, List.map_cons, List.sum_cons, head]
      rw [total, tail]
      omega

end Taken

/-! ## The removal -/

/-- Rows with stages taken, no stage-up cancelled. -/
def lowerRows : List BayNo → Nat → State → State
  | [], _, s => s
  | b :: bs, e, s =>
    let k := (s.rowAt b).stagesToTake e
    lowerRows bs (e - k * (s.rowAt b).power)
      (if k = 0 then s else s.modRow b (fun r => { r with granted := r.granted - k }))

/-- Two states that agree outside the FAL and in what the FAL writes are the same. -/
theorem State.ext_feeder {s t : State} (outside : s.outside .feeder = t.outside .feeder) (row : ∀ b, s.rowAt b = t.rowAt b)
    (feeder : s.feeder = t.feeder) (clc : ∀ b, s.clcAt b = t.clcAt b) (lcs : ∀ b, s.lcsAt b = t.lcsAt b) : s = t := by
  have vector {α : Type} {v w : Vector α 16} (h : ∀ b, bayAt v b = bayAt w b) : v = w :=
    Vector.ext fun i hi => h ⟨i, hi⟩
  have row := vector row
  have clc := vector clc
  have lcs := vector lcs
  cases s
  cases t
  simp only [State.outside, State.mk.injEq] at *
  simp only [outside, row, feeder, clc, lcs, and_self]

theorem modRow_comm (s : State) {b c : BayNo} (f g : GrantRow → GrantRow) (comm : b = c → ∀ r, f (g r) = g (f r)) :
    (s.modRow b f).modRow c g = (s.modRow c g).modRow b f := by
  by_cases same : b = c
  · subst same
    simp only [State.modRow, bayAt_bayPut_same, bayPut_bayPut, comm rfl]
  · refine State.ext_feeder rfl (fun d => ?_) rfl (fun _ => rfl) (fun _ => rfl)
    by_cases hb : d = b
    · subst hb
      rw [State.modRow_rowAt_ne _ _ same, State.modRow_rowAt_same, State.modRow_rowAt_same, State.modRow_rowAt_ne _ _ same]
    · by_cases hc : d = c
      · subst hc
        rw [State.modRow_rowAt_same, State.modRow_rowAt_ne _ _ hb, State.modRow_rowAt_ne _ _ hb, State.modRow_rowAt_same]
      · rw [State.modRow_rowAt_ne _ _ hc, State.modRow_rowAt_ne _ _ hb, State.modRow_rowAt_ne _ _ hb,
          State.modRow_rowAt_ne _ _ hc]

theorem endStageUp_eq (b : BayNo) (s : State) : endStageUp b s =
    lcsStageEnded b ((s.modRow b (fun r => { r with inFlight := false })).modFeeder (fun f =>
      { f with stageUp := none, ramp := secTimer (s.setting 3) })) := rfl

/-- The end of a stage-up and a change of granted or commanded stages do not touch each other. -/
theorem endStageUp_modRow (b c : BayNo) (f : GrantRow → GrantRow) (s : State)
    (comm : ∀ r, f { r with inFlight := false } = { f r with inFlight := false }) :
    endStageUp b (s.modRow c f) = (endStageUp b s).modRow c f := by
  have moved := modRow_comm s (b := c) (c := b) f (fun r => { r with inFlight := false }) (fun _ r => comm r)
  rw [endStageUp_eq, endStageUp_eq, moved]
  rfl

theorem endStageUp_modClc (b c : BayNo) (f : Clc → Clc) (s : State) :
    endStageUp b (s.modClc c f) = (endStageUp b s).modClc c f := rfl

theorem endStageUp_stageUp (b : BayNo) (s : State) : (endStageUp b s).feeder.stageUp = none := rfl

/-- A row after the end of a stage-up. -/
theorem endStageUp_rowAt_ne {b c : BayNo} (s : State) (ne : c ≠ b) : (endStageUp b s).rowAt c = s.rowAt c := by
  exact State.modRow_rowAt_ne s (fun r => { r with inFlight := false }) ne

theorem endStageUp_rowAt_same (b : BayNo) (s : State) : (endStageUp b s).rowAt b = { s.rowAt b with inFlight := false } := by
  exact State.modRow_rowAt_same s b (fun r => { r with inFlight := false })

theorem endStageUp_stagesToTake (b c : BayNo) (s : State) (e : Nat) :
    ((endStageUp b s).rowAt c).stagesToTake e = (s.rowAt c).stagesToTake e ∧
      ((endStageUp b s).rowAt c).power = (s.rowAt c).power ∧ ((endStageUp b s).rowAt c).granted = (s.rowAt c).granted := by
  by_cases same : c = b
  · rw [same, endStageUp_rowAt_same]; exact ⟨rfl, rfl, rfl⟩
  · rw [endStageUp_rowAt_ne s same]; exact ⟨rfl, rfl, rfl⟩

theorem endStageUp_lowerRows (b : BayNo) (bs : List BayNo) (e : Nat) (s : State) :
    lowerRows bs e (endStageUp b s) = endStageUp b (lowerRows bs e s) := by
  induction bs generalizing e s with
  | nil => rfl
  | cons c bs ih =>
    obtain ⟨takes, power, -⟩ := endStageUp_stagesToTake b c s e
    simp only [lowerRows]
    rw [takes, power, ← ih]
    split
    · rfl
    · rw [← endStageUp_modRow b c _ s (fun _ => rfl)]

theorem stripRows_of_none (bs : List BayNo) (e : Nat) {s : State} (none' : s.feeder.stageUp = none) :
    stripRows bs e s = lowerRows bs e s := by
  induction bs generalizing e s with
  | nil => rfl
  | cons b bs ih =>
    simp only [stripRows, lowerRows]
    split
    · exact ih _ none'
    · have idle : cancelStageUp b (s.modRow b (fun r => { r with granted := r.granted - (s.rowAt b).stagesToTake e })) =
          s.modRow b (fun r => { r with granted := r.granted - (s.rowAt b).stagesToTake e }) := by
        unfold cancelStageUp State.stageUpOf
        rw [State.modRow_feeder, none']
        rfl
      rw [idle]
      exact ih _ none'

theorem taken_congr {row row' : BayNo → GrantRow} {bs : List BayNo} (same : ∀ x ∈ bs, row x = row' x) (e : Nat) :
    taken row bs e = taken row' bs e := by
  induction bs generalizing e with
  | nil => rfl
  | cons b bs ih =>
    simp only [taken]
    rw [same b List.mem_cons_self, ih (fun x m => same x (List.mem_cons_of_mem _ m))]

theorem stripRows_of_some {bs : List BayNo} (nodup : bs.Nodup) (e : Nat) {s : State} {u : StageUp}
    (some' : s.feeder.stageUp = some u) :
    stripRows bs e s = if taken s.rowAt bs e u.bay = 0 then lowerRows bs e s else endStageUp u.bay (lowerRows bs e s) := by
  induction bs generalizing e s with
  | nil => rfl
  | cons b bs ih =>
    rw [List.nodup_cons] at nodup
    obtain ⟨out, nodup⟩ := nodup
    simp only [stripRows, lowerRows, taken]
    split
    · next zero =>
      rw [ih nodup _ some']
      by_cases same : u.bay = b
      · rw [if_pos same, if_pos zero, if_pos (taken_of_not_mem _ _ (same ▸ out))]
      · rw [if_neg same]
    · next gives =>
      have rest : taken (s.modRow b (fun r => { r with granted := r.granted - (s.rowAt b).stagesToTake e })).rowAt bs =
          taken s.rowAt bs := by
        funext d
        refine taken_congr (fun x m => State.modRow_rowAt_ne _ _ ?_) d
        rintro rfl
        exact out m
      by_cases same : u.bay = b
      · have ends : cancelStageUp b (s.modRow b (fun r => { r with granted := r.granted - (s.rowAt b).stagesToTake e })) =
            endStageUp b (s.modRow b (fun r => { r with granted := r.granted - (s.rowAt b).stagesToTake e })) := by
          unfold cancelStageUp State.stageUpOf
          rw [State.modRow_feeder, some']
          exact if_pos (by simpa using same)
        rw [ends, stripRows_of_none _ _ (endStageUp_stageUp ..), endStageUp_lowerRows, if_pos same, if_neg gives, same]
      · have stays : cancelStageUp b (s.modRow b (fun r => { r with granted := r.granted - (s.rowAt b).stagesToTake e })) =
            s.modRow b (fun r => { r with granted := r.granted - (s.rowAt b).stagesToTake e }) := by
          unfold cancelStageUp State.stageUpOf
          rw [State.modRow_feeder, some']
          exact if_neg (by simpa using same)
        rw [stays, ih nodup _ (s := s.modRow b _) some', rest, if_neg same]

/-! ### What the rows lose -/

theorem lowerRows_rowAt {bs : List BayNo} (nodup : bs.Nodup) (e : Nat) (s : State) (x : BayNo) :
    (lowerRows bs e s).rowAt x = { s.rowAt x with granted := (s.rowAt x).granted - taken s.rowAt bs e x } := by
  induction bs generalizing e s with
  | nil => rfl
  | cons b bs ih =>
    rw [List.nodup_cons] at nodup
    obtain ⟨out, nodup⟩ := nodup
    have rest (f : GrantRow → GrantRow) : taken (s.modRow b f).rowAt bs = taken s.rowAt bs := by
      funext d
      refine taken_congr (fun x m => State.modRow_rowAt_ne _ _ ?_) d
      rintro rfl
      exact out m
    simp only [lowerRows, taken]
    rw [ih nodup]
    split
    · next zero =>
      by_cases same : x = b
      · rw [if_pos same, taken_of_not_mem _ _ (same ▸ out), zero]
      · rw [if_neg same]
    · rw [rest]
      by_cases same : x = b
      · subst same
        rw [if_pos rfl, taken_of_not_mem _ _ out, State.modRow_rowAt_same]
        rfl
      · rw [if_neg same, State.modRow_rowAt_ne _ _ same]

/-- The removal writes rows alone. -/
theorem lowerRows_keeps {α : Type} (get : State → α) (unwritten : ∀ s b f, get (s.modRow b f) = get s) (bs : List BayNo) (e : Nat)
    (s : State) : get (lowerRows bs e s) = get s := by
  induction bs generalizing e s with
  | nil => rfl
  | cons b bs ih =>
    simp only [lowerRows]
    rw [ih]
    split
    · rfl
    · exact unwritten ..

theorem loadOf_eq (s : State) (bs : List BayNo) : s.loadOf bs = loadUnder s.rowAt (fun x => (s.rowAt x).granted) bs := by
  induction bs with
  | nil => rfl
  | cons b bs ih =>
    rw [State.loadOf, ih]
    simp only [loadUnder, List.map_cons, List.sum_cons, GrantRow.load]

theorem loadUnder_add (row : BayNo → GrantRow) {j k l : BayNo → Nat} {xs : List BayNo} (h : ∀ x ∈ xs, j x + k x = l x) :
    loadUnder row j xs + loadUnder row k xs = loadUnder row l xs := by
  induction xs with
  | nil => rfl
  | cons x xs ih =>
    have tail := ih fun y m => h y (List.mem_cons_of_mem _ m)
    have head := h x List.mem_cons_self
    simp only [loadUnder, List.map_cons, List.sum_cons] at *
    rw [← head, Nat.add_mul]
    omega

theorem loadUnder_perm (row : BayNo → GrantRow) (k : BayNo → Nat) {xs ys : List BayNo} (h : xs.Perm ys) :
    loadUnder row k xs = loadUnder row k ys := (h.map _).sum_nat

/-- The granted load after a removal. -/
theorem lowerRows_grantedLoad {bs : List BayNo} (nodup : bs.Nodup) (e : Nat) (s : State) :
    (lowerRows bs e s).grantedLoad + loadUnder s.rowAt (taken s.rowAt bs e) allBays = s.grantedLoad := by
  have after : (lowerRows bs e s).grantedLoad =
      loadUnder s.rowAt (fun x => (s.rowAt x).granted - taken s.rowAt bs e x) allBays := by
    unfold State.grantedLoad
    rw [loadOf_eq]
    unfold loadUnder
    refine congrArg List.sum (List.map_congr_left fun x _ => ?_)
    simp only [lowerRows_rowAt nodup]
  rw [after, State.grantedLoad, loadOf_eq]
  exact loadUnder_add _ fun x _ => Nat.sub_add_cancel (taken_le ..)

/-- What all bays give is what the listed ones give. -/
theorem loadUnder_taken_allBays (row : BayNo → GrantRow) {bs : List BayNo} (nodup : bs.Nodup) (e : Nat) :
    loadUnder row (taken row bs e) allBays = loadUnder row (taken row bs e) bs := by
  have order : allBays.Perm (bs ++ allBays.filter (fun x => !bs.contains x)) := by
    refine (List.perm_ext_iff_of_nodup allBays_nodup ?_).mpr fun x => ?_
    · refine List.nodup_append.mpr ⟨nodup, allBays_nodup.filter _, fun x m y m' => ?_⟩
      rintro rfl
      have := (List.mem_filter.mp m').2
      simp [m] at this
    · by_cases m : x ∈ bs <;> simp [m, mem_allBays]
  rw [loadUnder_perm row _ order]
  have rest : loadUnder row (taken row bs e) (allBays.filter (fun x => !bs.contains x)) = 0 := by
    unfold loadUnder
    refine List.sum_eq_zero_iff_forall_eq_nat.mpr fun n m => ?_
    obtain ⟨x, mem, rfl⟩ := List.mem_map.mp m
    have out := (List.mem_filter.mp mem).2
    rw [taken_of_not_mem row e (by simpa using out), Nat.zero_mul]
  have total : loadUnder row (taken row bs e) (bs ++ allBays.filter (fun x => !bs.contains x)) =
      loadUnder row (taken row bs e) bs + loadUnder row (taken row bs e) (allBays.filter (fun x => !bs.contains x)) := by
    simp only [loadUnder, List.map_append, List.sum_append]
  rw [total, rest, Nat.add_zero]

/-! ### The STAGE requests -/

/-- A row's new count and its STAGE request. -/
def stageTo (b : BayNo) (n : Nat) (s : State) : State :=
  (s.modRow b (fun r => { r with granted := n, commanded := n })).modClc b (fun c => c.submitHeat n)

/-- The rows cut by so many stages each, with a STAGE request for each changed row. -/
def cutRows (k : BayNo → Nat) (s : State) : State :=
  allBays.foldl (fun t x => if k x = 0 then t else stageTo x ((s.rowAt x).granted - k x) t) s

theorem submitStages_eq (p : BayNo → Bool) (s : State) :
    submitStages (allBays.filter p) s =
      forBays (fun b t => if p b then submitStage b (t.rowAt b).granted t else t) s := by
  unfold submitStages forBays
  rw [List.foldl_filter]

theorem submitStage_endStageUp (u b : BayNo) (n : Nat) (s : State) :
    submitStage b n (endStageUp u s) = endStageUp u (submitStage b n s) := by
  unfold submitStage
  rw [endStageUp_modRow u b _ _ (fun _ => rfl), endStageUp_modClc]

theorem submitStages_endStageUp (u : BayNo) (bs : List BayNo) (s : State) :
    submitStages bs (endStageUp u s) = endStageUp u (submitStages bs s) := by
  unfold submitStages
  induction bs generalizing s with
  | nil => rfl
  | cons b bs ih =>
    rw [List.foldl_cons, List.foldl_cons, (endStageUp_stagesToTake u b s 0).2.2, submitStage_endStageUp, ih]

/-- A bay's row and link after the STAGE requests. -/
theorem submitStages_at (p : BayNo → Bool) (s : State) (b : BayNo) :
    ((submitStages (allBays.filter p) s).rowAt b, (submitStages (allBays.filter p) s).clcAt b) =
      if p b then ({ s.rowAt b with commanded := (s.rowAt b).granted }, (s.clcAt b).submitHeat (s.rowAt b).granted)
      else (s.rowAt b, s.clcAt b) := by
  rw [submitStages_eq]
  refine forBays_at (fun t c => (t.rowAt c, t.clcAt c))
    (g := fun c x => if p c then ({ x.1 with commanded := x.1.granted }, x.2.submitHeat x.1.granted) else x)
    (fun c t => ?_) (fun c d t other => ?_) s b
  · dsimp only
    split
    · simp [submitStage]
    · rfl
  · split
    · simp [submitStage, other]
    · rfl

theorem cutRows_at (k : BayNo → Nat) (s : State) (b : BayNo) :
    ((cutRows k s).rowAt b, (cutRows k s).clcAt b) =
      if k b = 0 then (s.rowAt b, s.clcAt b)
      else ({ s.rowAt b with granted := (s.rowAt b).granted - k b, commanded := (s.rowAt b).granted - k b },
        (s.clcAt b).submitHeat ((s.rowAt b).granted - k b)) := by
  refine forBays_at (fun t c => (t.rowAt c, t.clcAt c))
    (f := fun x t => if k x = 0 then t else stageTo x ((s.rowAt x).granted - k x) t)
    (g := fun c x => if k c = 0 then x
      else ({ x.1 with granted := (s.rowAt c).granted - k c, commanded := (s.rowAt c).granted - k c },
        x.2.submitHeat ((s.rowAt c).granted - k c))) (fun c t => ?_) (fun c d t other => ?_) s b
  · dsimp only
    split
    · rfl
    · simp [stageTo]
  · split
    · rfl
    · simp [stageTo, other]

theorem cutRows_keeps {α : Type} (get : State → α) (row : ∀ s b f, get (s.modRow b f) = get s)
    (clc : ∀ s b f, get (s.modClc b f) = get s) (k : BayNo → Nat) (s : State) : get (cutRows k s) = get s := by
  refine forBays_keeps get (f := fun x t => if k x = 0 then t else stageTo x ((s.rowAt x).granted - k x) t) (fun b t => ?_) s
  split
  · rfl
  · exact (clc ..).trans (row ..)

theorem submitStages_keeps {α : Type} (get : State → α) (row : ∀ s b f, get (s.modRow b f) = get s)
    (clc : ∀ s b f, get (s.modClc b f) = get s) (bs : List BayNo) (s : State) : get (submitStages bs s) = get s := by
  unfold submitStages
  induction bs generalizing s with
  | nil => rfl
  | cons b bs ih => exact (ih _).trans ((row ..).trans (clc ..))

/-- A removal with its STAGE requests. -/
theorem submitStages_lowerRows {bs : List BayNo} (nodup : bs.Nodup) (e : Nat) (s : State) :
    submitStages (changedGrants s (lowerRows bs e s)) (lowerRows bs e s) = cutRows (taken s.rowAt bs e) s := by
  have changed (b : BayNo) : ((s.rowAt b).granted != ((lowerRows bs e s).rowAt b).granted) = !decide (taken s.rowAt bs e b = 0) := by
    have le := taken_le s.rowAt bs e b
    rw [lowerRows_rowAt nodup, Bool.eq_iff_iff, bne_iff_ne, Bool.not_eq_true', decide_eq_false_iff_not]
    show (s.rowAt b).granted ≠ (s.rowAt b).granted - taken s.rowAt bs e b ↔ _
    omega
  have pointwise (b : BayNo) :
      ((submitStages (changedGrants s (lowerRows bs e s)) (lowerRows bs e s)).rowAt b,
        (submitStages (changedGrants s (lowerRows bs e s)) (lowerRows bs e s)).clcAt b) =
      ((cutRows (taken s.rowAt bs e) s).rowAt b, (cutRows (taken s.rowAt bs e) s).clcAt b) := by
    have link : (lowerRows bs e s).clcAt b = s.clcAt b := lowerRows_keeps (State.clcAt · b) (fun _ _ _ => rfl) bs e s
    unfold changedGrants
    rw [submitStages_at, cutRows_at, changed, lowerRows_rowAt nodup, link]
    by_cases zero : taken s.rowAt bs e b = 0
    · rw [if_neg (by simp [zero]), if_pos zero, zero]
      rfl
    · rw [if_pos (by simp [zero]), if_neg zero]
  have reads {α : Type} (get : State → α) (row : ∀ s b f, get (s.modRow b f) = get s)
      (clc : ∀ s b f, get (s.modClc b f) = get s) :
      get (submitStages (changedGrants s (lowerRows bs e s)) (lowerRows bs e s)) = get (cutRows (taken s.rowAt bs e) s) := by
    rw [submitStages_keeps get row clc, lowerRows_keeps get row, cutRows_keeps get row clc]
  refine State.ext_feeder (reads (State.outside · .feeder) (fun _ _ _ => rfl) (fun _ _ _ => rfl)) (fun b => ?_)
    (reads State.feeder (fun _ _ _ => rfl) (fun _ _ _ => rfl)) (fun b => ?_)
    (fun b => reads (State.lcsAt · b) (fun _ _ _ => rfl) (fun _ _ _ => rfl))
  · exact congrArg Prod.fst (pointwise b)
  · exact congrArg Prod.snd (pointwise b)

end Sys2Proof.Machine
end

section
/-! O41 (R100 to R110, R118), the rows: a removal read off, and what the FAL does to grants, gate and stage-up. -/

namespace Sys2Proof.Machine

/-! ## Removals -/

/-- The state after so many stages of each row have been removed: the rows cut, and the stage-up in flight on a changed row
ended. -/
def removed (k : BayNo → Nat) (s : State) : State :=
  match s.feeder.stageUp with
  | none => cutRows k s
  | some u => if k u.bay = 0 then cutRows k s else endStageUp u.bay (cutRows k s)

theorem removed_of_none {k : BayNo → Nat} {s : State} (h : s.feeder.stageUp = none) : removed k s = cutRows k s := by
  unfold removed; rw [h]

theorem removed_of_some {k : BayNo → Nat} {s : State} {u : StageUp} (h : s.feeder.stageUp = some u) :
    removed k s = if k u.bay = 0 then cutRows k s else endStageUp u.bay (cutRows k s) := by
  unfold removed; rw [h]

theorem changedGrants_endStageUp (b : BayNo) (s t : State) : changedGrants s (endStageUp b t) = changedGrants s t := by
  unfold changedGrants
  refine List.filter_congr fun x _ => ?_
  rw [(endStageUp_stagesToTake b x t 0).2.2]

/-- Stages stripped from some rows, with their STAGE requests, are removed. -/
theorem stripRows_removed {bs : List BayNo} (nodup : bs.Nodup) (e : Nat) (s : State) :
    submitStages (changedGrants s (stripRows bs e s)) (stripRows bs e s) = removed (taken s.rowAt bs e) s := by
  cases inFlight : s.feeder.stageUp with
  | none => rw [removed_of_none inFlight, stripRows_of_none bs e inFlight, submitStages_lowerRows nodup]
  | some u =>
    rw [removed_of_some inFlight, stripRows_of_some nodup e inFlight]
    split
    · exact submitStages_lowerRows nodup e s
    · rw [changedGrants_endStageUp, submitStages_endStageUp, submitStages_lowerRows nodup]

/-- A row after a removal. -/
theorem removed_rowAt (k : BayNo → Nat) (s : State) (b : BayNo) :
    (removed k s).rowAt b = { (cutRows k s).rowAt b with inFlight := ((removed k s).rowAt b).inFlight } := by
  cases inFlight : s.feeder.stageUp with
  | none => rw [removed_of_none inFlight]
  | some u =>
    rw [removed_of_some inFlight]
    split
    · rfl
    · by_cases same : b = u.bay
      · rw [same, endStageUp_rowAt_same]
      · rw [endStageUp_rowAt_ne _ same]

theorem cutRows_rowAt (k : BayNo → Nat) (s : State) (b : BayNo) : (cutRows k s).rowAt b = { s.rowAt b with
    granted := (s.rowAt b).granted - k b
    commanded := if k b = 0 then (s.rowAt b).commanded else (s.rowAt b).granted - k b } := by
  have at_ := congrArg Prod.fst (cutRows_at k s b)
  dsimp only at at_
  rw [at_]
  split
  · next zero => rw [zero]; rfl
  · rfl

theorem removed_granted (k : BayNo → Nat) (s : State) (b : BayNo) :
    ((removed k s).rowAt b).granted = (s.rowAt b).granted - k b := by rw [removed_rowAt, cutRows_rowAt]

theorem removed_power (k : BayNo → Nat) (s : State) (b : BayNo) : ((removed k s).rowAt b).power = (s.rowAt b).power := by
  rw [removed_rowAt, cutRows_rowAt]

theorem removed_requests (k : BayNo → Nat) (s : State) (b : BayNo) :
    ((removed k s).rowAt b).requested = (s.rowAt b).requested ∧
      ((removed k s).rowAt b).planRequest = (s.rowAt b).planRequest := by
  rw [removed_rowAt, cutRows_rowAt]
  exact ⟨rfl, rfl⟩

theorem cutRows_feeder (k : BayNo → Nat) (s : State) : (cutRows k s).feeder = s.feeder :=
  cutRows_keeps State.feeder (fun _ _ _ => rfl) (fun _ _ _ => rfl) k s

theorem removed_budget (k : BayNo → Nat) (s : State) : (removed k s).feeder.budget = s.feeder.budget := by
  rw [← cutRows_feeder k s]
  unfold removed
  split
  · rfl
  · split <;> rfl

/-- Loads that agree bay by bay agree. -/
theorem grantedLoad_eq {s t : State} (h : ∀ b, (t.rowAt b).load = (s.rowAt b).load) : t.grantedLoad = s.grantedLoad := by
  unfold State.grantedLoad
  induction allBays with
  | nil => rfl
  | cons b bs ih => rw [State.loadOf, State.loadOf, ih, h]

theorem grantedLoad_le {s t : State} (h : ∀ b, (t.rowAt b).load ≤ (s.rowAt b).load) : t.grantedLoad ≤ s.grantedLoad := by
  unfold State.grantedLoad
  induction allBays with
  | nil => exact Nat.le_refl _
  | cons b bs ih => exact Nat.add_le_add (h b) ih

/-- The granted load after a removal. -/
theorem removed_grantedLoad {bs : List BayNo} (nodup : bs.Nodup) (e : Nat) (s : State) :
    (removed (taken s.rowAt bs e) s).grantedLoad + loadUnder s.rowAt (taken s.rowAt bs e) bs = s.grantedLoad := by
  have after : (removed (taken s.rowAt bs e) s).grantedLoad = (lowerRows bs e s).grantedLoad :=
    grantedLoad_eq fun b => by simp only [GrantRow.load, removed_granted, removed_power, lowerRows_rowAt nodup]
  rw [after, ← loadUnder_taken_allBays s.rowAt nodup]
  exact lowerRows_grantedLoad nodup e s

/-! ## Forced removal -/

theorem lowestFirst_nodup (s : State) : s.lowestFirst.Nodup := by
  unfold State.lowestFirst
  refine List.nodup_append.mpr ⟨allBays_nodup.filter _, (List.reverse_perm _).nodup_iff.mpr (ranked_nodup s), fun x m y m' => ?_⟩
  rintro rfl
  have unranked := (List.mem_filter.mp m).2
  have ranked := mem_ranked.mp (List.mem_reverse.mp m')
  exact ranked (by simpa using unranked)

theorem mem_lowestFirst (s : State) (b : BayNo) : b ∈ s.lowestFirst := by
  unfold State.lowestFirst
  by_cases none' : (s.rowAt b).cls = .none
  · exact List.mem_append_left _ (List.mem_filter.mpr ⟨mem_allBays b, by simp [none']⟩)
  · exact List.mem_append_right _ (List.mem_reverse.mpr (mem_ranked.mpr none'))

/-- How many stages of each row a forced removal takes. -/
def State.forced (s : State) : BayNo → Nat := taken s.rowAt s.lowestFirst (s.grantedLoad - s.feeder.budget)

theorem forcedRemoval_eq (s : State) : forcedRemoval s = removed s.forced s := stripRows_removed (lowestFirst_nodup s) _ s

theorem grantedLoad_rows (s : State) : s.grantedLoad = loadUnder s.rowAt (fun x => (s.rowAt x).granted) s.lowestFirst := by
  unfold State.grantedLoad
  rw [loadOf_eq]
  refine loadUnder_perm _ _ ((List.perm_ext_iff_of_nodup allBays_nodup (lowestFirst_nodup s)).mpr fun x => ?_)
  exact iff_of_true (mem_allBays x) (mem_lowestFirst s x)

/-- What a forced removal takes covers the excess. -/
theorem forced_covers (s : State) : s.grantedLoad ≤ s.feeder.budget + loadUnder s.rowAt s.forced s.lowestFirst := by
  rcases taken_covers s.rowAt (lowestFirst_nodup s) (s.grantedLoad - s.feeder.budget) with covered | all
  · unfold State.forced; omega
  · have total : loadUnder s.rowAt s.forced s.lowestFirst = s.grantedLoad := by
      rw [grantedLoad_rows]; exact loadUnder_congr _ all
    omega

theorem forcedRemoval_fits (s : State) : (forcedRemoval s).grantedLoad ≤ s.feeder.budget := by
  have left := removed_grantedLoad (lowestFirst_nodup s) (s.grantedLoad - s.feeder.budget) s
  have covers := forced_covers s
  rw [forcedRemoval_eq]
  unfold State.forced at *
  omega

/-- The stages go from the lowest row up and stop at the first fit (R108). -/
theorem forced_needed (s : State) {lower higher : List BayNo} {x : BayNo} (split : s.lowestFirst = lower ++ x :: higher)
    (gives : s.forced x ≠ 0) : (∀ y ∈ lower, s.forced y = (s.rowAt y).granted) ∧
      s.feeder.budget + loadUnder s.rowAt s.forced lower + (s.forced x - 1) * (s.rowAt x).power < s.grantedLoad := by
  obtain ⟨all, bound⟩ := taken_needed s.rowAt (lowestFirst_nodup s) _ split gives
  refine ⟨all, ?_⟩
  unfold State.forced
  omega

/-! ## The grants -/

/-- Grants within requests, requests within the plans' requests, at most one stage-up in flight, on the marked row, and the
gate CLOSED with it. -/
structure State.RowsSound (s : State) : Prop where
  grants : ∀ b, (s.rowAt b).granted ≤ (s.rowAt b).requested ∧ (s.rowAt b).requested ≤ (s.rowAt b).planRequest ∧
    (s.rowAt b).planRequest ≤ 8
  opened : s.feeder.gateOpen = true → s.feeder.ramp = none ∧ s.feeder.stageUp = none
  closed : s.feeder.gateOpen = false → (s.feeder.ramp = none ↔ s.feeder.stageUp ≠ none)
  inFlight : ∀ b, (s.rowAt b).inFlight = true ↔ ∃ u, s.feeder.stageUp = some u ∧ u.bay = b

/-- The granted load is within the heat budget. -/
def State.LoadFits (s : State) : Prop := s.grantedLoad ≤ s.feeder.budget

/-- The budget's figures. -/
def Feeder.figures (f : Feeder) : Nat × Nat × Nat := (f.plugged, f.base, f.budget)

/-- Rows sound, load within the budget, the budget's figures as in another state: what the FAL keeps between two
recomputations. -/
structure GrantsKept (s t : State) : Prop where
  rows : t.RowsSound
  load : t.LoadFits
  figures : t.feeder.figures = s.feeder.figures

theorem budget_of_figures {s t : State} (h : t.feeder.figures = s.feeder.figures) : t.feeder.budget = s.feeder.budget :=
  congrArg (fun x => x.2.2) h

/-- Rows lowered with the gate and the marks as they stand. -/
theorem State.RowsSound.of_rows {s t : State} (h : s.RowsSound)
    (feeder : (t.feeder.gateOpen, t.feeder.ramp, t.feeder.stageUp) = (s.feeder.gateOpen, s.feeder.ramp, s.feeder.stageUp))
    (grants : ∀ b, (t.rowAt b).granted ≤ (t.rowAt b).requested ∧ (t.rowAt b).requested ≤ (t.rowAt b).planRequest ∧
      (t.rowAt b).planRequest ≤ 8) (inFlight : ∀ b, (t.rowAt b).inFlight = (s.rowAt b).inFlight) : t.RowsSound := by
  simp only [Prod.mk.injEq] at feeder
  obtain ⟨gate, ramp, stageUp⟩ := feeder
  refine ⟨grants, ?_, ?_, fun b => ?_⟩
  · rw [gate, ramp, stageUp]; exact h.opened
  · rw [gate, ramp, stageUp]; exact h.closed
  · rw [inFlight, stageUp]; exact h.inFlight b

theorem modRow_modRow (s : State) (b : BayNo) (f g : GrantRow → GrantRow) :
    (s.modRow b f).modRow b g = s.modRow b (fun r => g (f r)) := by
  simp only [State.modRow, bayAt_bayPut_same, bayPut_bayPut]

theorem submitStage_rowAt (b : BayNo) (n : Nat) (s : State) (c : BayNo) :
    (submitStage b n s).rowAt c = if c = b then { s.rowAt c with commanded := n } else s.rowAt c := by
  unfold submitStage
  split
  · next same => rw [same, State.modRow_rowAt_same]; rfl
  · next ne => rw [State.modRow_rowAt_ne _ _ ne]; rfl

/-- A committed stage-up, field by field. -/
theorem commitStageUp_eq (b : BayNo) (s : State) : commitStageUp b s =
    ((s.modRow b (fun r => { r with
        granted := (s.rowAt b).granted + 1, inFlight := true, commanded := (s.rowAt b).granted + 1 })).modClc b (fun c =>
      c.submitHeat ((s.rowAt b).granted + 1))).modFeeder (fun f => { f with
        gateOpen := false, stageUp := some ⟨b, (s.rowAt b).granted + 1, (s.bfeAt b).shorePower, .awaitingReply⟩ }) := by
  simp only [commitStageUp, submitStage, State.modRow, State.modFeeder, State.modClc, bayAt_bayPut_same, bayPut_bayPut]

theorem commitStageUp_rowAt_same (b : BayNo) (s : State) : (commitStageUp b s).rowAt b =
    { s.rowAt b with granted := (s.rowAt b).granted + 1, inFlight := true, commanded := (s.rowAt b).granted + 1 } := by
  rw [commitStageUp_eq, State.modFeeder_rowAt, State.modClc_rowAt, State.modRow_rowAt_same]

theorem commitStageUp_rowAt_ne {b c : BayNo} (s : State) (ne : c ≠ b) : (commitStageUp b s).rowAt c = s.rowAt c := by
  rw [commitStageUp_eq, State.modFeeder_rowAt, State.modClc_rowAt, State.modRow_rowAt_ne _ _ ne]

section Sound

variable {s : State} (rows : s.RowsSound)
include rows

/-- A row lowered. -/
theorem modRow_rowsSound (b : BayNo) (f : GrantRow → GrantRow)
    (grants : (f (s.rowAt b)).granted ≤ (f (s.rowAt b)).requested ∧
      (f (s.rowAt b)).requested ≤ (f (s.rowAt b)).planRequest ∧ (f (s.rowAt b)).planRequest ≤ 8)
    (inFlight : (f (s.rowAt b)).inFlight = (s.rowAt b).inFlight) : (s.modRow b f).RowsSound := by
  refine rows.of_rows rfl (fun c => ?_) (fun c => ?_) <;> by_cases same : c = b
  · subst same; rw [State.modRow_rowAt_same]; exact grants
  · rw [State.modRow_rowAt_ne _ _ same]; exact rows.grants c
  · subst same; rw [State.modRow_rowAt_same]; exact inFlight
  · rw [State.modRow_rowAt_ne _ _ same]

theorem submitStage_rowsSound (b : BayNo) (n : Nat) : (submitStage b n s).RowsSound := by
  refine rows.of_rows rfl (fun c => ?_) (fun c => ?_) <;> rw [submitStage_rowAt]
  · split
    · exact rows.grants c
    · exact rows.grants c
  · split <;> rfl

/-- The end of the stage-up in flight. -/
theorem endStageUp_rowsSound {u : StageUp} (inFlight : s.feeder.stageUp = some u) : (endStageUp u.bay s).RowsSound := by
  have gate : s.feeder.gateOpen = false := by
    refine Classical.byContradiction fun opened => ?_
    have := (rows.opened (by simpa using opened)).2
    rw [inFlight] at this; cases this
  refine ⟨fun b => ?_, fun opened => ?_, fun _ => ?_, fun b => ?_⟩
  · obtain ⟨f, e, same⟩ : ∃ x, (endStageUp u.bay s).rowAt b = { s.rowAt b with inFlight := x } ∧ True := by
      by_cases same : b = u.bay
      · exact ⟨false, by rw [same, endStageUp_rowAt_same], trivial⟩
      · exact ⟨_, endStageUp_rowAt_ne s same, trivial⟩
    rw [e]; exact rows.grants b
  · exact absurd (gate.symm.trans opened) (by decide)
  · exact ⟨nofun, fun ne => absurd rfl ne⟩
  · rw [endStageUp_stageUp]
    by_cases same : b = u.bay
    · rw [same, endStageUp_rowAt_same]; exact ⟨nofun, fun ⟨_, e, _⟩ => nomatch e⟩
    · rw [endStageUp_rowAt_ne s same, rows.inFlight]
      refine ⟨fun ⟨v, e, bay⟩ => ?_, fun ⟨_, e, _⟩ => nomatch e⟩
      cases inFlight.symm.trans e
      exact absurd bay.symm same

theorem cancelStageUp_rowsSound (b : BayNo) : (cancelStageUp b s).RowsSound := by
  unfold cancelStageUp State.stageUpOf
  cases inFlight : s.feeder.stageUp with
  | none => exact rows
  | some u =>
    dsimp only
    split
    · next own =>
      have bay : u.bay = b := by simpa using own
      subst bay
      exact endStageUp_rowsSound rows inFlight
    · exact rows

theorem cutRows_rowsSound (k : BayNo → Nat) : (cutRows k s).RowsSound := by
  refine rows.of_rows (by rw [cutRows_feeder]) (fun b => ?_) (fun b => ?_)
  · obtain ⟨granted, requested, plan⟩ := rows.grants b
    rw [cutRows_rowAt]
    exact ⟨Nat.le_trans (Nat.sub_le ..) granted, requested, plan⟩
  · rw [cutRows_rowAt]

theorem removed_rowsSound (k : BayNo → Nat) : (removed k s).RowsSound := by
  have cut := cutRows_rowsSound rows k
  cases inFlight : s.feeder.stageUp with
  | none => rw [removed_of_none inFlight]; exact cut
  | some u =>
    rw [removed_of_some inFlight]
    split
    · exact cut
    · exact endStageUp_rowsSound cut (u := u) (by rw [cutRows_feeder]; exact inFlight)

/-- A committed stage-up: one stage more, in flight, behind a CLOSED gate. -/
theorem commitStageUp_rowsSound (b : BayNo) (gate : s.feeder.gateOpen = true)
    (asked : (s.rowAt b).granted < (s.rowAt b).requested) : (commitStageUp b s).RowsSound := by
  obtain ⟨ramp, idle⟩ := rows.opened gate
  have row := commitStageUp_rowAt_same b s
  have other (c : BayNo) (ne : c ≠ b) := commitStageUp_rowAt_ne s ne
  refine ⟨fun c => ?_, nofun, fun _ => ⟨fun _ => nofun, fun _ => ramp⟩, fun c => ?_⟩ <;> by_cases same : c = b
  · obtain ⟨-, requested, plan⟩ := rows.grants b
    rw [same, row]
    exact ⟨asked, requested, plan⟩
  · rw [other c same]; exact rows.grants c
  · rw [same, row]
    exact iff_of_true rfl ⟨_, rfl, rfl⟩
  · rw [other c same, rows.inFlight, idle]
    refine ⟨fun ⟨_, e, _⟩ => (nomatch e), fun ⟨u, e, bay⟩ => ?_⟩
    cases e
    exact absurd bay.symm same

end Sound

/-! ## Loads and figures -/

theorem submitStage_load (b : BayNo) (n : Nat) (s : State) : (submitStage b n s).grantedLoad = s.grantedLoad :=
  grantedLoad_eq fun c => by
    rw [submitStage_rowAt]
    split <;> rfl

theorem endStageUp_load (b : BayNo) (s : State) : (endStageUp b s).grantedLoad = s.grantedLoad :=
  grantedLoad_eq fun c => by
    obtain ⟨-, power, granted⟩ := endStageUp_stagesToTake b c s 0
    simp only [GrantRow.load, power, granted]

theorem cancelStageUp_load (b : BayNo) (s : State) : (cancelStageUp b s).grantedLoad = s.grantedLoad := by
  unfold cancelStageUp
  split
  · exact endStageUp_load b s
  · rfl

theorem cancelStageUp_figures (b : BayNo) (s : State) : (cancelStageUp b s).feeder.figures = s.feeder.figures := by
  unfold cancelStageUp
  split <;> rfl

/-- A change of one row. -/
theorem modRow_load (s : State) (b : BayNo) (f : GrantRow → GrantRow) :
    (s.modRow b f).grantedLoad + (s.rowAt b).load = s.grantedLoad + (f (s.rowAt b)).load := by
  suffices ∀ bs : List BayNo, bs.Nodup → (s.modRow b f).loadOf bs + (if b ∈ bs then (s.rowAt b).load else 0) =
      s.loadOf bs + (if b ∈ bs then (f (s.rowAt b)).load else 0) by
    have all := this allBays allBays_nodup
    rwa [if_pos (mem_allBays b), if_pos (mem_allBays b)] at all
  intro bs nodup
  induction bs with
  | nil => rfl
  | cons c bs ih =>
    obtain ⟨out, nodup⟩ := List.nodup_cons.mp nodup
    have tail := ih nodup
    rw [State.loadOf, State.loadOf]
    by_cases same : b = c
    · subst same
      rw [if_neg out, if_neg out] at tail
      rw [if_pos List.mem_cons_self, if_pos List.mem_cons_self, State.modRow_rowAt_same]
      omega
    · have ne : c ≠ b := Ne.symm same
      rw [State.modRow_rowAt_ne _ _ ne]
      simp only [List.mem_cons, same, false_or]
      omega

theorem modRow_load_le (s : State) (b : BayNo) (f : GrantRow → GrantRow) (le : (f (s.rowAt b)).load ≤ (s.rowAt b).load) :
    (s.modRow b f).grantedLoad ≤ s.grantedLoad := by
  have := modRow_load s b f
  omega

theorem commitStageUp_load (b : BayNo) (s : State) :
    (commitStageUp b s).grantedLoad = s.grantedLoad + (s.rowAt b).power := by
  have change := modRow_load s b (fun r => { r with
    granted := (s.rowAt b).granted + 1, inFlight := true, commanded := (s.rowAt b).granted + 1 })
  rw [commitStageUp_eq]
  simp only [GrantRow.load, Nat.add_mul, Nat.one_mul] at change
  have same : (((s.modRow b (fun r => { r with
        granted := (s.rowAt b).granted + 1, inFlight := true, commanded := (s.rowAt b).granted + 1 })).modClc b (fun c =>
      c.submitHeat ((s.rowAt b).granted + 1))).modFeeder (fun f => { f with
        gateOpen := false, stageUp := some ⟨b, (s.rowAt b).granted + 1, (s.bfeAt b).shorePower, .awaitingReply⟩ })).grantedLoad =
      (s.modRow b (fun r => { r with
        granted := (s.rowAt b).granted + 1, inFlight := true, commanded := (s.rowAt b).granted + 1 })).grantedLoad :=
    grantedLoad_eq fun c => by rw [State.modFeeder_rowAt, State.modClc_rowAt]
  rw [same]
  omega

theorem removed_figures (k : BayNo → Nat) (s : State) : (removed k s).feeder.figures = s.feeder.figures := by
  rw [← cutRows_feeder k s]
  unfold removed
  split
  · rfl
  · split <;> rfl

end Sys2Proof.Machine
end

section
/-! O41 (R106 to R118), the FAL: every notice but the recomputation keeps the grants and leaves the budget's figures. -/

namespace Sys2Proof.Machine

/-! ## What is kept from operation to operation -/

section Kept

variable {s t : State} (h : GrantsKept s t)
include h

theorem GrantsKept.modRow (b : BayNo) (f : GrantRow → GrantRow)
    (grants : (f (t.rowAt b)).granted ≤ (f (t.rowAt b)).requested ∧
      (f (t.rowAt b)).requested ≤ (f (t.rowAt b)).planRequest ∧ (f (t.rowAt b)).planRequest ≤ 8)
    (inFlight : (f (t.rowAt b)).inFlight = (t.rowAt b).inFlight) (load : (f (t.rowAt b)).load ≤ (t.rowAt b).load) :
    GrantsKept s (t.modRow b f) :=
  ⟨modRow_rowsSound h.rows b f grants inFlight, Nat.le_trans (modRow_load_le t b f load) h.load, h.figures⟩

/-- A change of a row that leaves its grant, its requests, its power and its mark. -/
theorem GrantsKept.modRow_same (b : BayNo) (f : GrantRow → GrantRow)
    (same : ((f (t.rowAt b)).granted, (f (t.rowAt b)).requested, (f (t.rowAt b)).planRequest, (f (t.rowAt b)).inFlight,
      (f (t.rowAt b)).power) = ((t.rowAt b).granted, (t.rowAt b).requested, (t.rowAt b).planRequest,
      (t.rowAt b).inFlight, (t.rowAt b).power)) : GrantsKept s (t.modRow b f) := by
  simp only [Prod.mk.injEq] at same
  obtain ⟨granted, requested, plan, inFlight, power⟩ := same
  refine h.modRow b f ?_ inFlight ?_
  · rw [granted, requested, plan]; exact h.rows.grants b
  · exact Nat.le_of_eq (by rw [GrantRow.load, GrantRow.load, granted, power])

theorem GrantsKept.submitStage (b : BayNo) (n : Nat) : GrantsKept s (submitStage b n t) := by
  refine ⟨submitStage_rowsSound h.rows b n, ?_, h.figures⟩
  exact Nat.le_trans (Nat.le_of_eq (submitStage_load b n t)) h.load

theorem GrantsKept.endStageUp {u : StageUp} (inFlight : t.feeder.stageUp = some u) :
    GrantsKept s (endStageUp u.bay t) :=
  ⟨endStageUp_rowsSound h.rows inFlight, Nat.le_trans (Nat.le_of_eq (endStageUp_load u.bay t)) h.load, h.figures⟩

theorem GrantsKept.cancelStageUp (b : BayNo) : GrantsKept s (cancelStageUp b t) := by
  refine ⟨cancelStageUp_rowsSound h.rows b, ?_, (cancelStageUp_figures b t).trans h.figures⟩
  refine Nat.le_trans (Nat.le_of_eq (cancelStageUp_load b t)) (Nat.le_trans h.load ?_)
  exact Nat.le_of_eq (budget_of_figures (cancelStageUp_figures b t)).symm

theorem GrantsKept.trans {u : State} (next : GrantsKept t u) : GrantsKept s u :=
  ⟨next.rows, next.load, next.figures.trans h.figures⟩

end Kept

theorem GrantsKept.same {s : State} (rows : s.RowsSound) (load : s.LoadFits) : GrantsKept s s := ⟨rows, load, Eq.refl _⟩

/-! ## Selection and preemption -/

theorem below_append {before after : List BayNo} {b : BayNo} (out : b ∉ before) : below b (before ++ b :: after) = after := by
  induction before with
  | nil => exact if_pos rfl
  | cons x xs ih =>
    rw [List.mem_cons, not_or] at out
    exact (if_neg (Ne.symm out.1)).trans (ih out.2)

/-- The rows that a claimant may take stages from: those ranked below it that are not quiet. -/
def State.lower (s : State) (b : BayNo) : List BayNo := (below b s.ranked).filter (fun x => !(s.rowAt x).quiet)

theorem lower_eq {s : State} {before after : List BayNo} {b : BayNo} (split : s.ranked = before ++ b :: after) :
    s.lower b = after.filter (fun x => !(s.rowAt x).quiet) ∧ b ∉ after := by
  have nodup := ranked_nodup s
  rw [split, List.nodup_append] at nodup
  obtain ⟨-, tail, apart⟩ := nodup
  refine ⟨?_, (List.nodup_cons.mp tail).1⟩
  unfold State.lower
  rw [split, below_append]
  exact fun m => apart b m b List.mem_cons_self rfl

theorem lower_spec {s : State} {b : BayNo} (ranked : b ∈ s.ranked) : (s.lower b).Nodup ∧ b ∉ s.lower b := by
  obtain ⟨before, after, split⟩ := List.append_of_mem ranked
  obtain ⟨e, out⟩ := lower_eq split
  have nodup := ranked_nodup s
  rw [split, List.nodup_append] at nodup
  rw [e]
  exact ⟨(List.nodup_cons.mp nodup.2.1).2.filter _, fun m => out (List.mem_filter.mp m).1⟩

/-- What a claimant lacks. -/
def State.lacks (s : State) (b : BayNo) : Nat := s.grantedLoad + (s.rowAt b).power - s.feeder.budget

/-- How many stages of each row a claimant takes. -/
def State.claimed (s : State) (b : BayNo) : BayNo → Nat := taken s.rowAt (s.lower b).reverse (s.lacks b)

theorem preempt_eq {s : State} {b : BayNo} (ranked : b ∈ s.ranked) : preempt b s =
    if s.loadOf (s.lower b) < s.lacks b then s else commitStageUp b (removed (s.claimed b) s) := by
  show (if s.loadOf (s.lower b) < s.lacks b then s else commitStageUp b
    (submitStages (changedGrants s (stripRows (s.lower b).reverse (s.lacks b) s))
      (stripRows (s.lower b).reverse (s.lacks b) s))) = _
  rw [stripRows_removed ((List.reverse_perm _).nodup_iff.mpr (lower_spec ranked).1)]
  rfl

/-- The stages that a claimant takes are enough. -/
theorem claimed_covers {s : State} {b : BayNo} (ranked : b ∈ s.ranked) (enough : ¬ s.loadOf (s.lower b) < s.lacks b) :
    (removed (s.claimed b) s).grantedLoad + (s.rowAt b).power ≤ s.feeder.budget := by
  have nodup := (List.reverse_perm _).nodup_iff.mpr (lower_spec ranked).1
  have left := removed_grantedLoad nodup (s.lacks b) s
  rcases taken_covers s.rowAt nodup (s.lacks b) with covered | all
  · unfold State.claimed State.lacks at *
    omega
  · have total : loadUnder s.rowAt (taken s.rowAt (s.lower b).reverse (s.lacks b)) (s.lower b).reverse =
        s.loadOf (s.lower b) := by
      rw [loadOf_eq, loadUnder_congr _ all]
      exact loadUnder_perm _ _ (List.reverse_perm _)
    unfold State.claimed State.lacks at *
    omega

theorem removed_gate (k : BayNo → Nat) (s : State) : (removed k s).feeder.gateOpen = s.feeder.gateOpen := by
  rw [← cutRows_feeder k s]
  unfold removed
  split
  · rfl
  · split <;> rfl

/-- The stage-up that a selection commits: none, one that fits, or one that lower rows make room for. -/
theorem selection_cases (s : State) : selection s = s ∨ (s.feeder.gateOpen = true ∧ ∃ b ∈ s.ranked, s.candidate b = true ∧
    ((s.fits b = true ∧ selection s = commitStageUp b s) ∨ selection s = preempt b s)) := by
  unfold selection
  split
  · next gate =>
    dsimp only
    split
    · next b found =>
      obtain ⟨ranked, candidate⟩ := List.mem_filter.mp (List.mem_of_find?_eq_some found)
      exact .inr ⟨gate, b, ranked, candidate, .inl ⟨List.find?_some found, rfl⟩⟩
    · split
      · exact .inl rfl
      · next b rest first =>
        obtain ⟨ranked, candidate⟩ := List.mem_filter.mp (first ▸ List.mem_cons_self : b ∈ s.ranked.filter s.candidate)
        exact .inr ⟨gate, b, ranked, candidate, .inr rfl⟩
  · exact .inl rfl

theorem candidate_asks {s : State} {b : BayNo} (h : s.candidate b = true) : (s.rowAt b).granted < (s.rowAt b).requested := by
  simp only [State.candidate, Bool.and_eq_true, decide_eq_true_eq] at h
  exact h.1.1.1.1

/-- A selection keeps the load within the budget, and the budget's figures (R111 to R114). -/
theorem selection_load (s : State) (load : s.LoadFits) :
    (selection s).LoadFits ∧ (selection s).feeder.figures = s.feeder.figures := by
  rcases selection_cases s with e | ⟨-, b, ranked, -, ⟨fits, e⟩ | e⟩
  · rw [e]; exact ⟨load, rfl⟩
  · rw [e]
    refine ⟨?_, rfl⟩
    unfold State.LoadFits
    rw [commitStageUp_load]
    exact of_decide_eq_true fits
  · rw [e, preempt_eq ranked]
    split
    · exact ⟨load, rfl⟩
    · next enough =>
      refine ⟨?_, (removed_figures (s.claimed b) s)⟩
      unfold State.LoadFits
      rw [commitStageUp_load, removed_power]
      exact Nat.le_trans (claimed_covers ranked enough) (Nat.le_of_eq (removed_budget (s.claimed b) s).symm)

theorem selection_kept {s : State} (rows : s.RowsSound) (load : s.LoadFits) : GrantsKept s (selection s) := by
  obtain ⟨fits, figures⟩ := selection_load s load
  refine ⟨?_, fits, figures⟩
  rcases selection_cases s with e | ⟨gate, b, ranked, candidate, ⟨-, e⟩ | e⟩
  · rw [e]; exact rows
  · rw [e]; exact commitStageUp_rowsSound rows b gate (candidate_asks candidate)
  · rw [e, preempt_eq ranked]
    split
    · exact rows
    · refine commitStageUp_rowsSound (removed_rowsSound rows _) b ((removed_gate ..).trans gate) ?_
      have own : s.claimed b b = 0 := taken_of_not_mem _ _ fun m => (lower_spec ranked).2 (List.mem_reverse.mp m)
      rw [removed_granted, (removed_requests _ s b).1, own]
      exact candidate_asks candidate

/-! ## Requests, cuts and session events -/

theorem effectiveRequest_le (s : State) (b : BayNo) : s.effectiveRequest b ≤ (s.rowAt b).planRequest := by
  unfold State.effectiveRequest
  split
  · exact Nat.zero_le _
  · exact Nat.le_refl _

section Requests

variable {s : State} (rows : s.RowsSound) (load : s.LoadFits) (b : BayNo)
include rows load

/-- The requested stages set after a change of the row that leaves its grant, power and mark. -/
theorem setRequested_kept (f : GrantRow → GrantRow) (same : ((f (s.rowAt b)).granted, (f (s.rowAt b)).power,
      (f (s.rowAt b)).inFlight) = ((s.rowAt b).granted, (s.rowAt b).power, (s.rowAt b).inFlight))
    (plan : (f (s.rowAt b)).planRequest ≤ 8) : GrantsKept s (setRequested b (s.modRow b f)).1 := by
  simp only [Prod.mk.injEq] at same
  obtain ⟨granted, power, inFlight⟩ := same
  have most := effectiveRequest_le (s.modRow b f) b
  rw [State.modRow_rowAt_same] at most
  unfold setRequested
  dsimp only [done]
  rw [State.modRow_rowAt_same, modRow_modRow, granted]
  generalize (s.modRow b f).effectiveRequest b = n at most ⊢
  split
  · next below =>
    unfold cutGrant
    dsimp only
    rw [modRow_modRow]
    refine ((GrantsKept.same rows load).modRow b (fun r => { f r with requested := n, granted := n })
      ⟨Nat.le_refl _, most, plan⟩ inFlight ?_).cancelStageUp b |>.submitStage b _
    simp only [GrantRow.load, power]
    exact Nat.mul_le_mul_right _ (Nat.le_of_lt below)
  · next enough =>
    have kept : GrantsKept s (s.modRow b (fun r => { f r with requested := n })) := by
      refine (GrantsKept.same rows load).modRow b _ ⟨?_, most, plan⟩ inFlight ?_
      · exact Nat.le_trans (Nat.le_of_eq granted) (Nat.not_lt.mp enough)
      · simp only [GrantRow.load, power, granted, Nat.le_refl]
    split <;> exact kept

theorem falContactor_kept : GrantsKept s (setRequested b s).1 := by
  have same : s.modRow b (fun r => r) = s := by simp only [State.modRow, bayPut_bayAt]
  have kept := setRequested_kept rows load b (fun r => r) rfl (rows.grants b).2.2
  rwa [same] at kept

theorem falTake_kept (plan : (s.hplAt b).plan.request (s.dkuAt b).profile.heater ≤ 8) : GrantsKept s (falTake b s).1 :=
  setRequested_kept rows load b (fun r => { r with
    cls := (s.hplAt b).plan.rowClass, rankKey := (s.hplAt b).plan.scheduled
    planRequest := (s.hplAt b).plan.request (s.dkuAt b).profile.heater
    failures := if r.failures = 2 ∧ (s.hplAt b).plan.rowClass ≠ .none then 0 else r.failures }) rfl plan

theorem falLost_kept : GrantsKept s (falLost b s).1 := by
  have kept := setRequested_kept rows load b (fun r => { r with linkHeldLost := true }) rfl (rows.grants b).2.2
  unfold falLost
  dsimp only
  split
  · exact kept.submitStage b 0
  · exact kept

theorem falRecovered_kept : GrantsKept s (falRecovered b s).1 :=
  setRequested_kept rows load b (fun r => { r with linkHeldLost := false }) rfl (rows.grants b).2.2

/-- An emptied row grants and asks nothing. -/
theorem emptied_kept {t : State} (kept : GrantsKept s t) : GrantsKept s (t.modRow b GrantRow.emptied) :=
  kept.modRow b _ ⟨Nat.le_refl 0, Nat.le_refl 0, Nat.zero_le 8⟩ rfl (by simp [GrantRow.load, GrantRow.emptied])

theorem falDocked_kept : GrantsKept s (falDocked b s).1 :=
  (GrantsKept.same rows load).modRow b (fun r => { r.emptied with power := (s.dkuAt b).profile.stagePower })
    ⟨Nat.le_refl 0, Nat.le_refl 0, Nat.zero_le 8⟩ rfl (by simp [GrantRow.load, GrantRow.emptied])

theorem falEmpty_kept : GrantsKept s (falEmpty b s).1 := by
  unfold falEmpty
  dsimp only [done]
  split
  · exact emptied_kept rows load b (.same rows load)
  · refine emptied_kept rows load b ?_
    unfold cutGrant
    dsimp only
    rw [modRow_modRow]
    refine ((GrantsKept.same rows load).modRow b _ ⟨Nat.le_refl 0, Nat.zero_le _, (rows.grants b).2.2⟩ rfl ?_).cancelStageUp b
      |>.submitStage b _
    simp [GrantRow.load]

theorem falUndock_kept : GrantsKept s (falUndock b s).1 := by
  have kept := falEmpty_kept rows load b
  unfold falUndock
  dsimp only
  split
  · exact kept
  · exact kept.submitStage b 0

theorem stageUpFails_kept (why : CommandResult) {u : StageUp} (inFlight : s.feeder.stageUp = some u) (bay : u.bay = b) :
    GrantsKept s (stageUpFails b why s).1 := by
  obtain ⟨granted, requested, plan⟩ := rows.grants b
  subst bay
  have lowered := (GrantsKept.same rows load).modRow u.bay
    (fun r => { r with granted := (s.rowAt u.bay).granted - 1, failures := min ((s.rowAt u.bay).failures + 1) 2 })
    ⟨Nat.le_trans (Nat.sub_le ..) granted, requested, plan⟩ rfl (Nat.mul_le_mul_right _ (Nat.sub_le ..))
  have submitted := lowered.submitStage u.bay ((s.rowAt u.bay).granted - 1)
  have recorded := submitted.modRow_same u.bay (fun r => { r with lastResult := why }) rfl
  exact recorded.endStageUp inFlight

theorem stageUpResult_kept (x : TxResult) {u : StageUp} (inFlight : s.feeder.stageUp = some u) (bay : u.bay = b) :
    GrantsKept s (stageUpResult b u x s).1 := by
  unfold stageUpResult
  split
  · refine ⟨⟨rows.grants, fun opened => ?_, fun closed => ?_, fun c => ?_⟩, load, rfl⟩
    · have := (rows.opened opened).2
      rw [inFlight] at this; cases this
    · exact (rows.closed closed).trans (by rw [inFlight]; exact iff_of_true nofun nofun)
    · refine (rows.inFlight c).trans ?_
      rw [inFlight]
      constructor <;> rintro ⟨v, e, own⟩ <;> cases e <;> exact ⟨_, rfl, own⟩
  · exact stageUpFails_kept rows load b _ inFlight bay
  · split
    · exact stageUpFails_kept rows load b _ inFlight bay
    · subst bay
      obtain ⟨granted, requested, plan⟩ := rows.grants u.bay
      exact ((GrantsKept.same rows load).modRow u.bay (fun r => { r with granted := r.granted - 1 })
        ⟨Nat.le_trans (Nat.sub_le ..) granted, requested, plan⟩ rfl (Nat.mul_le_mul_right _ (Nat.sub_le ..))).endStageUp inFlight

theorem commandResult_kept (x : TxResult) : GrantsKept s (commandResult b x s).1 := by
  have kept := (GrantsKept.same rows load).modRow_same b (fun r => { r with lastResult := commandOf x }) rfl
  unfold commandResult
  dsimp only [done]
  split
  · exact kept.submitStage b _
  · exact kept

theorem falResult_kept (n : Nat) (x : TxResult) : GrantsKept s (falResult b n x s).1 := by
  unfold falResult
  split
  · next u inFlight =>
    split
    · next own => exact stageUpResult_kept rows load b x inFlight own.1
    · exact commandResult_kept rows load b x
  · exact commandResult_kept rows load b x

theorem falMeter_kept : GrantsKept s (falMeter b s) := by
  unfold falMeter
  split
  · next u inFlight =>
    split
    · split
      · next own =>
        obtain ⟨rfl, -⟩ := own
        exact ((GrantsKept.same rows load).modRow_same u.bay (fun r => { r with failures := 0 }) rfl).endStageUp inFlight
      · exact .same rows load
    · exact .same rows load
  · exact .same rows load

omit b in
theorem falConfirmExpired_kept : GrantsKept s (falConfirmExpired s).1 := by
  unfold falConfirmExpired
  split
  · next u inFlight =>
    split
    · exact stageUpFails_kept rows load u.bay _ inFlight rfl
    · exact .same rows load
  · exact .same rows load

omit b in
theorem falRampExpired_kept : GrantsKept s (falRampExpired s).1 := by
  unfold falRampExpired
  split
  · next runs =>
    have gate : s.feeder.gateOpen = false := by
      refine Classical.byContradiction fun opened => ?_
      have := (rows.opened (by simpa using opened)).1
      rw [this] at runs; cases runs
    have idle : s.feeder.stageUp = none := by
      refine Classical.byContradiction fun ne => ?_
      have := (rows.closed gate).mpr ne
      rw [this] at runs; cases runs
    exact ⟨⟨rows.grants, fun _ => ⟨rfl, idle⟩, nofun, rows.inFlight⟩, load, rfl⟩
  · exact .same rows load

omit b load in
/-- A recomputation brings the load within the new budget (R102, R108). -/
theorem falRecompute_rows : (falRecompute s).1.RowsSound ∧ (falRecompute s).1.LoadFits := by
  unfold falRecompute
  dsimp only
  generalize s.countPlugged = n
  generalize s.baseBudget n = base
  generalize s.heatBudget base = budget
  have kept : (s.modFeeder (fun f => { f with plugged := n, base := base, budget := budget })).RowsSound :=
    ⟨rows.grants, rows.opened, rows.closed, rows.inFlight⟩
  split
  · refine ⟨?_, ?_⟩
    · rw [forcedRemoval_eq]; exact removed_rowsSound kept _
    · refine Nat.le_trans (forcedRemoval_fits _) (Nat.le_of_eq ?_)
      rw [forcedRemoval_eq, removed_budget]
  · next fits => exact ⟨kept, Nat.not_lt.mp fits⟩

end Requests

end Sys2Proof.Machine
end

section
/-! O41 (R79 to R95, R101, R102): stages capable and holding stages stay within eight; the budget's figures stand but where
a recomputation is still to be made; and the grants of every step. -/

namespace Sys2Proof.Machine

/-! ## Stages capable and holding stages -/

/-- A profile's heater has at most eight stages (R44). -/
def Profile.HeaterFits (p : Profile) : Prop := ∀ h, p.heater = some h → h.1 ≤ 8

/-- Every profile's heater has at most eight stages. -/
def State.HeatersFit (s : State) : Prop := ∀ b, (s.dkuAt b).profile.HeaterFits

/-- Every plan has at most eight holding stages. -/
def State.HoldingFits (s : State) : Prop := ∀ b, (s.hplAt b).plan.holdingStages ≤ 8

theorem clampNat_le {lo hi v : Nat} (h : lo ≤ hi) : clampNat lo hi v ≤ hi := by
  unfold clampNat
  split
  · exact h
  · split <;> omega

theorem heaterFits_of_eq {p q : Profile} (h : p.HeaterFits) (same : q.heater = p.heater) : q.HeaterFits := by
  unfold Profile.HeaterFits; rw [same]; exact h

theorem heaterFits_none {p : Profile} (h : p.heater = none) : p.HeaterFits := by
  unfold Profile.HeaterFits; rw [h]; exact nofun

theorem applyHeater_fits {p : Profile} (h : p.HeaterFits) (stages power : Nat) : (p.applyHeater stages power).HeaterFits := by
  unfold Profile.applyHeater
  dsimp only
  split
  · exact heaterFits_of_eq h rfl
  · intro x e
    cases e
    exact clampNat_le (by decide)

theorem applyDescriptor_fits {p : Profile} (h : p.HeaterFits) (kind : Nat) (body : List Byte) :
    (p.applyDescriptor kind body).HeaterFits := by
  unfold Profile.applyDescriptor
  split
  · exact applyHeater_fits h _ _
  · unfold Profile.applyCabin; dsimp only; split <;> exact heaterFits_of_eq h rfl
  · split
    · unfold Profile.applyLamp
      dsimp only
      split
      · exact heaterFits_of_eq h rfl
      · split <;> exact heaterFits_of_eq h rfl
    · exact heaterFits_of_eq h rfl
  · unfold Profile.applyFaultMemory; dsimp only; split <;> exact heaterFits_of_eq h rfl
  · exact heaterFits_of_eq h rfl

section Docking

variable {s : State} (h : s.HeatersFit) (b : BayNo)
include h

theorem modDku_fits (f : Dku → Dku) (fits : (f (s.dkuAt b)).profile.HeaterFits) : (s.modDku b f).HeatersFit := by
  intro c
  by_cases same : c = b
  · rw [same, State.modDku_dkuAt_same]; exact fits
  · rw [State.modDku_dkuAt_ne _ _ same]; exact h c

/-- A change of a docking record that leaves the heater. -/
theorem modDku_fits_same (f : Dku → Dku) (same : (f (s.dkuAt b)).profile.heater = (s.dkuAt b).profile.heater) :
    (s.modDku b f).HeatersFit := modDku_fits h b f (heaterFits_of_eq (h b) same)

theorem dkuDescribed_fits (i kind n : Nat) (body : List Byte) : (dkuDescribed b i kind n body s).1.HeatersFit := by
  have described := modDku_fits h b (fun d => { d with
    indices := (s.dkuAt b).indices ++ [i], profile := d.profile.applyDescriptor kind body, read := none })
    (applyDescriptor_fits (h b) kind body)
  unfold dkuDescribed
  dsimp only
  split
  · exact modDku_fits_same described b (fun d => { d with state := .readingFaults }) rfl
  · split
    · exact described
    · exact modDku_fits described b (fun d => d.failChain i n) (heaterFits_none rfl)

theorem dkuReadFailed_fits (r : BayRequest) : (dkuReadFailed b r s).1.HeatersFit := by
  unfold dkuReadFailed
  split
  · exact h
  · exact modDku_fits_same h b (fun d => { d with read := some (r, false) }) rfl

theorem dkuResult_fits (r : BayRequest) (x : TxResult) : (dkuResult b r x s).1.HeatersFit := by
  unfold dkuResult
  dsimp only
  split
  · split
    · unfold dkuIdentified
      exact modDku_fits_same h b _ rfl
    · exact dkuDescribed_fits h b _ _ _ _
    · unfold dkuDocked
      dsimp only
      refine modDku_fits_same (s := State.modClc _ b _) ?_ b _ rfl
      exact modDku_fits_same h b (fun d => { d with state := .docked, read := none, indices := [] }) rfl
    · have read := modDku_fits_same h b (fun d => { d with read := none }) rfl
      unfold dkuReidentified
      dsimp only
      split
      · split <;> exact read
      · exact read
    · exact dkuReadFailed_fits h b _
    · exact h
  · exact h

/-- Every notice of the DKU leaves a heater as it is, forgets it, or takes one of at most eight stages. -/
theorem handle_heatersFit {n : Notice} (docking : n.writer = .docking) : (handle n s).1.HeatersFit := by
  cases n <;> simp only [Notice.writer, reduceCtorEq] at docking
  case dkuStart b => exact h
  case dkuBegin b => exact modDku_fits h b (fun _ => { Dku.reset with state := .probing }) (heaterFits_none rfl)
  case dkuSubmit b r =>
    exact modDku_fits_same (s := s.modClc b (fun c => c.submitRead r)) h b
      (fun d => { d with read := some (r, (s.clcAt b).takesRead) }) rfl
  case dkuResult b r x => exact dkuResult_fits h b r x
  case dkuRecovered b => unfold handle dkuRecovered; dsimp only; split <;> exact h
  case dkuScanCommitted b => unfold handle dkuScanCommitted; dsimp only; split <;> exact h
  case dkuUndock b why =>
    unfold handle dkuUndock; dsimp only; split
    · exact h
    · exact modDku_fits h b (fun _ => .reset) (heaterFits_none rfl)
  case dkuRetain b =>
    exact modDku_fits_same h b (fun d => { d with state := .undocked, read := none, indices := [], retained := true }) rfl
  case dkuDiscard b =>
    unfold handle dkuDiscard; dsimp only; split
    · exact modDku_fits h b (fun _ => .reset) (heaterFits_none rfl)
    · exact h
  case dkuMatch b =>
    unfold handle dkuMatch; dsimp only; split
    · exact h
    · exact modDku_fits_same h b (fun d => { d with matching := s.matchState b }) rfl
  case dkuWrongBay b =>
    unfold handle dkuWrongBay; dsimp only; split
    · exact h
    · exact modDku_fits_same h b (fun d => { d with wrongBay := s.inWrongBay b }) rfl

end Docking

/-! ### The course of a plan leaves its holding stages -/

section Course

variable (p : Plan) (k : HeatClock)

theorem enterHeating_holding : (p.enterHeating k).1.holdingStages = p.holdingStages := by
  unfold Plan.enterHeating; split <;> rfl

theorem startEvaluation_holding : (p.startEvaluation k).1.holdingStages = p.holdingStages := by
  unfold Plan.startEvaluation
  split
  · rfl
  · dsimp only
    split
    · rfl
    · exact enterHeating_holding ..

theorem recomputed_holding : (p.recomputed k).1.holdingStages = p.holdingStages := by
  unfold Plan.recomputed
  split
  · exact startEvaluation_holding ..
  · split <;> rfl
  all_goals rfl

theorem sampleTest_holding : (p.sampleTest k).1.holdingStages = p.holdingStages := by
  unfold Plan.sampleTest
  split
  · split <;> rfl
  · split <;> rfl
  all_goals rfl

theorem suspend_holding : p.suspend.1.holdingStages = p.holdingStages := by
  unfold Plan.suspend; split <;> rfl

theorem resume_holding : (p.resume k).1.holdingStages = p.holdingStages := by
  unfold Plan.resume
  dsimp only
  split
  · rfl
  · split
    · split
      · rfl
      · exact enterHeating_holding ..
    · split
      · exact enterHeating_holding ..
      · rfl
    · exact startEvaluation_holding ..

theorem endWith_holding (code : EndCode) : (p.endWith code).1.holdingStages = p.holdingStages := by
  unfold Plan.endWith
  split
  · split <;> rfl
  · rfl

end Course

section Heat

variable {s : State} (heaters : s.HeatersFit) (h : s.HoldingFits) (b : BayNo)

include heaters in
theorem computed_fits {p : Plan} (fits : p.holdingStages ≤ 8) : (s.computed b p).holdingStages ≤ 8 := by
  unfold State.computed
  split
  · next t time n w _ _ heater =>
    obtain ⟨-, -, -, -, -, -, -, -, -, -, -, holding⟩ := compute_kept (x := s.heatFigures b n w) (target := t) (time := time) p
    rw [holding]
    exact Nat.le_trans (Nat.min_le_left ..) (heaters b _ heater)
  · exact fits

include h in
theorem modHpl_fits (f : Hpl → Hpl) (fits : (f (s.hplAt b)).plan.holdingStages ≤ 8) : (s.modHpl b f).HoldingFits := by
  intro c
  by_cases same : c = b
  · rw [same, State.modHpl_hplAt_same]; exact fits
  · rw [State.modHpl_hplAt_ne _ _ same]; exact h c

include h in
/-- A course carried out. -/
theorem carryCourse_fits (hands : Bool) {c : Course} (fits : c.1.holdingStages ≤ 8) : (carryCourse b hands c s).1.HoldingFits :=
  modHpl_fits h b (fun x => { x with plan := c.1 }) fits

include heaters in
theorem launch_fits {p : Plan} (fits : p.holdingStages ≤ 8) : (s.launch b p).1.holdingStages ≤ 8 := by
  have launched : (((s.computed b p).enter .waiting).then (fun q => q.startEvaluation (s.heatClock b))).1.holdingStages ≤ 8 :=
    Nat.le_trans (Nat.le_of_eq (startEvaluation_holding _ _)) (computed_fits heaters b fits)
  unfold State.launch
  dsimp only
  split
  · exact Nat.le_trans (Nat.le_of_eq (suspend_holding _)) launched
  · exact launched

theorem stopAtFormation_holding (p : Plan) : (s.stopAtFormation b p).1.holdingStages = p.holdingStages := by
  unfold State.stopAtFormation
  split
  · exact endWith_holding ..
  · rfl

include heaters in
theorem recompute_fits {p : Plan} (fits : p.holdingStages ≤ 8) : (s.recompute b p).1.holdingStages ≤ 8 := by
  unfold State.recompute
  split
  · exact Nat.le_trans (Nat.le_of_eq (recomputed_holding _ _)) (computed_fits heaters b fits)
  · exact fits

include heaters h

theorem hplForm_fits (atDocked : Bool) : (hplForm b atDocked s).1.HoldingFits := by
  have formed := modHpl_fits h b (fun x => { x with causeLink := x.causeLink && !atDocked }) (h b)
  have heaters' : (s.modHpl b (fun x => { x with causeLink := x.causeLink && !atDocked })).HeatersFit := heaters
  have fresh (d : Option Departure) : (Plan.fresh d).holdingStages ≤ 8 := by cases d <;> exact Nat.zero_le _
  unfold hplForm
  dsimp only
  refine carryCourse_fits formed b true (Nat.le_trans (Nat.le_of_eq (stopAtFormation_holding b _)) ?_)
  split
  · exact launch_fits heaters' b (fresh _)
  · exact fresh _

theorem hplAmended_fits : (hplAmended b s).1.HoldingFits := by
  unfold hplAmended
  dsimp only
  split
  · exact carryCourse_fits h b _ (h b)
  · split
    · exact carryCourse_fits h b _ (h b)
    · split
      · exact carryCourse_fits h b _ (h b)
      · split
        · split
          · refine carryCourse_fits h b true (Nat.le_trans (Nat.le_of_eq (stopAtFormation_holding b _)) ?_)
            exact launch_fits heaters b (h b)
          · exact carryCourse_fits h b _ (h b)
        · exact carryCourse_fits h b _ (recompute_fits heaters b (h b))

theorem hplCauseDropped_fits : (hplCauseDropped b s).1.HoldingFits := by
  unfold hplCauseDropped
  dsimp only
  split
  · exact carryCourse_fits h b _ (Nat.le_trans (Nat.le_of_eq (resume_holding _ _)) (computed_fits heaters b (h b)))
  · exact carryCourse_fits h b _ (h b)

/-- Every notice of the HPL keeps the holding stages within eight. -/
theorem handle_holdingFits {n : Notice} (heat : n.writer = .heat) : (handle n s).1.HoldingFits := by
  cases n <;> simp only [Notice.writer, reduceCtorEq] at heat
  case hplForm b x => exact hplForm_fits heaters h b x
  case hplNone b => unfold handle hplNone; dsimp only; split <;> exact carryCourse_fits h b _ (h b)
  case hplAmended b => exact hplAmended_fits heaters h b
  case hplRecompute b =>
    unfold handle hplRecompute; dsimp only; split
    · exact carryCourse_fits h b _ (recompute_fits heaters b (h b))
    · exact h
  case hplStart b =>
    unfold handle hplStart; dsimp only; split
    · exact carryCourse_fits h b _ (Nat.le_trans (Nat.le_of_eq (startEvaluation_holding _ _)) (h b))
    · exact h
  case hplPoint b =>
    unfold handle hplPoint; dsimp only; split
    · exact carryCourse_fits h b _ (h b)
    · exact h
  case hplSample b t =>
    have sampled := modHpl_fits h b (fun x => { x with
      sample := some (t, s.clock.time), stale := false
      staleTimer := if (s.dkuAt b).state = .docked then s.stalePeriod else x.staleTimer }) (h b)
    exact carryCourse_fits sampled b _ (Nat.le_trans (Nat.le_of_eq (sampleTest_holding _ _)) (recompute_fits (s := State.modHpl s b _) heaters b (sampled b)))
  case hplCoachStop b =>
    have marked := modHpl_fits h b (fun x => { x with coachStop := true }) (h b)
    exact carryCourse_fits marked b _ (Nat.le_trans (Nat.le_of_eq (endWith_holding _ _)) (marked b))
  case hplEnd b code => exact carryCourse_fits h b _ (Nat.le_trans (Nat.le_of_eq (endWith_holding _ _)) (h b))
  case hplAddLink b =>
    have marked := modHpl_fits h b (fun x => { x with causeLink := true }) (h b)
    exact carryCourse_fits marked b _ (Nat.le_trans (Nat.le_of_eq (suspend_holding _)) (marked b))
  case hplDropLink b => exact hplCauseDropped_fits (s := State.modHpl s b _) heaters (modHpl_fits h b (fun x => { x with causeLink := false }) (h b)) b
  case hplAddClearing b =>
    have marked := modHpl_fits h b (fun x => { x with causeClearing := true }) (h b)
    exact carryCourse_fits marked b _ (Nat.le_trans (Nat.le_of_eq (suspend_holding _)) (marked b))
  case hplDropClearing b => exact hplCauseDropped_fits (s := State.modHpl s b _) heaters (modHpl_fits h b (fun x => { x with causeClearing := false }) (h b)) b
  case hplDocked b => exact hplForm_fits (s := State.modHpl s b _) heaters (modHpl_fits h b (fun x => { x with staleTimer := s.stalePeriod }) (h b)) b true
  case hplSessionStart b => exact modHpl_fits h b Hpl.endSession (h b)
  case hplUndock b =>
    have ended := modHpl_fits h b (fun x => { x.endSession with causeLink := false, causeClearing := false }) (h b)
    exact carryCourse_fits ended b _ (Nat.le_trans (Nat.le_of_eq (endWith_holding _ _)) (ended b))
  case hplPlugOut b =>
    have ended := modHpl_fits h b (fun x => { x with causeClearing := false, stale := false, staleTimer := none }) (h b)
    exact carryCourse_fits ended b _ (Nat.le_trans (Nat.le_of_eq (endWith_holding _ _)) (ended b))
  case hplForget b => exact modHpl_fits h b (fun x => { x with sample := none, stale := false, staleTimer := none }) (h b)

omit heaters in
theorem hplStale_fits : (hplStale b s).1.HoldingFits := by
  unfold hplStale
  split
  · exact modHpl_fits h b (fun x => { x with stale := true, staleTimer := none }) (h b)
  · exact h

end Heat

theorem request_fits {s : State} (heaters : s.HeatersFit) (holding : s.HoldingFits) (b : BayNo) :
    (s.hplAt b).plan.request (s.dkuAt b).profile.heater ≤ 8 := by
  unfold Plan.request
  split
  · split
    · next heater => exact heaters b _ heater
    · exact Nat.zero_le 8
  · exact holding b
  all_goals exact Nat.zero_le 8

end Sys2Proof.Machine
end

section
/-! O41 (R101, R102, R108, R189): the grants of every step. -/

namespace Sys2Proof.Machine

/-! ## The budget's figures -/

/-- The budget's figures are what the field, the settings and the shed depth give. -/
def State.BudgetStands (s : State) : Prop :=
  s.feeder.plugged = s.countPlugged ∧ s.feeder.base = s.baseBudget s.feeder.plugged ∧
    s.feeder.budget = s.heatBudget s.feeder.base

/-- What the budget's figures are read with. -/
structure BudgetView where
  counts : BayNo → Bool
  settings : Vector Nat 17
  shedHost : Nat
  shedLine : Nat
  figures : Nat × Nat × Nat

/-- What the budget's figures are read with in a state. -/
def State.budgetView (s : State) : BudgetView :=
  ⟨fun b => (s.bfeAt b).counts, s.settings, s.feeder.shedHost, s.feeder.shedLine, s.feeder.figures⟩

theorem countPlugged_eq {s t : State} (h : ∀ b, (t.bfeAt b).counts = (s.bfeAt b).counts) : t.countPlugged = s.countPlugged := by
  unfold State.countPlugged
  simp only [h]

theorem budgetStands_of_view {s t : State} (h : t.budgetView = s.budgetView) (hs : s.BudgetStands) : t.BudgetStands := by
  simp only [State.budgetView, BudgetView.mk.injEq, Feeder.figures, Prod.mk.injEq] at h
  obtain ⟨counts, settings, host, line, plugged, base, budget⟩ := h
  have count : t.countPlugged = s.countPlugged := countPlugged_eq fun b => congrFun counts b
  unfold State.BudgetStands State.baseBudget State.heatBudget State.setting Feeder.depth at *
  rw [plugged, base, budget, settings, host, line, count]
  exact hs

theorem counts_of_given {s t : State} (h : t.given = s.given) (b : BayNo) : (t.bfeAt b).counts = (s.bfeAt b).counts := by
  have bay : (t.bfeAt b).given = (s.bfeAt b).given := congrFun (congrArg Given.bfe h) b
  show (t.bfeAt b).given.counts = (s.bfeAt b).given.counts
  rw [bay]

theorem budgetView_of_given {s t : State} (h : t.given = s.given) (figures : t.feeder.figures = s.feeder.figures) :
    t.budgetView = s.budgetView := by
  have settings : t.settings = s.settings := congrArg Given.settings h
  have host : t.feeder.shedHost = s.feeder.shedHost := congrArg Given.shedHost h
  have line : t.feeder.shedLine = s.feeder.shedLine := congrArg Given.shedLine h
  simp only [State.budgetView, BudgetView.mk.injEq]
  exact ⟨funext fun b => counts_of_given h b, settings, host, line, figures⟩

/-- A recomputation makes the figures stand (R101, R102). -/
theorem falRecompute_stands (s : State) : (falRecompute s).1.BudgetStands := by
  have given := given_of_fixed (show (falRecompute s).1.fixed = s.fixed from falRecompute_fixed s)
  have figures : (falRecompute s).1.feeder.figures =
      (s.countPlugged, s.baseBudget s.countPlugged, s.heatBudget (s.baseBudget s.countPlugged)) := by
    unfold falRecompute
    dsimp only
    split
    · rw [forcedRemoval_eq, removed_figures]; rfl
    · rfl
  have view := budgetView_of_given (s := s.modFeeder (fun f => { f with
    plugged := s.countPlugged, base := s.baseBudget s.countPlugged
    budget := s.heatBudget (s.baseBudget s.countPlugged) })) (t := (falRecompute s).1) given figures
  exact budgetStands_of_view view ⟨rfl, rfl, rfl⟩

/-! ## Every notice -/

/-- Sound grants with the notices still to be taken. -/
structure GrantsSound (ns : List Notice) (s : State) : Prop where
  rows : s.RowsSound
  load : s.LoadFits
  budget : s.BudgetStands ∨ .falRecompute ∈ ns ++ s.unfinished
  heaters : s.HeatersFit
  holding : s.HoldingFits

theorem feederSound_iff {s : State} : s.FeederSound ↔ GrantsSound [] s :=
  ⟨fun h => ⟨⟨h.grants, h.opened, h.closed, h.inFlight⟩, h.load, h.budget, fun b => (h.capable b).1, fun b => (h.capable b).2⟩,
   fun h => ⟨h.load, h.budget, h.rows.grants, fun b => ⟨h.heaters b, h.holding b⟩, h.rows.opened, h.rows.closed, h.rows.inFlight⟩⟩

/-- Rows alike but for quiet marks, and the same gate. -/
theorem grantsKept_of_rows {s t : State} (rows : ∀ b, (t.rowAt b).unmarked = (s.rowAt b).unmarked) (feeder : t.feeder = s.feeder)
    (h : s.RowsSound) (load : s.LoadFits) : GrantsKept s t := by
  have read {α : Type} (get : GrantRow → α) (blind : ∀ r : GrantRow, get r.unmarked = get r) (b : BayNo) :
      get (t.rowAt b) = get (s.rowAt b) := by rw [← blind (t.rowAt b), rows, blind]
  refine ⟨h.of_rows (by rw [feeder]) (fun b => ?_) (read GrantRow.inFlight fun _ => rfl), ?_, by rw [feeder]⟩
  · rw [read GrantRow.granted fun _ => rfl, read GrantRow.requested fun _ => rfl, read GrantRow.planRequest fun _ => rfl]
    exact h.grants b
  · unfold State.LoadFits
    rw [feeder, grantedLoad_eq (read GrantRow.load fun _ => rfl)]
    exact load

/-- A writer but the FAL leaves the grants. -/
theorem grantsKept_of_outside {s t : State} {k : Writer} (ne : k ≠ .feeder) (outside : t.outside k = s.outside k)
    (h : s.RowsSound) (load : s.LoadFits) : GrantsKept s t := by
  have rows : t.row.map GrantRow.unmarked = s.row.map GrantRow.unmarked := by
    refine eq_of_outside (fun u => u.row.map GrantRow.unmarked) (k := k) (fun u => ?_) outside
    cases k
    case feeder => exact absurd rfl ne
    case lamps =>
      refine Vector.ext fun i hi => ?_
      simp only [State.outside, Vector.getElem_map]
      rfl
    all_goals rfl
  have feeder : t.feeder = s.feeder := by
    refine eq_of_outside State.feeder (k := k) (fun u => ?_) outside
    cases k
    case feeder => exact absurd rfl ne
    all_goals rfl
  refine grantsKept_of_rows (fun b => ?_) feeder h load
  have at_ := congrArg (fun v => bayAt v b) rows
  rw [bayAt_map, bayAt_map] at at_
  exact at_

/-- Every notice but the recomputation keeps the grants. -/
theorem handle_grantsKept {n : Notice} {s : State} (other : n ≠ .falRecompute) (rows : s.RowsSound) (load : s.LoadFits)
    (heaters : s.HeatersFit) (holding : s.HoldingFits) : GrantsKept s (handle n s).1 := by
  by_cases own : n.writer = .feeder
  · cases n <;> simp only [Notice.writer, reduceCtorEq] at own
    case falTake b => exact falTake_kept rows load b (request_fits heaters holding b)
    case falContactor b => exact falContactor_kept rows load b
    case falLost b => exact falLost_kept rows load b
    case falRecovered b => exact falRecovered_kept rows load b
    case falDocked b => exact falDocked_kept rows load b
    case falEmpty b => exact falEmpty_kept rows load b
    case falUndock b => exact falUndock_kept rows load b
    case falRecompute => exact absurd rfl other
    case falResult b n x => exact falResult_kept rows load b n x
    case falSelect => exact selection_kept rows load
  · exact grantsKept_of_outside own (handle_outside n s) rows load

theorem heatersFit_of_outside {s t : State} {k : Writer} (ne : k ≠ .docking) (outside : t.outside k = s.outside k)
    (h : s.HeatersFit) : t.HeatersFit := by
  have dku : t.dku = s.dku := by
    refine eq_of_outside State.dku (k := k) (fun u => ?_) outside
    cases k
    case docking => exact absurd rfl ne
    all_goals rfl
  intro b
  rw [State.dkuAt, dku]
  exact h b

theorem holdingFits_of_outside {s t : State} {k : Writer} (ne : k ≠ .heat) (outside : t.outside k = s.outside k)
    (h : s.HoldingFits) : t.HoldingFits := by
  have hpl : t.hpl = s.hpl := by
    refine eq_of_outside State.hpl (k := k) (fun u => ?_) outside
    cases k
    case heat => exact absurd rfl ne
    all_goals rfl
  intro b
  rw [State.hplAt, hpl]
  exact h b

theorem GrantsSound.taken {n : Notice} {ns : List Notice} {s : State} (h : GrantsSound (n :: ns) s) :
    GrantsSound ((handle n s).2 ++ ns) (handle n s).1 := by
  obtain ⟨rows, load, budget, heaters, holding⟩ := h
  have outside := handle_outside n s
  have unfinished := unfinished_of_outside outside
  have heaters' : (handle n s).1.HeatersFit := by
    by_cases docking : n.writer = .docking
    · exact handle_heatersFit heaters docking
    · exact heatersFit_of_outside docking outside heaters
  have holding' : (handle n s).1.HoldingFits := by
    by_cases heat : n.writer = .heat
    · exact handle_holdingFits heaters holding heat
    · exact holdingFits_of_outside heat outside holding
  by_cases own : n = .falRecompute
  · subst own
    obtain ⟨rows', load'⟩ := falRecompute_rows rows
    exact ⟨rows', load', .inl (falRecompute_stands s), heaters', holding'⟩
  · obtain ⟨rows', load', figures⟩ := handle_grantsKept own rows load heaters holding
    refine ⟨rows', load', ?_, heaters', holding'⟩
    refine budget.imp (budgetStands_of_view (budgetView_of_given (handle_given n s) figures)) fun owed => ?_
    rw [unfinished, List.append_assoc]
    refine List.mem_append_right _ ?_
    rcases List.mem_cons.mp owed with e | rest
    · exact absurd e.symm own
    · exact rest

/-! ## What events begin with -/

theorem Acts.grantsKept {s : State} {k : Writer} {r : Reaction} (acts : Acts s k r) (rows : s.RowsSound) (load : s.LoadFits) :
    GrantsKept s r.1 := by
  by_cases own : k = .feeder
  · cases acts with
    | ramp => exact falRampExpired_kept rows load
    | confirm => exact falConfirmExpired_kept rows load
    | meter b ns => exact falMeter_kept rows load b
    | _ => exact absurd own nofun
  · exact grantsKept_of_outside own acts.outside rows load

theorem Acts.heatersFit {s : State} {k : Writer} {r : Reaction} (acts : Acts s k r) (h : s.HeatersFit) : r.1.HeatersFit := by
  refine heatersFit_of_outside ?_ acts.outside h
  rintro rfl
  cases acts

theorem Acts.holdingFits {s : State} {k : Writer} {r : Reaction} (acts : Acts s k r) (h : s.HoldingFits) : r.1.HoldingFits := by
  by_cases heat : k = .heat
  · cases acts with
    | stale b => exact hplStale_fits h b
    | _ => exact absurd heat nofun
  · exact holdingFits_of_outside heat acts.outside h

/-- A bay's change that leaves whether it counts. -/
theorem counts_modBfe {s : State} {b : BayNo} {f : Bfe → Bfe} (same : (f (s.bfeAt b)).counts = (s.bfeAt b).counts) (c : BayNo) :
    ((s.modBfe b f).bfeAt c).counts = (s.bfeAt c).counts := by
  by_cases e : c = b
  · rw [e, State.modBfe_bfeAt_same, same]
  · rw [State.modBfe_bfeAt_ne _ _ e]

theorem budgetView_modBfe {s : State} {b : BayNo} {f : Bfe → Bfe} (same : (f (s.bfeAt b)).counts = (s.bfeAt b).counts) :
    (s.modBfe b f).budgetView = s.budgetView := by
  simp only [State.budgetView, State.modBfe_settings, State.modBfe_feeder, BudgetView.mk.injEq, and_self, and_true]
  exact funext (counts_modBfe same)

theorem counts_of_disabled {f : Bfe} (h : f.enabled = false) : f.counts = false := by
  unfold Bfe.counts; rw [h]; rfl

/-- An event begins with the budget's figures standing, or with their recomputation handed on. -/
theorem Begins.budget {part : Held} {s : State} {r : Reaction} (begun : Begins s part r) (rows : s.RowsSound) (load : s.LoadFits)
    (h : s.BudgetStands) : r.1.BudgetStands ∨ .falRecompute ∈ r.2 := by
  cases begun with
  | acts acted => exact .inl (budgetStands_of_view (budgetView_of_given acted.given (acted.grantsKept rows load).figures) h)
  | plug b =>
    by_cases enabled : (s.bfeAt b).enabled = true
    · right
      dsimp only
      split
      · simp [plugOutNotices, enabled]
      · simp [plugInNotices, enabled]
    · have off : (s.bfeAt b).enabled = false := by simpa using enabled
      refine .inl (budgetStands_of_view (budgetView_modBfe ?_) h)
      rw [counts_of_disabled off]
      exact counts_of_disabled off
  | trip b =>
    exact .inl (budgetStands_of_view (budgetView_modBfe (f := fun f => { f with tripped := true, overdraw := none }) rfl) h)
  | enable b disabled => exact .inr (by simp [enableNotices])
  | disable b free => exact .inr (by simp [disableNotices])
  | shedLine n => exact .inr (by simp)
  | shed n fits => exact .inr (by simp)
  | setting n v =>
    by_cases budgetSetting : n.val = 0 ∨ n.val = 1 ∨ n.val = 2
    · by_cases same : s.setting n = settingTaken n v
      · left
        have kept : s.putSetting n (settingTaken n v) = s := by
          unfold State.putSetting
          rw [← same]
          unfold State.setting
          simp only [Fin.getElem_fin, Vector.set_getElem_self]
        dsimp only
        rw [kept]
        exact h
      · right
        dsimp only
        rw [if_neg same]
        obtain ⟨n, hn⟩ := n
        rcases budgetSetting with rfl | rfl | rfl <;> simp [settingNotices]
    · left
      have other (m : Fin 17) (ne : m ≠ n) : (s.putSetting n (settingTaken n v)).setting m = s.setting m := by
        unfold State.putSetting State.setting
        simp only [Fin.getElem_fin]
        exact Vector.getElem_set_ne _ _ fun e => ne (Fin.ext e.symm)
      have ne (m : Fin 17) (low : m.val = 0 ∨ m.val = 1 ∨ m.val = 2) : m ≠ n := fun e => budgetSetting (e ▸ low)
      obtain ⟨plugged, base, budget⟩ := h
      refine ⟨plugged, base.trans ?_, budget.trans ?_⟩
      · unfold State.baseBudget
        rw [other 0 (ne 0 (.inl rfl)), other 1 (ne 1 (.inr (.inl rfl)))]
        rfl
      · unfold State.heatBudget
        rw [other 2 (ne 2 (.inr (.inr rfl)))]
        rfl
  | hold b h' fits => exact .inl h
  | _ => exact .inl h

theorem Begins.grantsSound {part : Held} {s : State} {r : Reaction} (begun : Begins s part r) (h : GrantsSound [] s) :
    GrantsSound r.2 r.1 := by
  obtain ⟨rows, load, budget, heaters, holding⟩ := h
  have unfinished : r.1.unfinished = s.unfinished := by
    cases begun with
    | acts acted => exact unfinished_of_outside acted.outside
    | _ => rfl
  have budget' : r.1.BudgetStands ∨ .falRecompute ∈ r.2 ++ r.1.unfinished := by
    rcases budget with stands | owed
    · exact (begun.budget rows load stands).imp_right (List.mem_append_left _)
    · exact .inr (List.mem_append_right _ (unfinished ▸ owed))
  cases begun with
  | acts acted =>
    obtain ⟨rows', load', -⟩ := acted.grantsKept rows load
    exact ⟨rows', load', budget', acted.heatersFit heaters, acted.holdingFits holding⟩
  | shed n fits => exact ⟨⟨rows.grants, rows.opened, rows.closed, rows.inFlight⟩, load, budget', heaters, holding⟩
  | shedLine n => exact ⟨⟨rows.grants, rows.opened, rows.closed, rows.inFlight⟩, load, budget', heaters, holding⟩
  | _ => exact ⟨⟨rows.grants, rows.opened, rows.closed, rows.inFlight⟩, load, budget', heaters, holding⟩

/-! ## Timers and resets -/

theorem countDown_eq_none (t : Timer) : countDown t = none ↔ t = none := by cases t <;> simp [countDown]

theorem StageUp.tick_bay (u : StageUp) : u.tick.bay = u.bay := by
  unfold StageUp.tick; split <;> rfl

theorem tickTimers_grantsSound {s : State} (h : GrantsSound [] s) : GrantsSound [] (tickTimers s) := by
  obtain ⟨rows, load, budget, heaters, holding⟩ := h
  have row (b : BayNo) : (tickTimers s).rowAt b = s.rowAt b :=
    tickTimers_keeps (State.rowAt · b) (fun _ => by simp [tickHall]) (fun _ _ => rfl) s
  have dku (b : BayNo) : (tickTimers s).dkuAt b = s.dkuAt b :=
    tickTimers_keeps (State.dkuAt · b) (fun _ => by simp [tickHall]) (fun _ _ => rfl) s
  have settings : (tickTimers s).settings = s.settings := tickTimers_keeps State.settings (fun _ => by simp [tickHall]) (fun _ _ => rfl) s
  have stageUp : (tickTimers s).feeder.stageUp = s.feeder.stageUp.map StageUp.tick := by rw [tickTimers_feeder]; rfl
  have ramp : (tickTimers s).feeder.ramp = countDown s.feeder.ramp := by rw [tickTimers_feeder]; rfl
  have gate : (tickTimers s).feeder.gateOpen = s.feeder.gateOpen := by rw [tickTimers_feeder]; rfl
  have loads : (tickTimers s).grantedLoad = s.grantedLoad := grantedLoad_eq fun b => by rw [row]
  have view : (tickTimers s).budgetView = s.budgetView := by
    have counts (b : BayNo) : ((tickTimers s).bfeAt b).counts = (s.bfeAt b).counts := by rw [tickTimers_bfeAt]; rfl
    unfold State.budgetView
    simp only [settings, tickTimers_feeder, counts]
    rfl
  have plan (b : BayNo) : ((tickTimers s).hplAt b).plan = (s.hplAt b).plan := by rw [tickTimers_hplAt]; rfl
  refine ⟨⟨fun b => ?_, fun opened => ?_, fun closed => ?_, fun b => ?_⟩, ?_, ?_, fun b => ?_, fun b => ?_⟩
  · rw [row]; exact rows.grants b
  · rw [gate] at opened
    obtain ⟨stopped, idle⟩ := rows.opened opened
    rw [ramp, stageUp, stopped, idle]
    exact ⟨rfl, rfl⟩
  · rw [gate] at closed
    rw [ramp, stageUp, countDown_eq_none, rows.closed closed]
    cases s.feeder.stageUp <;> simp
  · rw [row, stageUp, rows.inFlight]
    cases s.feeder.stageUp with
    | none => exact iff_of_false (fun ⟨_, e, _⟩ => nomatch e) (fun ⟨_, e, _⟩ => nomatch e)
    | some u => simp [StageUp.tick_bay]
  · unfold State.LoadFits
    rw [loads, tickTimers_feeder]
    exact load
  · rw [List.nil_append, tickTimers_unfinished]
    exact budget.imp_left (budgetStands_of_view view)
  · rw [dku]; exact heaters b
  · rw [plan]; exact holding b

/-- A row's grant, its two requests and its mark. -/
def GrantRow.asks (r : GrantRow) : Nat × Nat × Nat × Bool := (r.granted, r.requested, r.planRequest, r.inFlight)

/-- A state without grants, its gate open or its ramp timer running. -/
theorem rowsSound_of_empty {s : State} (rows : ∀ b, (s.rowAt b).asks = (0, 0, 0, false)) (idle : s.feeder.stageUp = none) (gate : s.feeder.gateOpen = s.feeder.ramp.isNone) :
    s.RowsSound ∧ s.LoadFits := by
  have row (b : BayNo) := rows b
  simp only [GrantRow.asks, Prod.mk.injEq] at row
  refine ⟨⟨fun b => ?_, fun opened => ?_, fun closed => ?_, fun b => ?_⟩, ?_⟩
  · obtain ⟨granted, requested, plan, -⟩ := row b
    rw [granted, requested, plan]
    decide
  · rw [gate] at opened
    exact ⟨Option.isNone_iff_eq_none.mp opened, idle⟩
  · rw [gate] at closed
    refine iff_of_false (fun stopped => ?_) (fun ne => ne idle)
    rw [stopped] at closed; cases closed
  · rw [(row b).2.2.2, idle]
    exact iff_of_false nofun (fun ⟨_, e, _⟩ => nomatch e)
  · have none' : s.grantedLoad = State.reset.grantedLoad := grantedLoad_eq fun b => by
      rw [reset_rowAt, GrantRow.load, (row b).1, Nat.zero_mul]; rfl
    unfold State.LoadFits
    rw [none', show State.reset.grantedLoad = 0 by decide +kernel]
    exact Nat.zero_le _

theorem poweredOn_grantsSound (s : State) : GrantsSound [] (poweredOn s) := by
  have row (b : BayNo) : (poweredOn s).rowAt b = .reset := (poweredOn_get (State.rowAt · b) (fun _ _ _ => rfl) s).trans (reset_rowAt b)
  have dku (b : BayNo) : (poweredOn s).dkuAt b = .reset := (poweredOn_get (State.dkuAt · b) (fun _ _ _ => rfl) s).trans (reset_dkuAt b)
  have hpl (b : BayNo) : (poweredOn s).hplAt b = .reset := (poweredOn_get (State.hplAt · b) (fun _ _ _ => rfl) s).trans (reset_hplAt b)
  have feeder : (poweredOn s).feeder = .reset := poweredOn_get State.feeder (fun _ _ _ => rfl) s
  have settings : (poweredOn s).settings = State.reset.settings := poweredOn_get State.settings (fun _ _ _ => rfl) s
  obtain ⟨rows, load⟩ := rowsSound_of_empty (s := poweredOn s) (fun b => by rw [row]; rfl) (by rw [feeder]; rfl) (by rw [feeder]; rfl)
  refine ⟨rows, load, .inl (budgetStands_of_view (s := State.reset) ?_ ⟨by decide, by decide, by decide⟩), fun b => ?_, fun b => ?_⟩
  · have counts (b : BayNo) : ((poweredOn s).bfeAt b).counts = (State.reset.bfeAt b).counts := by
      rw [poweredOn_bfeAt, reset_bfeAt]; rfl
    unfold State.budgetView
    simp only [settings, feeder, counts]
    rfl
  · rw [dku]; exact heaterFits_none rfl
  · rw [hpl]; exact Nat.zero_le _

/-- What an event leaves over stands until the next idle step. -/
theorem perform_unfinished {n : Notice} {r : Reaction} (h : n ∈ r.1.unfinished) : n ∈ (perform r).unfinished := by
  have kept : KeptByNotices (fun _ s => n ∈ s.unfinished) := by
    refine ⟨fun m ns s h => ?_, fun ns s h => List.mem_append_left _ h⟩
    rw [unfinished_of_outside (handle_outside m s)]
    exact h
  exact kept.perform h

theorem restartOrder_unfinished (s : State) : (restartOrder s).unfinished = s.unfinished := rfl

theorem reattend_unfinished (s : State) : s.reattend.unfinished = s.unfinished := rfl

theorem submitRead_fits {s : State} (h : s.HeatersFit) (b : BayNo) (r : BayRequest) : (dkuSubmit b r s).1.HeatersFit :=
  modDku_fits_same (s := s.modClc b (fun c => c.submitRead r)) h b
    (fun d => { d with read := some (r, (s.clcAt b).takesRead) }) rfl

theorem restarted_unfinished {n : Notice} {s : State} (h : n ∈ s.unfinished) : n ∈ (restarted s).unfinished := by
  have core : n ∈ (restartOrder (restartCore s)).unfinished := by
    rw [restartOrder_unfinished, (restartCore_sameClearances s).unfinished]
    exact h
  have released : n ∈ (restartReleased s).unfinished := by
    refine forBays_preserves (P := fun t => n ∈ t.unfinished) (fun b t h => ?_) core
    unfold restartClearing
    split
    · refine perform_unfinished ?_
      rw [unfinished_of_outside (k := .clearance) (laneReleaseOf_outside b _)]
      exact h
    · exact h
  have blocks : n ∈ (restartBlocks s).unfinished := by
    rw [restartBlocks_eq]
    refine forBays_preserves (P := fun t => n ∈ t.unfinished) (fun b t h => ?_) released
    unfold restartClearance
    dsimp only
    split <;> exact h
  have docked : n ∈ (restartDocked s).unfinished := by
    refine forBays_preserves (P := fun t => n ∈ t.unfinished) (fun b t h => ?_) blocks
    unfold restartDocking
    split <;> exact h
  have flagged : n ∈ (restartAllFlags (restartDocked s)).unfinished := by
    rw [(restartAllFlags_sameClearances _).unfinished]
    exact docked
  have same : (restarted s).unfinished = (restartHeld s).unfinished :=
    (congrArg State.unfinished (restarted_eq s)).trans (reattend_unfinished _)
  rw [same]
  unfold restartHeld
  refine forBays_preserves (P := fun t => n ∈ t.unfinished) (fun b t h => ?_) flagged
  rw [restartHolds_eq]
  refine perform_unfinished ?_
  rw [unfinished_of_outside (k := .holds) (rederive_outside b _)]
  exact h

/-- A bay's profile after a RESTART: empty, its docking perhaps begun. -/
theorem restarted_heaterFits (s : State) (b : BayNo) : ((restarted s).dkuAt b).profile.HeaterFits := by
  have before (c : BayNo) : ((restartBlocks s).dkuAt c).profile.HeaterFits := by
    have same : (restartBlocks s).dku = (restartCore s).dku := eq_of_blocks State.dku (fun _ => rfl) (restartBlocks_calm s).2
    rw [State.dkuAt, same, ← State.dkuAt, restartCore_dkuAt]
    exact heaterFits_none rfl
  rw [State.dkuAt, restarted_dku, ← State.dkuAt]
  unfold restartDocked
  refine forBays_preserves (P := fun t => ∀ c, (t.dkuAt c).profile.HeaterFits) (fun b t h c => ?_) before b
  unfold restartDocking
  split
  · refine submitRead_fits ?_ b .ident c
    exact modDku_fits h b (fun _ => { Dku.reset with state := .probing }) (heaterFits_none rfl)
  · exact h c

theorem restarted_grantsSound {s : State} (h : GrantsSound [] s) : GrantsSound [] (restarted s) := by
  have feeder := (restarted_feeder s).trans (restartCore_feeder s)
  have row (b : BayNo) : ((restarted s).rowAt b) =
      { ((forBays restartLink s).rowAt b).emptied with quiet := false, inFlight := false } := by
    rw [State.rowAt, restarted_row, ← State.rowAt, restartCore_rowAt]
  generalize forBays restartLink s = linked at row
  have hpl (b : BayNo) : (restarted s).hplAt b = .reset := by
    rw [State.hplAt, restarted_hpl, ← State.hplAt, restartCore_hplAt]
  have given := restarted_given s
  have settings : (restarted s).settings = s.settings := settings_of_given given
  have count : (restarted s).countPlugged = s.countPlugged := countPlugged_eq (counts_of_given given)
  obtain ⟨rows, load⟩ := rowsSound_of_empty (s := restarted s) (fun b => (congrArg GrantRow.asks (row b)).trans rfl)
    (congrArg Feeder.stageUp feeder) ((congrArg Feeder.gateOpen feeder).trans (congrArg (fun f => f.ramp.isNone) feeder).symm)
  refine ⟨rows, load, ?_, fun b => ?_, fun b => ?_⟩
  · refine h.budget.imp (fun stands => ?_) fun owed =>
      List.mem_append_right [] (restarted_unfinished (by simpa only [List.nil_append] using owed))
    obtain ⟨plugged, -, -⟩ := stands
    unfold State.BudgetStands State.baseBudget State.heatBudget State.setting
    rw [feeder, settings, count]
    exact ⟨plugged, rfl, rfl⟩
  · exact restarted_heaterFits s b
  · rw [hpl]; exact Nat.zero_le _

/-- What the grants read stands. -/
def State.grantsView (s : State) : Vector GrantRow 16 × Feeder × Vector Nat 17 × Vector Dku 16 × Vector Hpl 16 :=
  (s.row, s.feeder, s.settings, s.dku, s.hpl)

theorem GrantsSound.of_view {s t : State} {ns ns' : List Notice} (h : GrantsSound ns s) (view : t.grantsView = s.grantsView)
    (counts : ∀ b, (t.bfeAt b).counts = (s.bfeAt b).counts)
    (owed : .falRecompute ∈ ns ++ s.unfinished → .falRecompute ∈ ns' ++ t.unfinished) : GrantsSound ns' t := by
  simp only [State.grantsView, Prod.mk.injEq] at view
  obtain ⟨row, feeder, settings, dku, hpl⟩ := view
  obtain ⟨rows', load', -⟩ := grantsKept_of_rows (t := t) (fun b => by rw [State.rowAt, row]; rfl) feeder h.rows h.load
  refine ⟨rows', load', h.budget.imp (budgetStands_of_view ?_) owed, fun b => ?_, fun b => ?_⟩
  · simp only [State.budgetView, feeder, settings, counts]
  · rw [State.dkuAt, dku]; exact h.heaters b
  · rw [State.hplAt, hpl]; exact h.holding b

theorem grantsSound_kept : KeptBySteps GrantsSound where
  taken _ _ _ h := h.taken
  leftOver ns s h := h.of_view rfl (fun _ => rfl) fun owed => by simpa [or_comm] using owed
  begins begun h := begun.grantsSound h
  carriedOn s h := h.of_view rfl (fun _ => rfl) fun owed => by simpa using owed
  timers _ h := tickTimers_grantsSound h
  senses b f s only h := by
    obtain ⟨enabled, plug, -⟩ := steady_lines only
    refine h.of_view (t := s.modBfe b f) rfl (counts_modBfe ?_) fun owed => owed
    unfold Bfe.counts
    rw [enabled, plug]
  inputs _ _ h := h.of_view rfl (fun _ => rfl) fun owed => owed
  queue _ _ h := h.of_view rfl (fun _ => rfl) fun owed => owed
  reply _ _ _ h := h.of_view rfl (fun _ => rfl) fun owed => owed
  receiver _ _ _ h := h.of_view rfl (fun _ => rfl) fun owed => owed
  freed _ _ h := h.of_view rfl (fun _ => rfl) fun owed => owed
  raisesHall _ _ _ h := h.of_view rfl (fun _ => rfl) fun owed => owed
  fetched _ h := h.of_view rfl (fun _ => rfl) fun owed => owed
  masked _ _ h := h.of_view rfl (fun _ => rfl) fun owed => owed
  restarted _ h := restarted_grantsSound h
  poweredOn := poweredOn_grantsSound

/-! ## Settled -/

theorem forcedRemoval_granted_le (s : State) (b : BayNo) : ((forcedRemoval s).rowAt b).granted ≤ (s.rowAt b).granted := by
  rw [forcedRemoval_eq, removed_granted]
  exact Nat.sub_le ..

/-- Settles O41: the grants are kept notice by notice, and forced removal is the removal of what the excess takes from the
lowest rows up. -/
theorem forcedRemovalFitsTheBudget : Obligations.ForcedRemovalFitsTheBudget := by
  refine ⟨fun s t h stepped => feederSound_iff.mpr (grantsSound_kept.step (feederSound_iff.mp h) stepped), fun s => ?_, fun s => ?_⟩
  · refine ⟨forcedRemoval_fits s, ?_, forcedRemoval_granted_le s⟩
    rw [forcedRemoval_eq, removed_budget]
  · refine ⟨s.forced, fun x => taken_le .., ?_, fun lower x higher split gives => forced_needed s split gives, fun idle => ?_,
      fun u inFlight => ?_⟩
    · have total := loadUnder_taken_allBays s.rowAt (lowestFirst_nodup s) (s.grantedLoad - s.feeder.budget)
      exact Nat.le_trans (forced_covers s) (Nat.add_le_add_left (Nat.le_of_eq total.symm) _)
    · rw [forcedRemoval_eq, removed_of_none idle]
      rfl
    · rw [forcedRemoval_eq, removed_of_some inFlight]
      rfl

end Sys2Proof.Machine
end

section
/-! O42 (R101, R102, R104, R106 to R120): what a selection picks, and each notice of the FAL in terms of the row. -/

namespace Sys2Proof.Machine

/-! ## The pick -/

theorem candidate_iff (s : State) (b : BayNo) : s.candidate b = true ↔
    (s.rowAt b).granted < (s.rowAt b).requested ∧ (s.rowAt b).quiet = false ∧ (s.rowAt b).linkHeldLost = false ∧
      (s.clcAt b).link = .active ∧ (s.bfeAt b).contactor = true := by
  simp only [State.candidate, Bool.and_eq_true, decide_eq_true_eq, Bool.not_eq_true', beq_iff_eq, and_assoc]

theorem fits_iff (s : State) (b : BayNo) : s.fits b = true ↔ s.grantedLoad + (s.rowAt b).power ≤ s.feeder.budget :=
  decide_eq_true_iff

/-- Without a candidate nothing is selected. -/
theorem selection_of_none {s : State} (gate : s.feeder.gateOpen = true) (none' : ∀ b ∈ s.ranked, ¬ s.candidate b = true) :
    selection s = s := by
  have empty : s.ranked.filter s.candidate = [] := List.filter_eq_nil_iff.mpr none'
  unfold selection
  rw [if_pos gate, empty]
  rfl

section Picked

variable {s : State} (gate : s.feeder.gateOpen = true) {before after : List BayNo} {b : BayNo}
  (ranks : s.ranked = before ++ b :: after) (candidate : s.candidate b = true)
include gate ranks candidate

/-- The first candidate in rank order that fits is committed. -/
theorem selection_of_fit (above : ∀ x ∈ before, s.candidate x = true → ¬ s.fits x = true) (fits : s.fits b = true) :
    selection s = commitStageUp b s := by
  have found : (s.ranked.filter s.candidate).find? s.fits = some b := by
    rw [ranks, List.filter_append, List.filter_cons_of_pos candidate]
    refine List.find?_eq_some_iff_append.mpr ⟨fits, _, _, rfl, fun x m => ?_⟩
    obtain ⟨mem, asks⟩ := List.mem_filter.mp m
    simpa using above x mem asks
  unfold selection
  rw [if_pos gate]
  dsimp only
  rw [found]

/-- With no candidate that fits the highest-ranked one claims. -/
theorem selection_of_claim (first : ∀ x ∈ before, ¬ s.candidate x = true)
    (noFit : ∀ x ∈ s.ranked, s.candidate x = true → ¬ s.fits x = true) : selection s = preempt b s := by
  have none' : (s.ranked.filter s.candidate).find? s.fits = none := by
    refine List.find?_eq_none.mpr fun x m => ?_
    obtain ⟨mem, asks⟩ := List.mem_filter.mp m
    exact noFit x mem asks
  have head : s.ranked.filter s.candidate = b :: after.filter s.candidate := by
    rw [ranks, List.filter_append, List.filter_cons_of_pos candidate, List.filter_eq_nil_iff.mpr first, List.nil_append]
  unfold selection
  rw [if_pos gate]
  dsimp only
  rw [none', head]

end Picked

/-- A committed stage-up where the claimant's row and meter are as in another state. -/
theorem commitStageUp_of_same {s t : State} {b : BayNo} (granted : (t.rowAt b).granted = (s.rowAt b).granted)
    (bfe : t.bfeAt b = s.bfeAt b) : commitStageUp b t =
    ((t.modRow b (fun r => { r with
        granted := (s.rowAt b).granted + 1, inFlight := true, commanded := (s.rowAt b).granted + 1 })).modClc b (fun c =>
      c.submitHeat ((s.rowAt b).granted + 1))).modFeeder (fun f => { f with
        gateOpen := false, stageUp := some ⟨b, (s.rowAt b).granted + 1, (s.bfeAt b).shorePower, .awaitingReply⟩ }) := by
  rw [commitStageUp_eq, granted, bfe]

theorem claimed_own {s : State} {b : BayNo} (ranked : b ∈ s.ranked) : s.claimed b b = 0 :=
  taken_of_not_mem _ _ fun m => (lower_spec ranked).2 (List.mem_reverse.mp m)

theorem removed_bfeAt (k : BayNo → Nat) (s : State) (b : BayNo) : (removed k s).bfeAt b = s.bfeAt b := by
  rw [← cutRows_keeps (State.bfeAt · b) (fun _ _ _ => rfl) (fun _ _ _ => rfl) k s]
  unfold removed
  split
  · rfl
  · split <;> rfl

/-- What a selection that does something leaves: a CLOSED gate and one stage-up that awaits its reply. -/
theorem selection_commits {s : State} (ne : selection s ≠ s) : (selection s).feeder.gateOpen = false ∧
    ∃ u, (selection s).feeder.stageUp = some u ∧ ((selection s).rowAt u.bay).granted = (s.rowAt u.bay).granted + 1 ∧
      u.count = (s.rowAt u.bay).granted + 1 ∧ u.reference = (s.bfeAt u.bay).shorePower ∧ u.phase = .awaitingReply := by
  have committed (b : BayNo) (t : State) (granted : (t.rowAt b).granted = (s.rowAt b).granted) (bfe : t.bfeAt b = s.bfeAt b) :
      (commitStageUp b t).feeder.gateOpen = false ∧
      ∃ u, (commitStageUp b t).feeder.stageUp = some u ∧ ((commitStageUp b t).rowAt u.bay).granted = (s.rowAt u.bay).granted + 1 ∧
      u.count = (s.rowAt u.bay).granted + 1 ∧ u.reference = (s.bfeAt u.bay).shorePower ∧ u.phase = .awaitingReply := by
    refine ⟨rfl, _, rfl, ?_, ?_, ?_, rfl⟩
    · rw [commitStageUp_rowAt_same, granted]
    · rw [granted]
    · rw [← bfe]
  rcases selection_cases s with e | ⟨-, b, ranked, -, ⟨-, e⟩ | e⟩
  · exact absurd e ne
  · rw [e]; exact committed b s rfl rfl
  · rw [preempt_eq ranked] at e
    split at e
    · exact absurd e ne
    · rw [e]
      exact committed b _ (by rw [removed_granted, claimed_own ranked]; rfl) (removed_bfeAt ..)

/-- What a claimant takes, from the lowest row up and just as much as it needs (R113). -/
theorem claimed_spec {s : State} {b : BayNo} (ranked : b ∈ s.ranked) (enough : ¬ s.loadOf (s.lower b) < s.lacks b) :
    (∀ x, x ∉ s.lower b → s.claimed b x = 0) ∧ (∀ x, s.claimed b x ≤ (s.rowAt x).granted) ∧
      s.grantedLoad + (s.rowAt b).power ≤ s.feeder.budget + loadUnder s.rowAt (s.claimed b) (s.lower b) ∧
      ∀ higher x lowest, s.lower b = higher ++ x :: lowest → s.claimed b x ≠ 0 →
        (∀ y ∈ lowest, s.claimed b y = (s.rowAt y).granted) ∧
        s.feeder.budget + loadUnder s.rowAt (fun x => (s.rowAt x).granted) lowest +
          (s.claimed b x - 1) * (s.rowAt x).power < s.grantedLoad + (s.rowAt b).power := by
  have nodup := (List.reverse_perm _).nodup_iff.mpr (lower_spec ranked).1
  refine ⟨fun x out => taken_of_not_mem _ _ (mt List.mem_reverse.mp out), fun x => taken_le .., ?_, fun higher x lowest split gives => ?_⟩
  · have covers := claimed_covers ranked enough
    have left := removed_grantedLoad nodup (s.lacks b) s
    have turned := loadUnder_perm s.rowAt (s.claimed b) (List.reverse_perm (s.lower b))
    unfold State.claimed at *
    omega
  · have turned : (s.lower b).reverse = lowest.reverse ++ x :: higher.reverse := by
      rw [split]; simp
    obtain ⟨all, bound⟩ := taken_needed s.rowAt nodup (s.lacks b) turned gives
    have all' : ∀ y ∈ lowest, s.claimed b y = (s.rowAt y).granted := fun y m => all y (List.mem_reverse.mpr m)
    refine ⟨all', ?_⟩
    rw [loadUnder_perm s.rowAt _ (List.reverse_perm lowest)] at bound
    rw [← loadUnder_congr s.rowAt all']
    unfold State.claimed State.lacks at *
    omega

/-! ## The notices -/

/-- The row's STAGE request submitted and its count recorded. -/
def stage (b : BayNo) (n : Nat) (t : State) : State :=
  (t.modRow b (fun r => { r with commanded := n })).modClc b (fun c => c.submitHeat n)

theorem submitStage_eq (b : BayNo) (n : Nat) (s : State) : submitStage b n s = stage b n s := rfl

theorem cancelStageUp_eq (b : BayNo) (s : State) :
    cancelStageUp b s = if s.feeder.stageUp.map StageUp.bay = some b then endStageUp b s else s := by
  unfold cancelStageUp State.stageUpOf
  cases s.feeder.stageUp <;> simp

theorem cancelStageUp_granted (b : BayNo) (s : State) : ((cancelStageUp b s).rowAt b).granted = (s.rowAt b).granted := by
  unfold cancelStageUp
  split
  · exact (endStageUp_stagesToTake b b s 0).2.2
  · rfl

/-- What R106 makes of a row that has changed: the new requested stages, a cut, or a selection. -/
def rowTaken (b : BayNo) (s : State) (q : GrantRow) : Reaction :=
  let n := if q.linkHeldLost = true ∨ (s.bfeAt b).contactor = false ∨ (s.bfeAt b).enabled = false then 0 else q.planRequest
  if n < (s.rowAt b).granted then
    (stage b n (if s.feeder.stageUp.map StageUp.bay = some b
        then endStageUp b (s.modRow b (fun _ => { q with requested := n, granted := n }))
        else s.modRow b (fun _ => { q with requested := n, granted := n })),
      (if (s.rowAt b).quiet = true then [.lcsRemoved b] else []) ++ [Notice.falSelect])
  else (s.modRow b (fun _ => { q with requested := n }), if (s.rowAt b).requested < n then [.falSelect] else [])

theorem setRequested_eq (b : BayNo) (s : State) (q : GrantRow) (granted : q.granted = (s.rowAt b).granted)
    (requested : q.requested = (s.rowAt b).requested) (quiet : q.quiet = (s.rowAt b).quiet) :
    setRequested b (s.modRow b (fun _ => q)) = rowTaken b s q := by
  have effective : (s.modRow b (fun _ => q)).effectiveRequest b =
      if q.linkHeldLost = true ∨ (s.bfeAt b).contactor = false ∨ (s.bfeAt b).enabled = false then 0 else q.planRequest := by
    unfold State.effectiveRequest
    rw [State.modRow_rowAt_same, State.modRow_bfeAt]
    simp only [Bool.or_eq_true, Bool.not_eq_true', or_assoc]
  unfold setRequested rowTaken
  dsimp only
  rw [effective, State.modRow_rowAt_same, modRow_modRow]
  generalize (if q.linkHeldLost = true ∨ (s.bfeAt b).contactor = false ∨ (s.bfeAt b).enabled = false then 0 else q.planRequest) = n
  rw [granted, requested]
  split
  · unfold cutGrant
    dsimp only
    rw [cancelStageUp_granted, modRow_modRow, State.modRow_rowAt_same, State.modRow_rowAt_same, cancelStageUp_eq, submitStage_eq, quiet]
    rfl
  · split <;> rfl

theorem rowClass_eq (p : Plan) : p.rowClass = if p.state = .heating then .heating else if p.state = .holding then .holding else .none := by
  unfold Plan.rowClass
  cases p.state <;> rfl

theorem rowClass_runs (p : Plan) :
    (if p.state = .heating then RowClass.heating else if p.state = .holding then .holding else .none) ≠ .none ↔
      p.state = .heating ∨ p.state = .holding := by
  cases p.state <;> decide

theorem request_eq (p : Plan) (heater : Option (Nat × Nat)) : p.request heater =
    if p.state = .heating then match heater with | some h => h.1 | none => 0
    else if p.state = .holding then p.holdingStages else 0 := by
  unfold Plan.request
  cases p.state <;> rfl

theorem modRow_const (s : State) (b : BayNo) (f : GrantRow → GrantRow) : s.modRow b f = s.modRow b (fun _ => f (s.rowAt b)) := rfl

theorem modRow_own (s : State) (b : BayNo) : s.modRow b (fun _ => s.rowAt b) = s := by
  unfold State.modRow State.rowAt
  rw [bayPut_bayAt]

theorem handle_falTake (b : BayNo) (s : State) : handle (.falTake b) s = rowTaken b s { s.rowAt b with
    cls := (s.hplAt b).plan.rowClass
    rankKey := (s.hplAt b).plan.scheduled
    planRequest := (s.hplAt b).plan.request (s.dkuAt b).profile.heater
    failures := if (s.rowAt b).failures = 2 ∧ (s.hplAt b).plan.rowClass ≠ .none then 0 else (s.rowAt b).failures } :=
  (congrArg (setRequested b) (modRow_const s b _)).trans (setRequested_eq b s _ rfl rfl rfl)

theorem handle_falContactor (b : BayNo) (s : State) : handle (.falContactor b) s = rowTaken b s (s.rowAt b) :=
  (congrArg (setRequested b) (modRow_own s b).symm).trans (setRequested_eq b s _ rfl rfl rfl)

/-- The cut and the selection of a lost link. -/
theorem setRequested_linkHeldLost (b : BayNo) (x : Bool) (s : State) :
    setRequested b (s.modRow b (fun r => { r with linkHeldLost := x })) = rowTaken b s { s.rowAt b with linkHeldLost := x } :=
  (congrArg (setRequested b) (modRow_const s b _)).trans (setRequested_eq b s _ rfl rfl rfl)

theorem handle_falLost (b : BayNo) (s : State) : handle (.falLost b) s =
    if (s.rowAt b).granted = 0 then
      (stage b 0 (rowTaken b s { s.rowAt b with linkHeldLost := true }).1, (rowTaken b s { s.rowAt b with linkHeldLost := true }).2)
    else rowTaken b s { s.rowAt b with linkHeldLost := true } := by
  show falLost b s = _
  unfold falLost
  rw [setRequested_linkHeldLost]
  rfl

theorem handle_falRecovered (b : BayNo) (s : State) : handle (.falRecovered b) s =
    ((rowTaken b s { s.rowAt b with linkHeldLost := false }).1,
      (rowTaken b s { s.rowAt b with linkHeldLost := false }).2 ++ [.falSelect]) := by
  show (setRequested b _).also [.falSelect] = _
  rw [setRequested_linkHeldLost]
  rfl

/-- The row emptied, a standing grant cut first (R120). -/
def rowEmptied (b : BayNo) (s : State) : Reaction :=
  if (s.rowAt b).granted = 0 then (s.modRow b GrantRow.emptied, [])
  else ((stage b 0 (if s.feeder.stageUp.map StageUp.bay = some b
      then endStageUp b (s.modRow b (fun r => { r with requested := 0, granted := 0 }))
      else s.modRow b (fun r => { r with requested := 0, granted := 0 }))).modRow b GrantRow.emptied,
    (if (s.rowAt b).quiet = true then [.lcsRemoved b] else []) ++ [Notice.falSelect])

theorem falEmpty_eq (b : BayNo) (s : State) : falEmpty b s = rowEmptied b s := by
  unfold falEmpty rowEmptied cutGrant
  dsimp only
  rw [cancelStageUp_granted, modRow_modRow, State.modRow_rowAt_same, State.modRow_rowAt_same, cancelStageUp_eq, submitStage_eq]
  rfl

theorem takeHighest_link (c : Clc) : c.takeHighest.link = c.link := by
  unfold Clc.takeHighest
  split <;> rfl

theorem arbitrate_link (c : Clc) : c.arbitrate.link = c.link := by
  unfold Clc.arbitrate
  split
  · exact takeHighest_link c
  all_goals rfl

theorem submitHeat_link (c : Clc) (n : Nat) : (c.submitHeat n).link = c.link := by
  unfold Clc.submitHeat
  split
  · rfl
  all_goals exact arbitrate_link _

theorem rowEmptied_link (b : BayNo) (s : State) : ((rowEmptied b s).1.clcAt b).link = (s.clcAt b).link := by
  unfold rowEmptied stage
  split
  · rfl
  · rw [State.modRow_clcAt, State.modClc_clcAt_same, submitHeat_link, State.modRow_clcAt]
    split
    · rw [endStageUp_eq]; rfl
    · rfl

theorem carriesStageZero_iff (c : Clc) :
    c.carriesStageZero = true ↔ c.heatSlot = some 0 ∨ c.inflight.map InFlight.request = some (.stage 0) := by
  unfold Clc.carriesStageZero
  cases c.inflight <;> simp

theorem handle_falUndock (b : BayNo) (s : State) : handle (.falUndock b) s =
    if (s.clcAt b).link = .down ∨ ((rowEmptied b s).1.clcAt b).heatSlot = some 0 ∨
        ((rowEmptied b s).1.clcAt b).inflight.map InFlight.request = some (.stage 0)
    then rowEmptied b s else (stage b 0 (rowEmptied b s).1, (rowEmptied b s).2) := by
  show falUndock b s = _
  unfold falUndock
  rw [falEmpty_eq]
  dsimp only
  simp only [carriesStageZero_iff, rowEmptied_link]
  rfl

/-- A recomputation's reports: the quiet rows that lost a stage, in bay order (R108; log 38). -/
theorem removalReports_eq (s t : State) : removalReports t (changedGrants s t) =
    (allBays.filter (fun b => (t.rowAt b).quiet && (s.rowAt b).granted != (t.rowAt b).granted)).map .lcsRemoved := by
  unfold removalReports changedGrants
  rw [List.filter_filter]

/-! ## The selection's statement, clause by clause -/

theorem selection_budget (s : State) : (selection s).feeder.budget = s.feeder.budget := by
  rcases selection_cases s with e | ⟨-, b, ranked, -, ⟨-, e⟩ | e⟩
  · rw [e]
  · rw [e]; rfl
  · rw [e, preempt_eq ranked]
    split
    · rfl
    · exact removed_budget (s.claimed b) s

theorem selection_of_closed {s : State} (closed : s.feeder.gateOpen = false) : selection s = s := by
  unfold selection
  rw [if_neg (by rw [closed]; exact Bool.false_ne_true)]

section Claims

variable {s : State} (gate : s.feeder.gateOpen = true) {before after : List BayNo} {b : BayNo}
  (ranks : s.ranked = before ++ b :: after) (candidate : s.candidate b = true)
  (first : ∀ x ∈ before, ¬ s.candidate x = true) (noFit : ∀ x ∈ s.ranked, s.candidate x = true → ¬ s.fits x = true)
include gate ranks candidate first noFit

/-- Nothing is done where the removable stages are not enough (R113). -/
theorem selection_of_lacking
    (lacking : s.feeder.budget + loadUnder s.rowAt (fun x => (s.rowAt x).granted) (s.lower b) < s.grantedLoad + (s.rowAt b).power) :
    selection s = s := by
  rw [selection_of_claim gate ranks candidate first noFit, preempt_eq (ranks ▸ List.mem_append_right _ List.mem_cons_self),
    if_pos]
  rw [loadOf_eq]
  unfold State.lacks
  omega

/-- The claimant's stage-up, committed after just the stages that it needs have gone (R113, R114). -/
theorem selection_of_preemption
    (enough : s.grantedLoad + (s.rowAt b).power ≤ s.feeder.budget + loadUnder s.rowAt (fun x => (s.rowAt x).granted) (s.lower b))
    (idle : s.feeder.stageUp = none) :
    (¬ s.loadOf (s.lower b) < s.lacks b) ∧ selection s =
      (((cutRows (s.claimed b) s).modRow b (fun r => { r with
          granted := (s.rowAt b).granted + 1, inFlight := true, commanded := (s.rowAt b).granted + 1 })).modClc b (fun c =>
        c.submitHeat ((s.rowAt b).granted + 1))).modFeeder (fun f => { f with
          gateOpen := false, stageUp := some ⟨b, (s.rowAt b).granted + 1, (s.bfeAt b).shorePower, .awaitingReply⟩ }) := by
  have ranked : b ∈ s.ranked := ranks ▸ List.mem_append_right _ List.mem_cons_self
  have enough' : ¬ s.loadOf (s.lower b) < s.lacks b := by
    rw [loadOf_eq]
    unfold State.lacks
    omega
  refine ⟨enough', ?_⟩
  rw [selection_of_claim gate ranks candidate first noFit, preempt_eq ranked, if_neg enough',
    commitStageUp_of_same (s := s) (by rw [removed_granted, claimed_own ranked]; rfl) (removed_bfeAt ..), removed_of_none idle]

end Claims

theorem handle_falRecompute (s : State) : handle .falRecompute s =
    let u := s.modFeeder (fun f => { f with
      plugged := s.countPlugged, base := s.baseBudget s.countPlugged, budget := s.heatBudget (s.baseBudget s.countPlugged) })
    let v := if s.heatBudget (s.baseBudget s.countPlugged) < u.grantedLoad then forcedRemoval u else u
    (v, (allBays.filter (fun b => (v.rowAt b).quiet && (u.rowAt b).granted != (v.rowAt b).granted)).map .lcsRemoved ++
      (if s.heatBudget (s.baseBudget s.countPlugged) = s.feeder.budget then [] else [.raiseHall .budget .plain]) ++
      (if s.feeder.budget < s.heatBudget (s.baseBudget s.countPlugged) then [.falSelect] else [])) := by
  show falRecompute s = _
  unfold falRecompute
  dsimp only
  rw [removalReports_eq]

/-- Settles O42. -/
theorem selectionKeepsWithinTheBudget : Obligations.SelectionKeepsWithinTheBudget := by
  refine ⟨fun s => ⟨fun load => ?_, selection_budget s, selection_of_closed, selection_commits⟩, fun s gate => ?_, fun s => ?_,
    fun b s => ?_⟩
  · exact Nat.le_trans (selection_load s load).1 (Nat.le_of_eq (selection_budget s))
  · refine ⟨fun none' => selection_of_none gate fun b m asks => none' b m ((candidate_iff s b).mp asks),
      fun before b after ranks candidate => ?_⟩
    have asks := (candidate_iff s b).mpr candidate
    refine ⟨fun above fits => ?_, fun first noFit => ?_⟩
    · rw [selection_of_fit gate ranks asks
        (fun x m a f => above x m ((candidate_iff s x).mp a) ((fits_iff s x).mp f)) ((fits_iff s b).mpr fits)]
      exact commitStageUp_eq b s
    · have first' : ∀ x ∈ before, ¬ s.candidate x = true := fun x m a => first x m ((candidate_iff s x).mp a)
      have noFit' : ∀ x ∈ s.ranked, s.candidate x = true → ¬ s.fits x = true := fun x m a f =>
        noFit x m ((candidate_iff s x).mp a) ((fits_iff s x).mp f)
      dsimp only
      rw [← (lower_eq ranks).1]
      refine ⟨selection_of_lacking gate ranks asks first' noFit', fun enough idle => ?_⟩
      obtain ⟨enough', picked⟩ := selection_of_preemption gate ranks asks first' noFit' enough idle
      obtain ⟨outside, le, covers, needed⟩ := claimed_spec (ranks ▸ List.mem_append_right _ List.mem_cons_self) enough'
      exact ⟨s.claimed b, outside, le, covers, needed, picked⟩
  · exact handle_falRecompute s
  · refine ⟨(handle_falTake b s).trans ?_, handle_falContactor b s, fun some' => ?_, fun none' => ?_, handle_falRecovered b s,
      ?_, falEmpty_eq b s, fun carries => ?_, fun up slot flight => ?_⟩
    · rw [rowClass_eq, request_eq]
      simp only [rowClass_runs]
      rfl
    · rw [handle_falLost, if_neg some']; rfl
    · rw [handle_falLost, if_pos none']; rfl
    · show (s.modRow b _, _) = _
      unfold Profile.stagePower
      rfl
    · exact (handle_falUndock b s).trans (if_pos carries)
    · exact (handle_falUndock b s).trans (if_neg fun h => h.elim up fun h => h.elim slot flight)

end Sys2Proof.Machine
end

section
/-! O25 to O28 (R5, R6, R14 to R16, R185, R186). A request's row as the events it hands on, and what stands given after it. -/

namespace Sys2Proof.Machine

/-! ## SETTINGS_WRITE -/

theorem settingNotices_eq (n : Fin 17) : settingNotices n =
    if n.val ≤ 2 then [.falRecompute]
    else if 5 ≤ n.val ∧ n.val ≤ 9 then allBays.map .hplRecompute
    else if n.val = 16 then [.lateCheck none]
    else [] := by
  revert n
  decide

theorem reqSettingsWrite_byte (n : Fin 17) (value : Word32) (s : State) : reqSettingsWrite (byte n.val) value s =
    (perform (s.putSetting n (settingTaken n value.toNat),
      if s.setting n = settingTaken n value.toNat then [] else settingNotices n)).sends 0x85
        ((if settingTaken n value.toNat = value.toNat then 0 else 1) :: byte n.val ::
          bytes32 (BitVec.ofNat 32 (settingTaken n value.toNat))) := by
  unfold reqSettingsWrite
  rw [settingOf_byte]
  dsimp only
  by_cases taken : settingTaken n value.toNat = value.toNat
  · rw [if_pos taken, show (settingTaken n value.toNat != value.toNat) = false by simp [taken]]; rfl
  · rw [if_neg taken, show (settingTaken n value.toNat != value.toNat) = true by simp [taken]]; rfl

/-- Settles O25. -/
theorem settingsWriteHoldsTheValueTaken : Obligations.SettingsWriteHoldsTheValueTaken := by
  refine ⟨fun n value s => ⟨?_, _, congrArg Host.Outcome.next (reqSettingsWrite_byte n value s), ?_,
    clampNat_bounds (settingRows_ordered n) _⟩, fun x value s above => ?_⟩
  · refine congrArg Host.Outcome.next ((reqSettingsWrite_byte n value s).trans ?_)
    rw [settingNotices_eq]
    rfl
  · rw [sends_given, perform_given]
    rfl
  · refine congrArg Host.Outcome.next ?_
    unfold reqSettingsWrite
    rw [settingOf_of_le above]
    rfl

/-! ## The clock -/

/-- Settles O26. -/
theorem clockCommandsMoveTheDepotTime : Obligations.ClockCommandsMoveTheDepotTime := by
  refine ⟨fun x s => ⟨rfl, _, rfl, ?_⟩, fun s => ⟨rfl, _, rfl, ?_⟩⟩
  · rw [reqSetTime, show ∀ t, (okReply 0x07 [] t).given = { t.given with sending := some ⟨0x87, [0]⟩ } from fun _ => rfl, perform_given]
    rfl
  · rw [evClockTick, perform_given]
    rfl

/-! ## BAY_ENABLE and BAY_DISABLE -/

theorem reqBayEnable_above {x : Byte} (above : 16 ≤ x.toNat) (s : State) : reqBayEnable x s = s.sends 0x90 [3, 2] := by
  unfold reqBayEnable
  rw [bayOf_of_le above]
  rfl

theorem reqBayEnable_byte (b : BayNo) (s : State) : reqBayEnable (byte b.val) s =
    if (s.bfeAt b).enabled = true then s.sends 0x90 [0]
    else (perform (s.modBfe b (fun f => { f with enabled := true }), enableNotices b (s.bfeAt b).plug)).sends 0x90 [0] := by
  unfold reqBayEnable
  rw [bayOf_byte]
  rfl

theorem clearState_eq (f : Bfe) : f.clearState =
    if f.plug = true then .docking else if f.presence = true then .arrived else .empty := by
  unfold Bfe.clearState Bfe.reported
  cases f.plug <;> cases f.presence <;> rfl

theorem clearState_aspect (f : Bfe) : f.clearState.aspect = if f.clearState = .empty then .dark else .red := by
  rw [clearState_eq]
  cases f.plug <;> cases f.presence <;> rfl

/-- Settles O27. -/
theorem bayEnableTakesTheBayIntoService : Obligations.BayEnableTakesTheBayIntoService := by
  refine ⟨fun x s above => congrArg Host.Outcome.next (reqBayEnable_above above s), fun b s enabled => ?_, fun b s disabled => ?_,
    fun b s => ⟨fun out => ?_, fun into => if_neg into⟩⟩
  · exact congrArg Host.Outcome.next ((reqBayEnable_byte b s).trans (if_pos enabled))
  · have row := (reqBayEnable_byte b s).trans (if_neg (by rw [disabled]; exact Bool.false_ne_true))
    refine ⟨congrArg Host.Outcome.next row, _, congrArg Host.Outcome.next row, ?_⟩
    rw [sends_given, perform_given]
  · have entered : handle (.clrFromSensors b) s = enterClear s b (s.bfeAt b).clearState := if_pos out
    rw [entered]
    unfold enterClear State.setClear
    rw [clearState_aspect, clearState_eq]

theorem reqBayDisable_byte (b : BayNo) (s : State) : reqBayDisable (byte b.val) s =
    if (s.bfeAt b).enabled = false then s.sends 0x91 [0]
    else if s.holdsLane b = true then s.sends 0x91 [3, 4]
    else (perform (s.modBfe b (fun f => { f with enabled := false, tripped := false, overdraw := none }),
      disableNotices b (s.dkuAt b).retained)).sends 0x91 [0] := by
  unfold reqBayDisable
  rw [bayOf_byte]
  rfl

theorem holdsLane_iff (s : State) (b : BayNo) : s.holdsLane b = true ↔ s.laneA.holder = some b ∨ s.laneB.holder = some b := by
  simp [State.holdsLane]

/-- A bay that holds no lane has none to release. -/
theorem laneReleaseOf_of_free {s : State} {b : BayNo} (freeA : s.laneA.holder ≠ some b) (freeB : s.laneB.holder ≠ some b) :
    laneReleaseOf b s = (s, []) := by
  have none' : s.grantedLane b = none := by simp [State.grantedLane, freeA, freeB]
  unfold laneReleaseOf
  rw [none']
  rfl

/-- Settles O28. -/
theorem bayDisableTakesTheBayOutOfService : Obligations.BayDisableTakesTheBayOutOfService := by
  refine ⟨fun x s above => ?_, fun b s disabled => ?_, fun b s enabled holds => ?_, fun b s enabled freeA freeB => ?_,
    fun b s freeA freeB => ?_⟩
  · refine congrArg Host.Outcome.next ?_
    unfold reqBayDisable
    rw [bayOf_of_le above]
    rfl
  · exact congrArg Host.Outcome.next ((reqBayDisable_byte b s).trans (if_pos disabled))
  · refine congrArg Host.Outcome.next ((reqBayDisable_byte b s).trans ?_)
    rw [enabled, if_neg (nofun), if_pos ((holdsLane_iff s b).mpr holds)]
  · refine congrArg Host.Outcome.next ((reqBayDisable_byte b s).trans ?_)
    rw [enabled, if_neg (nofun), if_neg (by rw [holdsLane_iff]; exact not_or.mpr ⟨freeA, freeB⟩)]
    rfl
  · show (let r := laneReleaseOf b _; (enterClear r.1 b .outOfService).also (.contactor b :: r.2 ++ [.tellReliance b, .tellFreeze b false])) = _
    rw [laneReleaseOf_of_free (by exact freeA) (by exact freeB)]
    simp only [leaveCleared, leaveOrder, enterClear, State.setClear, State.modClr, bayAt_bayPut_same, bayPut_bayPut]
    rfl

end Sys2Proof.Machine
end

section
/-! O52, O53 (R153 to R159). The four hold requests as the stack they leave, and the derivation of the effective set. -/

namespace Sys2Proof.Machine

/-! ## The hold requests -/

theorem push_pop (h : HoldStack) (r : Byte) : (h.push r).pop = h := rfl

theorem changeHold_given (b : BayNo) (h : HoldStack) (s : State) : (changeHold b h s).given =
    { s.given with operator := fun c => if c = b then h else (s.dpmAt c).operator } := by
  have put (c : BayNo) : ((s.modDpm b (fun d => { d with operator := h })).dpmAt c).operator =
      if c = b then h else (s.dpmAt c).operator := by
    by_cases same : c = b
    · rw [if_pos same, same, State.modDpm_dpmAt_same]
    · rw [if_neg same, State.modDpm_dpmAt_ne _ _ same]
  unfold changeHold
  rw [perform_given]
  exact (congrArg (fun x => { s.given with operator := x }) (funext put) :)

theorem changeHold_operator (b : BayNo) (h : HoldStack) (s : State) : ((changeHold b h s).dpmAt b).operator = h :=
  (congrFun (congrArg Given.operator (changeHold_given b h s)) b).trans (if_pos rfl)

theorem reqHoldPush_byte {b : BayNo} {s : State} (room : (s.dpmAt b).operator.saved.length < 4) (r : Byte) :
    reqHoldPush (byte b.val) r s = (changeHold b ((s.dpmAt b).operator.push r) s).sends 0xE0
      [0, (s.dpmAt b).operator.set ||| r, byte ((s.dpmAt b).operator.saved.length + 1)] := by
  unfold reqHoldPush
  rw [bayOf_byte]
  dsimp only
  rw [if_neg (show ¬ Config.stackSize ≤ _ from Nat.not_le.mpr room), changeHold_operator]
  rfl

theorem reqHoldPush_full {b : BayNo} {s : State} (full : 4 ≤ (s.dpmAt b).operator.saved.length) (r : Byte) :
    reqHoldPush (byte b.val) r s = s.sends 0xE0 [3, 5] := by
  unfold reqHoldPush
  rw [bayOf_byte]
  exact if_pos full

theorem reqHoldPop_byte {b : BayNo} {s : State} {x : OperatorSet} {xs : List OperatorSet}
    (saved : (s.dpmAt b).operator.saved = x :: xs) :
    reqHoldPop (byte b.val) s = (changeHold b ⟨x, xs⟩ s).sends 0xE1 [0, x, byte xs.length] := by
  unfold reqHoldPop
  rw [bayOf_byte]
  dsimp only
  rw [if_neg (by rw [saved]; nofun), changeHold_operator, show (s.dpmAt b).operator.pop = ⟨x, xs⟩ by unfold HoldStack.pop; rw [saved]]
  rfl

theorem reqHoldPop_empty {b : BayNo} {s : State} (empty : (s.dpmAt b).operator.saved = []) :
    reqHoldPop (byte b.val) s = s.sends 0xE1 [3, 6] := by
  unfold reqHoldPop
  rw [bayOf_byte]
  exact if_pos empty

theorem changeHallHold_given (h : HoldStack) (s : State) : (changeHallHold h s).given = { s.given with hallHold := h } := by
  unfold changeHallHold
  rw [perform_given]
  rfl

theorem changeHallHold_hallHold (h : HoldStack) (s : State) : (changeHallHold h s).hallHold = h :=
  congrArg Given.hallHold (changeHallHold_given h s)

theorem reqHallHoldPush_room {s : State} (room : s.hallHold.saved.length < 4) (r : Byte) :
    reqHallHoldPush r s = (changeHallHold (s.hallHold.push r) s).sends 0xE2
      [0, s.hallHold.set ||| r, byte (s.hallHold.saved.length + 1)] := by
  unfold reqHallHoldPush
  dsimp only
  rw [if_neg (show ¬ Config.stackSize ≤ _ from Nat.not_le.mpr room), changeHallHold_hallHold]
  rfl

theorem reqHallHoldPop_saved {s : State} {x : OperatorSet} {xs : List OperatorSet} (saved : s.hallHold.saved = x :: xs) :
    reqHallHoldPop s = (changeHallHold ⟨x, xs⟩ s).sends 0xE3 [0, x, byte xs.length] := by
  unfold reqHallHoldPop
  dsimp only
  rw [if_neg (by rw [saved]; nofun), changeHallHold_hallHold, show s.hallHold.pop = ⟨x, xs⟩ by unfold HoldStack.pop; rw [saved]]
  rfl

/-- Settles O52. -/
theorem holdRequestsMoveTheStacks : Obligations.HoldRequestsMoveTheStacks := by
  have next {s t : State} (h : s = t) : (.next s : Host.Outcome State Fault Refusal) = .next t := congrArg _ h
  refine ⟨fun x r s above => ⟨next ?_, next ?_⟩, fun b r s => ⟨fun full => next (reqHoldPush_full full r), fun room => ?_,
      fun empty => next (reqHoldPop_empty empty), fun x xs saved => ?_⟩,
    fun r s => ⟨fun full => next (if_pos full), fun room => ?_, fun empty => next (if_pos empty), fun x xs saved => ?_⟩,
    push_pop, fun b r s => ⟨fun room => next (reqHoldPush_byte room r), fun x xs saved => next (reqHoldPop_byte saved)⟩,
    fun r s => ⟨fun room => next (reqHallHoldPush_room room r), fun x xs saved => next (reqHallHoldPop_saved saved)⟩⟩
  · unfold reqHoldPush
    rw [bayOf_of_le above]
    rfl
  · unfold reqHoldPop
    rw [bayOf_of_le above]
    rfl
  · refine ⟨_, next (reqHoldPush_byte room r), ?_⟩
    rw [sends_given, changeHold_given]
    rfl
  · refine ⟨_, next (reqHoldPop_byte saved), ?_⟩
    rw [sends_given, changeHold_given]
  · refine ⟨_, next (reqHallHoldPush_room room r), ?_⟩
    rw [sends_given, changeHallHold_given]
    rfl
  · refine ⟨_, next (reqHallHoldPop_saved saved), ?_⟩
    rw [sends_given, changeHallHold_given]

/-! ## The derivation -/

theorem autoSet_iffs (c : Conditions) (reliance : Bool) (a : AutoSet) (h : a = (autoSet c reliance).waive c.waivers) :
    (a.outOfService = true ↔ c.enabled = false) ∧ (a.noDeparture = true ↔ c.noDeparture = true) ∧
      (a.notDocked = true ↔ c.enabled = true ∧ c.docked = false) ∧ (a.linkLost = true ↔ c.linkLost = true) ∧
      (a.wrongCoach = true ↔ c.docked = true ∧ c.mismatch = true) ∧
      (a.faultData = true ↔ c.docked = true ∧ (c.readSinceDocking = false ∨ c.unreadSinceFailure = true ∨
        (reliance = true ∧ c.scanDone = false))) ∧
      (a.faultBlocking = true ↔ c.docked = true ∧ c.blocking = true) ∧
      (a.heatNotReady = true ↔ c.docked = true ∧ c.readiness = .notReady ∧ c.waivers.heatNotReady = false) ∧
      (a.heatFault = true ↔ c.docked = true ∧ c.readiness = .fault ∧ c.waivers.heatFault = false) ∧
      (a.heatStale = true ↔ c.docked = true ∧ c.stale = true ∧ c.waivers.heatStale = false) ∧
      (a.lampNotPassed = true ↔ c.docked = true ∧ c.lampRequired = true ∧ c.lampPassed = false ∧
        c.waivers.lampNotPassed = false) := by
  subst h
  simp [AutoSet.waive, autoSet, faultDataMissing, and_assoc, or_assoc]

theorem rederive_same {b : BayNo} {s : State} (same : s.effective b = (s.dpmAt b).reported) : rederive b s = (s, []) := if_pos same

theorem rederive_changed {b : BayNo} {s : State} (changed : s.effective b ≠ (s.dpmAt b).reported) : rederive b s =
    (s.modDpm b (fun d => { d with reported := s.effective b }),
      [.clrHolds b, .raise b .holds (.holds (s.effective b).held) false]) := if_neg changed

theorem effective_auto (s : State) (b : BayNo) : (s.effective b).auto =
    if (s.dpmAt b).frozen = true then (s.dpmAt b).frozenSet else (s.dpmAt b).automatic := rfl

theorem tellFreeze_begins {b : BayNo} {s : State} (thawed : (s.dpmAt b).frozen = false) : tellFreeze b true s =
    rederive b (s.modDpm b (fun d => { d with frozen := true, frozenSet := (s.effective b).auto })) := by
  have auto : (s.effective b).auto = (s.dpmAt b).automatic := by rw [effective_auto, thawed]; rfl
  rw [auto]
  unfold tellFreeze
  rw [thawed]
  rfl

theorem tellFreeze_ends {b : BayNo} {s : State} (frozen : (s.dpmAt b).frozen = true) : tellFreeze b false s =
    rederive b (s.modDpm b (fun d => { d with frozen := false, frozenSet := .none })) := by
  unfold tellFreeze
  rw [frozen]
  rfl

theorem relies_eq (st : ClearState) : st.relies = decide (st = .queued ∨ st = .clearing) := by cases st <;> rfl

theorem staleCondition_eq (h : Hpl) : h.staleCondition =
    decide (h.plan.state ∈ [PlanState.waiting, .heating, .holding, .suspended] ∧ (h.stale = true ∨ h.sample = none)) := by
  unfold Hpl.staleCondition
  cases h.plan.state <;> cases h.stale <;> cases h.sample <;> rfl

theorem blocking_eq (t : FaultTable) :
    t.blocking = decide (∃ e ∈ t.entries, e.active = true ∧ e.disposition = .blocking) := by
  unfold FaultTable.blocking
  rw [Bool.eq_iff_iff]
  simp

theorem beq_decide {α : Type} [BEq α] [LawfulBEq α] [DecidableEq α] (x y : α) : (x == y) = decide (x = y) := by
  rw [Bool.eq_iff_iff, beq_iff_eq, decide_eq_true_iff]

/-- Settles O53. -/
theorem effectiveHoldSetIsDerived : Obligations.EffectiveHoldSetIsDerived := by
  refine ⟨fun b s => ⟨rfl, fun frozen => ?_, fun thawed => ?_⟩, fun b s => rederive_same, fun b s => rederive_changed,
    fun b on s => ⟨fun same => if_pos same, fun thawed begins => ?_, fun frozen ends => ?_, ?_⟩,
    fun b s => ⟨rfl, ?_, ?_, ?_, ?_, ?_⟩⟩
  · rw [effective_auto, if_pos frozen]
  · refine autoSet_iffs _ _ _ ?_
    rw [effective_auto, thawed]
    rfl
  · rw [begins]; exact tellFreeze_begins thawed
  · rw [ends]; exact tellFreeze_ends frozen
  · show tellReliance b s = _
    unfold tellReliance
    rw [relies_eq]
    rfl
  · show tellDock b s = _
    unfold tellDock
    rw [beq_decide, beq_decide]
    rfl
  · show tellLink b s = _
    unfold tellLink
    rw [beq_decide]
    rfl
  · show tellScan b s = _
    unfold tellScan
    dsimp only
    rw [blocking_eq]
    rfl
  · show tellHeat b s = _
    unfold tellHeat
    rw [staleCondition_eq]
    rfl
  · show tellLamp b s = _
    unfold tellLamp
    rw [beq_decide]
    rfl

end Sys2Proof.Machine
end

section
/-! O54 (R166, R167, R173, R175). A lane request by the lane's state, and who is granted a FREE lane. -/

namespace Sys2Proof.Machine

/-! ## LANE_CLOSE and LANE_OPEN -/

/-- A lane's number as a request carries it (R175). -/
def laneNumber (l : Lane) : Byte := match l with | .a => 0 | .b => 1

theorem laneOf_number (l : Lane) : laneOf (laneNumber l) = some l := by cases l <;> rfl

theorem laneOf_of_le {x : Byte} (h : 2 ≤ x.toNat) : laneOf x = none := by
  unfold laneOf
  split
  · omega
  · omega
  · rfl

theorem perform_raiseHall (k : HallFlag) (r : Reason) (s : State) : perform (s, [.raiseHall k r]) = raiseHallFlag s k r := rfl

theorem flagByte_bit (x : Bool) : flagByte x = if x then 1 else 0 := by cases x <;> rfl

theorem reqLaneClose_number (l : Lane) (s : State) : reqLaneClose (laneNumber l) s =
    (perform (closeLane l s)).sends 0xF0
      [0, byte ((perform (closeLane l s)).laneAt l).state.code, if ((perform (closeLane l s)).laneAt l).closePending then 1 else 0] := by
  unfold reqLaneClose
  rw [laneOf_number, ← flagByte_bit]
  rfl

theorem reqLaneOpen_number (l : Lane) (s : State) : reqLaneOpen (laneNumber l) s =
    (perform (openLane l s)).sends 0xF1
      [0, byte ((perform (openLane l s)).laneAt l).state.code, if ((perform (openLane l s)).laneAt l).closePending then 1 else 0] := by
  unfold reqLaneOpen
  rw [laneOf_number, ← flagByte_bit]
  rfl

section ByState

variable {l : Lane} {s : State}

theorem closeLane_held (held : (s.laneAt l).state = .granted ∨ (s.laneAt l).state = .passageWait) :
    closeLane l s = done (s.modLane l (fun r => { r with closePending := true })) := by
  unfold closeLane
  rcases held with h | h <;> rw [h]

theorem openLane_held (held : (s.laneAt l).state = .granted ∨ (s.laneAt l).state = .passageWait) :
    openLane l s = done (s.modLane l (fun r => { r with closePending := false })) := by
  unfold openLane
  rcases held with h | h <;> rw [h]

theorem closeLane_closed (closed : (s.laneAt l).state = .closed) : closeLane l s = done s := by
  unfold closeLane
  rw [closed]

theorem openLane_free (free : (s.laneAt l).state = .free) : openLane l s = done s := by
  unfold openLane
  rw [free]

theorem closeLane_free (free : (s.laneAt l).state = .free) :
    perform (closeLane l s) = raiseHallFlag (s.modLane l (fun r => { r with state := .closed })) .lane (.lane l .closed) := by
  unfold closeLane
  rw [free]
  exact perform_raiseHall ..

theorem openLane_closed (closed : (s.laneAt l).state = .closed) : openLane l s =
    (s.modLane l (fun r => { r with state := .free }), [.raiseHall .lane (.lane l .free), .laneOffer l]) := by
  unfold openLane
  rw [closed]
  rfl

theorem raiseHallFlag_laneAt (s : State) (k : HallFlag) (r : Reason) (l : Lane) : (raiseHallFlag s k r).laneAt l = s.laneAt l := by
  cases l <;> rfl

end ByState

/-! ## Who is granted a lane -/

/-- A bay may be granted a lane: it holds none and its active departure's preference admits it (R173). -/
def State.mayTake (s : State) (b : BayNo) (l : Lane) : Prop := s.laneA.holder ≠ some b ∧ s.laneB.holder ≠ some b ∧
  ∃ d, s.activeOf b = some d ∧ (d.lane = .either ∨ (d.lane = .a ∧ l = .a) ∨ (d.lane = .b ∧ l = .b))

theorem admits_iff (p : LanePreference) (l : Lane) :
    p.admits l = true ↔ p = .either ∨ (p = .a ∧ l = .a) ∨ (p = .b ∧ l = .b) := by
  cases p <;> cases l <;> decide

theorem mayBeGranted_iff (s : State) (b : BayNo) (l : Lane) : s.mayBeGranted b l = true ↔ s.mayTake b l := by
  have admits : s.admits b l = true ↔
      ∃ d, s.activeOf b = some d ∧ (d.lane = .either ∨ (d.lane = .a ∧ l = .a) ∨ (d.lane = .b ∧ l = .b)) := by
    unfold State.admits
    cases s.activeOf b with
    | none => simp
    | some d => simp [admits_iff]
  simp [State.mayBeGranted, State.holdsLane, State.mayTake, admits, and_assoc]

section Offers

variable {s : State}

theorem laneOffer_none {l : Lane} (h : (s.laneAt l).state ≠ .free ∨ ∀ b ∈ s.waitOrder, ¬ s.mayTake b l) : laneOffer l s = (s, []) := by
  unfold laneOffer
  by_cases free : (s.laneAt l).state = .free
  · have none' : s.waitOrder.find? (fun b => s.mayBeGranted b l) = none :=
      List.find?_eq_none.mpr fun b m may => h.elim (absurd free) fun h => h b m ((mayBeGranted_iff s b l).mp may)
    rw [if_pos free, none']
    rfl
  · exact if_neg free

theorem laneOffer_first {l : Lane} {before after : List BayNo} {b : BayNo} (free : (s.laneAt l).state = .free)
    (order : s.waitOrder = before ++ b :: after) (first : ∀ x ∈ before, ¬ s.mayTake x l) (may : s.mayTake b l) :
    laneOffer l s = grantLane l b s := by
  have found : s.waitOrder.find? (fun b => s.mayBeGranted b l) = some b := by
    rw [order]
    refine List.find?_eq_some_iff_append.mpr ⟨(mayBeGranted_iff s b l).mpr may, before, after, rfl, fun x m => ?_⟩
    have out : ¬ s.mayBeGranted x l = true := mt (mayBeGranted_iff s x l).mp (first x m)
    simpa using out
  unfold laneOffer
  rw [if_pos free, found]

theorem clrOfferTo_eq (s : State) (b : BayNo) [Decidable (s.mayTake b .a)] [Decidable (s.mayTake b .b)] : clrOfferTo b s =
    if b ∈ s.waitOrder then
      if s.laneA.state = .free ∧ s.mayTake b .a then grantLane .a b s
      else if s.laneB.state = .free ∧ s.mayTake b .b then grantLane .b b s
      else (s, [])
    else (s, []) := by
  unfold clrOfferTo done
  simp only [List.contains_iff_mem, mayBeGranted_iff]

end Offers

theorem leaveOrder_modLane (b : BayNo) (l : Lane) (f : LaneRecord → LaneRecord) (s : State) :
    leaveOrder b (s.modLane l f) = ({ s with waitOrder := s.waitOrder.filter (fun x => x != b) } : State).modLane l f := by
  cases l <;> rfl

theorem grantLane_eq (l : Lane) (b : BayNo) (s : State) : grantLane l b s =
    let taken := fun (st : ClearState) (aspect : Aspect) =>
      (((({ s with waitOrder := s.waitOrder.filter (fun x => x != b) } : State).modLane l (fun r =>
        { r with state := .granted, holder := some b })).modClr b (fun c =>
        { c with state := st, revoking := false })).modBfe b (fun f => { f with aspect := aspect }))
    if (s.clrAt b).state = .recalled then (taken .cleared .green,
      [.raise b .clearance (.clearance .cleared) false, .raiseHall .lane (.lane l .granted)])
    else (taken .clearing .amber,
      [.raise b .clearance (.clearance .clearing) false, .raiseHall .lane (.lane l .granted), .tellReliance b,
        .clrSuspend b, .clrStartTimers b, .clrOpenTest b]) := by
  unfold grantLane
  dsimp only
  rw [leaveOrder_modLane]
  rfl

/-- Settles O54. -/
theorem laneRequestsCloseAndOpen : Obligations.LaneRequestsCloseAndOpen := by
  have next {s t : State} (h : s = t) : (.next s : Host.Outcome State Fault Refusal) = .next t := congrArg _ h
  refine ⟨fun x s above => ⟨next ?_, next ?_⟩, fun l s => ⟨fun free => ⟨next ?_, next ?_⟩, fun held => ⟨next ?_, next ?_⟩,
      fun held => ⟨next ?_, next ?_⟩, fun closed => ⟨next ?_, next ?_⟩⟩,
    fun s => ⟨fun l h => laneOffer_none h, fun l before b after free order first may => ?_, fun b out => ?_,
      fun b waits => ⟨fun free may => ?_, fun notA free may => ?_, fun notA notB => ?_⟩⟩, fun b s clearing => ⟨if_pos clearing, if_pos clearing⟩⟩
  · unfold reqLaneClose
    rw [laneOf_of_le above]
    rfl
  · unfold reqLaneOpen
    rw [laneOf_of_le above]
    rfl
  · refine (reqLaneClose_number l s).trans ?_
    rw [closeLane_free free, raiseHallFlag_laneAt, State.modLane_laneAt]
    rfl
  · refine (reqLaneOpen_number l s).trans ?_
    rw [openLane_free free, perform_done, free]
    rfl
  · refine (reqLaneClose_number l s).trans ?_
    rw [closeLane_held (.inl held), perform_done, State.modLane_laneAt, held]
    rfl
  · refine (reqLaneOpen_number l s).trans ?_
    rw [openLane_held (.inl held), perform_done, State.modLane_laneAt, held]
    rfl
  · refine (reqLaneClose_number l s).trans ?_
    rw [closeLane_held (.inr held), perform_done, State.modLane_laneAt, held]
    rfl
  · refine (reqLaneOpen_number l s).trans ?_
    rw [openLane_held (.inr held), perform_done, State.modLane_laneAt, held]
    rfl
  · refine (reqLaneClose_number l s).trans ?_
    rw [closeLane_closed closed, perform_done, closed]
    rfl
  · refine (reqLaneOpen_number l s).trans ?_
    rw [openLane_closed closed]
  · exact (laneOffer_first free order first may).trans (grantLane_eq l b s)
  · classical exact (clrOfferTo_eq s b).trans (if_neg out)
  · classical exact (clrOfferTo_eq s b).trans ((if_pos waits).trans ((if_pos ⟨free, may⟩).trans (grantLane_eq .a b s)))
  · classical exact (clrOfferTo_eq s b).trans ((if_pos waits).trans
      ((if_neg fun h => notA.elim (absurd h.1) (absurd h.2)).trans ((if_pos ⟨free, may⟩).trans (grantLane_eq .b b s))))
  · classical exact (clrOfferTo_eq s b).trans ((if_pos waits).trans
      ((if_neg fun h => notA.elim (absurd h.1) (absurd h.2)).trans (if_neg fun h => notB.elim (absurd h.1) (absurd h.2))))

end Sys2Proof.Machine
end

section
/-! O38, O43 (R9, R10, R12, R94, R109, R110, R115 to R117). The heat and feeder timers, the meter, the trip, and what a HEAT
result does. -/

namespace Sys2Proof.Machine

/-! ## The end of a stage-up -/

/-- A stage-up that fails: a stage, a failure and the result recorded, STAGE n - 1 submitted, the stage-up ended (R117). -/
def stageUpFailed (b : BayNo) (why : CommandResult) (s : State) : Reaction :=
  (endStageUp b (stage b ((s.rowAt b).granted - 1) (s.modRow b (fun r => { r with
      granted := (s.rowAt b).granted - 1, failures := min ((s.rowAt b).failures + 1) 2, lastResult := why }))),
    if 1 ≤ (s.rowAt b).failures then [Notice.hplEnd b .stageFail] else [])

theorem stageUpFails_eq (b : BayNo) (why : CommandResult) (s : State) : stageUpFails b why s = stageUpFailed b why s := by
  have second : (min ((s.rowAt b).failures + 1) 2 = 2) = (1 ≤ (s.rowAt b).failures) := propext (by omega)
  unfold stageUpFails stageUpFailed
  simp only [second]
  refine congrArg (fun t => (endStageUp b t, _)) ?_
  show ((((s.modRow b (fun r => { r with
      granted := (s.rowAt b).granted - 1, failures := min ((s.rowAt b).failures + 1) 2 })).modRow b (fun r => { r with
      commanded := (s.rowAt b).granted - 1 })).modRow b (fun r => { r with lastResult := why })).modClc b (fun c =>
      c.submitHeat ((s.rowAt b).granted - 1))) = _
  unfold stage
  rw [modRow_modRow, modRow_modRow, modRow_modRow]

theorem stageUpFailed_rowAt_same (b : BayNo) (why : CommandResult) (s : State) : (stageUpFailed b why s).1.rowAt b =
    { s.rowAt b with
      granted := (s.rowAt b).granted - 1, failures := min ((s.rowAt b).failures + 1) 2, lastResult := why
      commanded := (s.rowAt b).granted - 1, inFlight := false } := by
  unfold stageUpFailed stage
  rw [endStageUp_rowAt_same, State.modClc_rowAt, State.modRow_rowAt_same, State.modRow_rowAt_same]

theorem stageUpFailed_rowAt_ne {b c : BayNo} (why : CommandResult) (s : State) (ne : c ≠ b) :
    (stageUpFailed b why s).1.rowAt c = s.rowAt c := by
  unfold stageUpFailed stage
  rw [endStageUp_rowAt_ne _ ne, State.modClc_rowAt, State.modRow_rowAt_ne _ _ ne, State.modRow_rowAt_ne _ _ ne]

theorem stageUpFailed_clcAt (b : BayNo) (why : CommandResult) (s : State) : (stageUpFailed b why s).1.clcAt b =
    (s.clcAt b).submitHeat ((s.rowAt b).granted - 1) :=
  State.modClc_clcAt_same s b (fun c => c.submitHeat ((s.rowAt b).granted - 1))

theorem stageUpFailed_lcsAt (b : BayNo) (why : CommandResult) (s : State) : (stageUpFailed b why s).1.lcsAt b =
    if (s.lcsAt b).phase = .quietWait then { s.lcsAt b with phase := .baseline, baseline := [] } else s.lcsAt b :=
  State.modLcs_lcsAt_same s b (fun l => if l.phase = .quietWait then { l with phase := .baseline, baseline := [] } else l)

/-! ## Submissions of class HEAT -/

theorem submitHeat_down {c : Clc} (down : c.link = .down) (n : Nat) : c.submitHeat n = c := by
  unfold Clc.submitHeat
  rw [down]

theorem submitHeat_up {c : Clc} (up : c.link ≠ .down) (n : Nat) : c.submitHeat n = { c with heatSlot := some n }.arbitrate := by
  unfold Clc.submitHeat
  split
  · next down => exact absurd down up
  all_goals rfl

theorem arbitrate_waits {c : Clc} (waits : c.link ≠ .active ∨ c.inflight ≠ none) : c.arbitrate = c := by
  unfold Clc.arbitrate
  split
  · next active none' => exact waits.elim (absurd active) (absurd none')
  all_goals rfl

theorem arbitrate_begins {c : Clc} (active : c.link = .active) (none' : c.inflight = none) : c.arbitrate = c.takeHighest := by
  unfold Clc.arbitrate
  rw [active, none']

/-! ## The timers -/

theorem evStaleTimer_eq (b : BayNo) (s : State) : evStaleTimer b s = if (s.hplAt b).staleTimer.isSome then
    perform (s.modHpl b (fun h => { h with stale := true, staleTimer := none }), [.raise b .heat .heatStale false, .tellHeat b])
    else s := by
  unfold evStaleTimer hplStale
  split <;> rfl

theorem evRampTimer_eq (s : State) : evRampTimer s = if s.feeder.ramp.isSome then
    selection { s with feeder := { s.feeder with ramp := none, gateOpen := true } } else s := by
  unfold evRampTimer falRampExpired
  split <;> rfl

theorem falConfirmExpired_confirming {s : State} {u : StageUp} {n : Nat} (inFlight : s.feeder.stageUp = some u)
    (phase : u.phase = .confirming n) : falConfirmExpired s = stageUpFailed u.bay .acknowledged s := by
  unfold falConfirmExpired
  rw [inFlight]
  dsimp only
  rw [phase, ← stageUpFails_eq]

/-- Settles O38. -/
theorem heatAndFeederTimersAct : Obligations.HeatAndFeederTimersAct := by
  have next {s t : State} (h : s = t) : (.next s : Host.Outcome State Fault Refusal) = .next t := congrArg _ h
  refine ⟨fun b s => ⟨fun stopped => next ?_, fun runs => next ?_⟩, fun s => ⟨fun stopped => next ?_, fun runs => next ?_⟩,
    fun s idle => next ?_, fun s u inFlight waits => next ?_, fun s u n inFlight phase => ?_, fun c n => ⟨fun down => ?_, ?_, ?_⟩⟩
  · exact (evStaleTimer_eq b s).trans (if_neg (by rw [stopped]; nofun))
  · exact (evStaleTimer_eq b s).trans (if_pos (Option.isSome_iff_ne_none.mpr runs))
  · exact (evRampTimer_eq s).trans (if_neg (by rw [stopped]; nofun))
  · exact (evRampTimer_eq s).trans (if_pos (Option.isSome_iff_ne_none.mpr runs))
  · unfold evConfirmTimer falConfirmExpired
    rw [idle]
    exact perform_done s
  · unfold evConfirmTimer falConfirmExpired
    rw [inFlight]
    dsimp only
    rw [waits]
    exact perform_done s
  · have row := stageUpFailed_rowAt_same u.bay .acknowledged s
    have lcs := stageUpFailed_lcsAt u.bay .acknowledged s
    refine ⟨stageUpFailed u.bay .acknowledged s, next (congrArg perform (falConfirmExpired_confirming inFlight phase)),
      stageUpFailed_clcAt .., fun quiet => lcs.trans (if_pos quiet), fun loud => lcs.trans (if_neg loud), rfl,
      congrArg some (Nat.mul_comm ..), ?_, ?_, ?_, ?_, ?_, fun c ne => stageUpFailed_rowAt_ne _ s ne, rfl⟩
    all_goals rw [row]
  · exact submitHeat_down down n
  · rintro (lost | ⟨active, busy⟩)
    · rw [submitHeat_up (by rw [lost]; nofun)]; exact arbitrate_waits (.inl (by rw [lost]; nofun))
    · rw [submitHeat_up (by rw [active]; nofun)]; exact arbitrate_waits (.inr busy)
  · intro active none'
    rw [submitHeat_up (by rw [active]; nofun)]
    exact arbitrate_begins active none'

/-! ## The meter -/

theorem modBfe_congr {s : State} {b : BayNo} {f g : Bfe → Bfe} (h : f (s.bfeAt b) = g (s.bfeAt b)) : s.modBfe b f = s.modBfe b g :=
  congrArg (fun x => { s with bfe := bayPut s.bfe b x }) h

section Sampled

variable (b : BayNo) (shore volts amps : Int) (s : State)

/-- The state with a sample of each quantity taken, and then the overdraw timer compared (R9, R12). -/
def sampled : State := s.modBfe b (fun f => { f with
  shore := (clampInt 0 1500 shore).toNat :: f.shore.take 4
  auxVolts := (clampInt 1800 3200 volts).toNat :: f.auxVolts.take 4
  auxAmps := (clampInt 0 4000 amps).toNat :: f.auxAmps.take 4 })

def compared : State :=
  let g := (s.rowAt b).granted * (s.rowAt b).power
  (sampled b shore volts amps s).modBfe b (fun f => { f with
    overdraw := if f.contactor = true ∧ allowedLoad g < ((sampled b shore volts amps s).bfeAt b).shorePower
      then some (f.overdraw.getD 0) else none })

theorem overdrawAfter_eq (contactor : Bool) (average g : Nat) (t : Option Nat) : overdrawAfter contactor average g t =
    if contactor = true ∧ allowedLoad g < average then some (t.getD 0) else none := by
  unfold overdrawAfter
  simp

theorem meterSample_eq : meterSample b shore volts amps s = (falMeter b (compared b shore volts amps s),
    if (s.clrAt b).state = .clearing then [.clrOpenTest b] else []) := by
  have timer : (sampled b shore volts amps s).modBfe b (fun f => { f with
      overdraw := overdrawAfter f.contactor f.shorePower ((sampled b shore volts amps s).rowAt b).load f.overdraw }) =
      compared b shore volts amps s := by
    unfold compared
    refine modBfe_congr ?_
    rw [overdrawAfter_eq]
    rfl
  rw [← timer]
  rfl

theorem compared_shorePower : ((compared b shore volts amps s).bfeAt b).shorePower =
    ((sampled b shore volts amps s).bfeAt b).shorePower := by
  unfold compared
  rw [State.modBfe_bfeAt_same]
  rfl

theorem compared_given : (compared b shore volts amps s).given = (sampled b shore volts amps s).given := by
  have same (c : BayNo) : ((compared b shore volts amps s).bfeAt c).given = ((sampled b shore volts amps s).bfeAt c).given := by
    unfold compared
    by_cases h : c = b
    · rw [h, State.modBfe_bfeAt_same]; rfl
    · rw [State.modBfe_bfeAt_ne _ _ h]
  exact congrArg (fun x => { (sampled b shore volts amps s).given with bfe := x }) (funext same)

theorem confirms_iff (average reference power : Nat) :
    confirms average reference power = true ↔ reference ≤ average ∧ 6 * power ≤ 10 * (average - reference) := by
  simp only [confirms, Bool.and_eq_true, decide_eq_true_eq, Nat.mul_comm]

end Sampled

theorem falMeter_confirms {b : BayNo} {s : State} {u : StageUp} {n : Nat} (inFlight : s.feeder.stageUp = some u) (bay : u.bay = b)
    (phase : u.phase = .confirming n) (above : u.reference ≤ (s.bfeAt b).shorePower)
    (rise : 6 * (s.rowAt b).power ≤ 10 * ((s.bfeAt b).shorePower - u.reference)) :
    falMeter b s = endStageUp b (s.modRow b (fun r => { r with failures := 0 })) := by
  unfold falMeter
  rw [inFlight]
  dsimp only
  rw [phase]
  exact if_pos ⟨bay, (confirms_iff ..).mpr ⟨above, rise⟩⟩

theorem falMeter_stays {b : BayNo} {s : State} (h : s.feeder.stageUp = none ∨ ∃ x, s.feeder.stageUp = some x ∧
    (x.bay ≠ b ∨ x.phase = .awaitingReply ∨ (s.bfeAt b).shorePower < x.reference ∨
      10 * ((s.bfeAt b).shorePower - x.reference) < 6 * (s.rowAt b).power)) : falMeter b s = s := by
  unfold falMeter
  rcases h with idle | ⟨x, inFlight, h⟩
  · rw [idle]
  · rw [inFlight]
    dsimp only
    split
    · next n phase =>
      refine if_neg ?_
      rintro ⟨bay, confirmed⟩
      obtain ⟨above, rise⟩ := (confirms_iff ..).mp confirmed
      rcases h with other | waits | below | small
      · exact other bay
      · rw [waits] at phase; cases phase
      · omega
      · omega
    · rfl

theorem evOverdrawTrip_eq (b : BayNo) (s : State) : evOverdrawTrip b s = if (s.bfeAt b).overdraw.isSome then
    perform (s.modBfe b (fun f => { f with tripped := true, overdraw := none }),
      [.contactor b, .hplEnd b .overdraw, .raise b .overdraw .plain false]) else s := by
  unfold evOverdrawTrip overdrawTrip
  split <;> rfl

theorem clrOpenTest_eq (b : BayNo) (s : State) : clrOpenTest b s =
    if (s.bfeAt b).shorePower < 10 ∧ (s.clrAt b).state = .clearing ∧ (s.clrAt b).openRequest = false then
      (s.modClr b (fun c => { c with openWait := none, openRequest := true }), [.contactor b])
    else (s, []) := by
  unfold clrOpenTest clrOpenPoint done
  split
  · next low => simp [low]
  · next high => simp [high]

/-! ## HEAT results -/

theorem falResult_command {b : BayNo} {n : Nat} {s : State} (h : s.feeder.stageUp = none ∨
    ∃ u, s.feeder.stageUp = some u ∧ (u.bay ≠ b ∨ u.count ≠ n ∨ u.phase ≠ .awaitingReply)) (x : TxResult) :
    falResult b n x s = commandResult b x s := by
  unfold falResult
  rcases h with idle | ⟨u, inFlight, other⟩
  · rw [idle]
  · rw [inFlight]
    refine if_neg ?_
    rintro ⟨bay, count, phase⟩
    exact other.elim (absurd bay) fun other => other.elim (absurd count) (absurd phase)

theorem falResult_stageUp {b : BayNo} {n : Nat} {s : State} {u : StageUp} (inFlight : s.feeder.stageUp = some u) (bay : u.bay = b)
    (count : u.count = n) (phase : u.phase = .awaitingReply) (x : TxResult) : falResult b n x s = stageUpResult b u x s := by
  unfold falResult
  rw [inFlight]
  exact if_pos ⟨bay, count, phase⟩

/-- Settles O43. -/
theorem meterSampleAndTripAct : Obligations.MeterSampleAndTripAct := by
  have next {s t : State} (h : s = t) : (.next s : Host.Outcome State Fault Refusal) = .next t := congrArg _ h
  refine ⟨fun b shore volts amps s => ⟨?_, fun x n inFlight bay phase above rise => next ?_, fun h => next ?_⟩, fun b s => rfl, fun f => rfl,
    fun b s => ⟨fun low clearing shut => ?_, fun h => ?_⟩, fun b s => ⟨fun stopped => next ?_, fun runs => next ?_⟩,
    fun b n s => ⟨fun h => ⟨fun x => ?_, ?_, fun active empty => ?_, fun h' => ?_⟩, fun u inFlight bay count phase =>
      ⟨fun x => ?_, ?_, fun active => ?_, fun lost => ?_⟩⟩⟩
  · refine ⟨_, rfl, ?_⟩
    rw [evMeterSample, perform_given, meterSample_eq, given_of_fixed (falMeter_fixed ..)]
    exact compared_given ..
  · refine (congrArg perform (meterSample_eq b shore volts amps s)).trans ?_
    rw [falMeter_confirms (s := compared b shore volts amps s) inFlight bay phase
      (by rw [compared_shorePower]; exact above) (by rw [compared_shorePower]; exact rise)]
    rfl
  · refine (congrArg perform (meterSample_eq b shore volts amps s)).trans ?_
    rw [falMeter_stays (s := compared b shore volts amps s) (by rw [compared_shorePower]; exact h)]
    rfl
  · exact (clrOpenTest_eq b s).trans (if_pos ⟨low, clearing, shut⟩)
  · refine (clrOpenTest_eq b s).trans (if_neg ?_)
    rintro ⟨low, clearing, shut⟩
    rcases h with high | other | opened
    · omega
    · exact other clearing
    · rw [shut] at opened; cases opened
  · exact (evOverdrawTrip_eq b s).trans (if_neg (by rw [stopped]; nofun))
  · exact (evOverdrawTrip_eq b s).trans (if_pos (Option.isSome_iff_ne_none.mpr runs))
  · exact (falResult_command h _).trans rfl
  · exact (falResult_command h _).trans rfl
  · exact (falResult_command h _).trans (if_pos ⟨rfl, active, empty⟩)
  · refine (falResult_command h _).trans (if_neg ?_)
    rintro ⟨-, active, empty⟩
    exact h'.elim (absurd active) (absurd empty)
  · refine (falResult_stageUp inFlight bay count phase _).trans ?_
    rw [← bay, ← count]
    rfl
  · exact (falResult_stageUp inFlight bay count phase _).trans (stageUpFails_eq b .refused s)
  · exact (falResult_stageUp inFlight bay count phase _).trans ((if_pos active).trans (stageUpFails_eq b .failed s))
  · exact (falResult_stageUp inFlight bay count phase _).trans (if_neg lost)

end Sys2Proof.Machine
end

section
/-! O37 (R80 to R98). The plan's course by its state and clock, and each notice of the HPL as a course. -/

namespace Sys2Proof.Machine

/-! ## Ends -/

theorem endWith_of_open {p : Plan} (open' : p.state ≠ .ended) (code : EndCode) :
    p.endWith code = ({ p with state := .ended, prior := none, endCode := some code }, [.ended]) := by
  unfold Plan.endWith
  split
  · next ended _ => exact absurd ended open'
  · rfl

theorem endWith_of_ended {p : Plan} {old : EndCode} (ended : p.state = .ended) (holds : p.endCode = some old) (code : EndCode) :
    p.endWith code = if old.rank < code.rank then ({ p with endCode := some code }, [.ended]) else (p, []) := by
  unfold Plan.endWith
  rw [ended, holds]

theorem endWith_of_uncoded {p : Plan} (none' : p.endCode = none) (code : EndCode) :
    p.endWith code = ({ p with state := .ended, prior := none, endCode := some code }, [.ended]) := by
  unfold Plan.endWith
  rw [none']
  cases p.state <;> rfl

theorem endWith_state (p : Plan) (code : EndCode) : (p.endWith code).1.state = .ended := by
  by_cases ended : p.state = .ended
  · cases holds : p.endCode with
    | none => rw [endWith_of_uncoded holds]
    | some old =>
      rw [endWith_of_ended ended holds]
      split <;> exact ended
  · rw [endWith_of_open ended]

theorem endWith_rank {p : Plan} {code k : EndCode} (h : (p.endWith code).1.endCode = some k) : code.rank ≤ k.rank := by
  have taken {q : Plan × List PlanState} (e : p.endWith code = q) (c : q.1.endCode = some code) : code.rank ≤ k.rank := by
    rw [e, c] at h
    cases h
    exact Nat.le_refl _
  by_cases ended : p.state = .ended
  · cases holds : p.endCode with
    | none => exact taken (endWith_of_uncoded holds code) rfl
    | some old =>
      have e := endWith_of_ended ended holds code
      split at e
      · exact taken e rfl
      · next lower =>
        rw [e, holds] at h
        cases h
        exact Nat.not_lt.mp lower
  · exact taken (endWith_of_open ended code) rfl

/-! ## Courses on a bay's plan -/

/-- The raisings of HEAT for the states entered (R92). -/
def courseRaises (b : BayNo) (c : Course) : List Notice :=
  c.2.map (fun st => Notice.raise b .heat (.heat st (if st = .ended then c.1.endCode else none)) false)

theorem takeCourse_changed {b : BayNo} {c : Course} {s : State}
    (changed : c.1.figures (s.dkuAt b).profile.heater ≠ (s.hplAt b).plan.figures (s.dkuAt b).profile.heater) : takeCourse b c s =
    (s.modHpl b (fun h => { h with plan := c.1 }), courseRaises b c ++ [.falTake b, .tellHeat b]) := by
  have changes : s.figuresChange b c.1 = true := bne_iff_ne.mpr changed
  unfold takeCourse carryCourse
  rw [changes, if_pos rfl, List.append_assoc]
  rfl

theorem takeCourse_same {b : BayNo} {c : Course} {s : State}
    (same : c.1.figures (s.dkuAt b).profile.heater = (s.hplAt b).plan.figures (s.dkuAt b).profile.heater) : takeCourse b c s =
    (s.modHpl b (fun h => { h with plan := c.1 }), courseRaises b c ++ [.tellHeat b]) := by
  have stays : s.figuresChange b c.1 = false := by simp [State.figuresChange, same]
  unfold takeCourse carryCourse
  rw [stays, if_neg (nofun), List.append_nil]
  rfl

theorem formCourse_eq (b : BayNo) (c : Course) (s : State) : formCourse b c s =
    (s.modHpl b (fun h => { h with plan := c.1 }), courseRaises b c ++ [.falTake b, .tellHeat b]) := by
  unfold formCourse carryCourse
  rw [if_pos rfl, List.append_assoc]
  rfl

theorem figures_eq (p : Plan) (heater : Option (Nat × Nat)) : p.figures heater =
    ((if p.state = .heating then RowClass.heating else if p.state = .holding then .holding else .none),
      (if p.state = .heating then match heater with | some h => h.1 | none => 0
        else if p.state = .holding then p.holdingStages else 0), p.scheduled) :=
  Prod.ext (rowClass_eq p) (Prod.ext (request_eq p heater) rfl)

/-! ## The start, the sample tests, suspension and resumption -/

section Clocked

variable (p : Plan) (k : HeatClock)

/-- What a plan does that enters HEATING (R88), and HOLDING. -/
def Plan.heats : Course := if k.assumed = true ∧ p.holdingPoint ≤ k.now then
  ({ p with state := .holding }, [.heating, .holding]) else ({ p with state := .heating }, [.heating])

def Plan.holds : Course := ({ p with state := .holding }, [.holding])

theorem enterHeating_eq : p.enterHeating k = p.heats k := rfl

theorem startEvaluation_early (early : k.now < p.start) : p.startEvaluation k = ({ p with state := .waiting }, []) := if_pos early

/-- A change of LATE or of the prior state goes through the entry of HEATING or HOLDING. -/
theorem heats_late (late : Bool) : ({ p with late := late } : Plan).heats k = ({ (p.heats k).1 with late := late }, (p.heats k).2) := by
  unfold Plan.heats
  dsimp only
  split <;> rfl

theorem heats_prior (prior : Option PlanState) :
    ({ p with prior := prior } : Plan).heats k = ({ (p.heats k).1 with prior := prior }, (p.heats k).2) := by
  unfold Plan.heats
  dsimp only
  split <;> rfl

/-- The state that a plan whose start is reached enters (R87). -/
def Plan.started : Course := if p.target.getD 0 - p.cabinUsed ≤ k.tolerance then p.holds else p.heats k

theorem startEvaluation_due (due : p.start ≤ k.now) : p.startEvaluation k =
    ({ (p.started k).1 with late := p.late || decide (p.start < k.now) }, (p.started k).2) := by
  unfold Plan.startEvaluation Plan.started
  dsimp only
  rw [if_neg (Nat.not_lt.mpr due), enterHeating_eq, heats_late]
  dsimp only
  show (if p.target.getD 0 - p.cabinUsed ≤ k.tolerance then _ else _) = _
  split <;> rfl

theorem sampleTest_ofHeating (heating : p.state = .heating) :
    p.sampleTest k = if p.target.getD 0 - p.cabinUsed ≤ k.tolerance then p.holds else (p, []) := by
  unfold Plan.sampleTest
  rw [heating]
  rfl

theorem sampleTest_ofHolding (holding : p.state = .holding) :
    p.sampleTest k = if 2 * k.tolerance < p.target.getD 0 - p.cabinUsed then ({ p with state := .heating }, [.heating])
      else (p, []) := by
  unfold Plan.sampleTest
  rw [holding]
  rfl

theorem sampleTest_other (a : p.state ≠ .heating) (b : p.state ≠ .holding) : p.sampleTest k = (p, []) := by
  unfold Plan.sampleTest
  split
  · next h => exact absurd h a
  · next h => exact absurd h b
  all_goals rfl

theorem suspend_running (running : p.state = .waiting ∨ p.state = .heating ∨ p.state = .holding) :
    p.suspend = ({ p with state := .suspended, prior := some p.state }, [.suspended]) :=
  if_pos (by rcases running with h | h | h <;> rw [h] <;> rfl)

theorem suspend_other (other : p.state = .none ∨ p.state = .suspended ∨ p.state = .ended) : p.suspend = (p, []) :=
  if_neg (by rcases other with h | h | h <;> rw [h] <;> nofun)

theorem resume_early (early : k.now < p.start) : p.resume k = ({ p with state := .waiting, prior := none }, [.waiting]) := if_pos early

theorem resume_fromHeating (due : p.start ≤ k.now) (prior : p.prior = some .heating) : p.resume k =
    ({ (p.started k).1 with prior := none }, (p.started k).2) := by
  unfold Plan.resume Plan.started
  dsimp only
  rw [if_neg (Nat.not_lt.mpr due), prior, enterHeating_eq, heats_prior]
  show (if p.target.getD 0 - p.cabinUsed ≤ k.tolerance then _ else _) = _
  split <;> rfl

theorem resume_fromHolding (due : p.start ≤ k.now) (prior : p.prior = some .holding) : p.resume k =
    let q := if 2 * k.tolerance < p.target.getD 0 - p.cabinUsed then p.heats k else p.holds
    ({ q.1 with prior := none }, q.2) := by
  unfold Plan.resume
  dsimp only
  rw [if_neg (Nat.not_lt.mpr due), prior, enterHeating_eq, heats_prior]
  show (if 2 * k.tolerance < p.target.getD 0 - p.cabinUsed then _ else _) = _
  split <;> rfl

theorem resume_fromWaiting (due : p.start ≤ k.now) (prior : p.prior = some .waiting) :
    p.resume k = ({ p with prior := none } : Plan).startEvaluation k := by
  unfold Plan.resume
  dsimp only
  rw [if_neg (Nat.not_lt.mpr due), prior]

theorem recomputed_eq : p.recomputed k =
    if p.state = .waiting then p.startEvaluation k
    else if p.state = .heating ∧ k.assumed = true ∧ p.holdingPoint ≤ k.now then p.holds
    else (p, []) := by
  unfold Plan.recomputed
  cases state : p.state with
  | heating =>
    show (if k.assumed = true ∧ p.holdingPoint ≤ k.now then p.holds else (p, [])) =
      (if PlanState.heating = .heating ∧ k.assumed = true ∧ p.holdingPoint ≤ k.now then p.holds else (p, []))
    simp only [true_and]
  | waiting => rfl
  | none => rfl
  | holding => rfl
  | suspended => rfl
  | ended => rfl

end Clocked

/-! ## The computation as the HPL makes it -/

theorem computed_some {b : BayNo} {p : Plan} {s : State} {target : Int} {time n w : Nat} (ht : p.target = some target)
    (hs : p.scheduled = some time) (hh : (s.dkuAt b).profile.heater = some (n, w)) :
    s.computed b p = p.compute (s.heatFigures b n w) target time := by
  unfold State.computed
  rw [ht, hs, hh]

theorem computed_none {b : BayNo} {p : Plan} {s : State}
    (h : p.target = none ∨ p.scheduled = none ∨ (s.dkuAt b).profile.heater = none) : s.computed b p = p := by
  unfold State.computed
  split
  · next target time n w ht hs hh => rw [ht, hs, hh] at h; simp at h
  · rfl

theorem assumed_eq (s : State) (b : BayNo) : s.heatClock b = ⟨s.clock.time, s.setting 7, decide ((s.hplAt b).sample = none)⟩ := by
  unfold State.heatClock
  cases (s.hplAt b).sample <;> rfl

theorem heatStops_iff (s : State) (b : BayNo) :
    ((s.hplAt b).coachStop || ((s.frdAt b).table.heatStop && !(s.frdAt b).retained)) = true ↔
      ((s.hplAt b).coachStop = true ∨ ((s.frdAt b).retained = false ∧
        ∃ e ∈ (s.frdAt b).table.entries, e.active = true ∧ e.heatStop = true)) := by
  unfold FaultTable.heatStop
  simp [and_comm]

theorem then_stopAtFormation (b : BayNo) (s : State) (c : Course) : c.then (s.stopAtFormation b) =
    if (s.hplAt b).coachStop = true ∨ ((s.frdAt b).retained = false ∧
      ∃ e ∈ (s.frdAt b).table.entries, e.active = true ∧ e.heatStop = true)
    then ((c.1.endWith .coachStop).1, c.2 ++ (c.1.endWith .coachStop).2) else c := by
  unfold Course.then State.stopAtFormation
  simp only [heatStops_iff]
  split
  · rfl
  · exact Prod.ext rfl (List.append_nil _)

/-- A plan's first course (R80, steps 3 and 4). -/
theorem launch_eq {b : BayNo} {p : Plan} {s : State} {target : Int} {time n w : Nat} (ht : p.target = some target)
    (hs : p.scheduled = some time) (hh : (s.dkuAt b).profile.heater = some (n, w)) : s.launch b p =
    let c := ({ p.compute (s.heatFigures b n w) target time with state := .waiting } : Plan).startEvaluation (s.heatClock b)
    if (s.hplAt b).causeLink = true ∨ (s.hplAt b).causeClearing = true then
      (c.1.suspend.1, PlanState.waiting :: c.2 ++ c.1.suspend.2) else (c.1, .waiting :: c.2) := by
  unfold State.launch
  rw [computed_some ht hs hh]
  simp only [Bool.or_eq_true]
  rfl

theorem computable_iff (s : State) (b : BayNo) (p : Plan) : s.computable b p = true ↔
    (s.dkuAt b).state = .docked ∧ p.target.isSome ∧ p.scheduled.isSome ∧ (s.dkuAt b).profile.heater.isSome := by
  simp only [State.computable, Bool.and_eq_true, beq_iff_eq, and_assoc]

theorem recompute_active {b : BayNo} {p : Plan} (none' : p.state ≠ .none) (open' : p.state ≠ .ended) (s : State) :
    s.recompute b p = (s.computed b p).recomputed (s.heatClock b) := by
  refine if_pos ?_
  cases h : p.state
  case none => exact absurd h none'
  case ended => exact absurd h open'
  all_goals rfl

theorem recompute_inactive {b : BayNo} {p : Plan} (h : p.state = .none ∨ p.state = .ended) (s : State) :
    s.recompute b p = (p, []) := by
  refine if_neg ?_
  rcases h with h | h <;> rw [h] <;> nofun

/-! ## Forming -/

section Forms

variable {b : BayNo} {docking : Bool} {s : State}

/-- The state a plan is formed in: a formation at DOCKED drops the LINK cause (R90). -/
def uncaused (b : BayNo) (docking : Bool) (s : State) : State := s.modHpl b (fun h => { h with causeLink := h.causeLink && !docking })

theorem uncaused_heatFigures (n w : Nat) : (uncaused b docking s).heatFigures b n w = s.heatFigures b n w := by
  unfold State.heatFigures uncaused
  rw [State.modHpl_hplAt_same]
  rfl

theorem uncaused_heatClock : (uncaused b docking s).heatClock b = s.heatClock b := by
  unfold State.heatClock uncaused
  rw [State.modHpl_hplAt_same]
  rfl

/-- The first course of a plan that is formed (R80, steps 1 to 4). -/
def formed (b : BayNo) (u : State) : Course :=
  let p := Plan.fresh (u.activeOf b)
  if u.computable b p then u.launch b p else { p with noHeater := u.lacksHeater b p }.enter .none

theorem hplForm_eq : hplForm b docking s =
    formCourse b (Course.then (formed b (uncaused b docking s)) ((uncaused b docking s).stopAtFormation b)) (uncaused b docking s) := rfl

/-- A plan that cannot be computed stays in NONE (R80, step 3). -/
theorem formed_stays {u : State} {d : Option Departure} (active : u.activeOf b = d)
    (no : u.computable b (Plan.fresh d) = false) :
    formed b u = ({ Plan.fresh d with noHeater := u.lacksHeater b (Plan.fresh d), state := .none }, [.none]) := by
  unfold formed
  rw [active]
  exact if_neg (by rw [no]; nofun)

/-- A plan that can be computed is launched (R80, steps 3 and 4). -/
theorem formed_launches {u : State} {d : Option Departure} (active : u.activeOf b = d)
    (yes : u.computable b (Plan.fresh d) = true) : formed b u = u.launch b (Plan.fresh d) := by
  unfold formed
  rw [active]
  exact if_pos yes

end Forms

theorem computable_of_no_target {s : State} {b : BayNo} {p : Plan} (none' : p.target = none) : s.computable b p = false := by
  simp [State.computable, none']

theorem computable_of_undocked {s : State} {b : BayNo} {p : Plan} (undocked : (s.dkuAt b).state ≠ .docked) :
    s.computable b p = false := by
  simp [State.computable, undocked]

theorem computable_of_no_heater {s : State} {b : BayNo} {p : Plan} (none' : (s.dkuAt b).profile.heater = none) :
    s.computable b p = false := by
  simp [State.computable, none']

theorem lacksHeater_of {s : State} {b : BayNo} {p : Plan} (h : (s.dkuAt b).state ≠ .docked ∨ p.target = none) :
    s.lacksHeater b p = false := by
  rcases h with h | h <;> simp [State.lacksHeater, h]

theorem lacksHeater_docked {s : State} {b : BayNo} {p : Plan} {target : Int} (docked : (s.dkuAt b).state = .docked)
    (some' : p.target = some target) (none' : (s.dkuAt b).profile.heater = none) : s.lacksHeater b p = true := by
  simp [State.lacksHeater, docked, some', none']

/-! ## Readiness -/

section Readiness

variable {s : State} {b : BayNo}

theorem readiness_of_none (none' : s.activeOf b = none) : s.readiness b = .notReady := by
  unfold State.readiness
  rw [none']

theorem readiness_of_no_target {d : Departure} (active : s.activeOf b = some d) (none' : d.target = none) :
    s.readiness b = .ready := by
  unfold State.readiness
  rw [active]
  dsimp only
  rw [none']
  rfl

theorem readiness_of_target {d : Departure} (active : s.activeOf b = some d) (some' : d.target ≠ none) :
    s.readiness b = (s.hplAt b).plan.readiness (s.hplAt b).causeLink := by
  unfold State.readiness
  rw [active]
  dsimp only
  exact if_neg (by simpa using some')

end Readiness

/-- A plan that is not SUSPENDED is as ready as its state and end code say (R98). -/
theorem readiness_of_running {p : Plan} (running : p.state ≠ .suspended) (causeLink : Bool) :
    p.readiness causeLink = readinessOf p.state p.endCode := by
  unfold Plan.readiness
  split
  · next h _ => exact absurd h running
  · rfl

theorem readiness_of_suspended {p : Plan} (suspended : p.state = .suspended) (causeLink : Bool) : p.readiness causeLink =
    if causeLink = false ∧ p.prior = some .holding then .ready else .notReady := by
  unfold Plan.readiness
  rw [suspended]
  cases p.prior with
  | none => simp [readinessOf]
  | some st => cases st <;> cases causeLink <;> rfl

theorem staleCondition_iff (h : Hpl) : h.staleCondition = true ↔
    h.plan.state ∈ [PlanState.waiting, .heating, .holding, .suspended] ∧ (h.stale = true ∨ h.sample = none) := by
  rw [staleCondition_eq, decide_eq_true_iff]

/-! ## Causes -/

theorem hplCauseDropped_eq (b : BayNo) (s : State) : hplCauseDropped b s =
    takeCourse b (if (s.hplAt b).plan.state = .suspended ∧ (s.hplAt b).causeLink = false ∧ (s.hplAt b).causeClearing = false then
      (s.computed b (s.hplAt b).plan).resume (s.heatClock b) else ((s.hplAt b).plan, [])) s := by
  unfold hplCauseDropped
  dsimp only
  split <;> rfl

section Amended

variable {s : State} {b : BayNo}

theorem hplAmended_ended (ended : (s.hplAt b).plan.state = .ended) : hplAmended b s = takeCourse b ((s.hplAt b).plan, []) s := by
  unfold hplAmended
  dsimp only
  split
  · rfl
  · exact if_pos ended

variable {d : Departure} (open' : (s.hplAt b).plan.state ≠ .ended) (active : s.activeOf b = some d)
include open' active

theorem hplAmended_no_target (none' : d.target = none) : hplAmended b s =
    takeCourse b ({ (s.hplAt b).plan with target := d.target, scheduled := some d.time } : Plan).toNone s := by
  unfold hplAmended
  rw [active]
  dsimp only
  rw [if_neg open', if_pos (by rw [none']; rfl)]

theorem hplAmended_forms {target : Int} (some' : d.target = some target) (none' : (s.hplAt b).plan.state = .none)
    (yes : s.computable b { (s.hplAt b).plan with target := d.target, scheduled := some d.time } = true) : hplAmended b s =
    formCourse b ((s.launch b { (s.hplAt b).plan with target := d.target, scheduled := some d.time }).then
      (s.stopAtFormation b)) s := by
  unfold hplAmended
  rw [active]
  dsimp only
  rw [if_neg open', if_neg (by rw [some']; nofun), if_pos none', if_pos yes]

theorem hplAmended_waits {target : Int} (some' : d.target = some target) (none' : (s.hplAt b).plan.state = .none)
    (no : s.computable b { (s.hplAt b).plan with target := d.target, scheduled := some d.time } = false) : hplAmended b s =
    takeCourse b ({ (s.hplAt b).plan with target := d.target, scheduled := some d.time }, []) s := by
  unfold hplAmended
  rw [active]
  dsimp only
  rw [if_neg open', if_neg (by rw [some']; nofun), if_pos none', if_neg (by rw [no]; nofun)]

theorem hplAmended_runs {target : Int} (some' : d.target = some target) (runs : (s.hplAt b).plan.state ≠ .none) : hplAmended b s =
    takeCourse b ((s.computed b { (s.hplAt b).plan with target := d.target, scheduled := some d.time }).recomputed
      (s.heatClock b)) s := by
  unfold hplAmended
  rw [active]
  dsimp only
  rw [if_neg open', if_neg (by rw [some']; nofun), if_neg runs,
    recompute_active (p := { (s.hplAt b).plan with target := d.target, scheduled := some d.time }) runs open']

end Amended

/-- Settles O37. -/
theorem planEndKeepsTheHighestCode : Obligations.PlanEndKeepsTheHighestCode := by
  refine ⟨fun p code => ⟨endWith_state p code, fun open' => ?_, fun old ended holds => ⟨fun lower => ?_, fun higher => ?_⟩,
      fun k h => endWith_rank h⟩, rfl, fun b c s => ⟨fun changed => ?_, fun same => ?_, formCourse_eq b c s⟩,
    fun b docking s => ⟨fun none' => ?_, fun d active => ⟨fun h => ?_, fun target docked some' => ⟨fun none' => ?_, fun n w heater => ?_⟩⟩⟩,
    fun p k => ?_, fun b s => ⟨fun ended => ⟨if_pos ended, hplAmended_ended ended⟩, fun open' => if_neg open', fun d open' active => ?_⟩,
    fun b p s => ⟨?_, computed_none, assumed_eq s b⟩, recomputed_eq, fun b t s => ?_, fun b s => ⟨?_, ?_⟩, fun b s => ?_⟩
  · rw [endWith_of_open open']
    exact ⟨rfl, rfl, rfl⟩
  · rw [endWith_of_ended ended holds, if_pos lower]
    exact ⟨rfl, rfl⟩
  · rw [endWith_of_ended ended holds, if_neg (Nat.not_lt.mpr higher)]
  · exact takeCourse_changed (fun e => changed ((figures_eq _ _).symm.trans (e.trans (figures_eq _ _))))
  · exact takeCourse_same ((figures_eq _ _).trans (same.trans (figures_eq _ _).symm))
  · rw [show handle (.hplForm b docking) s = _ from hplForm_eq, formed_stays (u := uncaused b docking s) none' (computable_of_no_target rfl),
      lacksHeater_of (p := Plan.fresh none) (.inr rfl), then_stopAtFormation]
    rfl
  · have no : (uncaused b docking s).computable b (Plan.fresh (some d)) = false := by
      rcases h with undocked | none'
      · exact computable_of_undocked undocked
      · exact computable_of_no_target none'
    rw [show handle (.hplForm b docking) s = _ from hplForm_eq, formed_stays (u := uncaused b docking s) active no,
      lacksHeater_of (s := uncaused b docking s) (p := Plan.fresh (some d)) h, then_stopAtFormation]
    rfl
  · have lacks : (uncaused b docking s).lacksHeater b (Plan.fresh (some d)) = true :=
      lacksHeater_docked docked some' none'
    rw [show handle (.hplForm b docking) s = _ from hplForm_eq, formed_stays (u := uncaused b docking s) active (computable_of_no_heater none'), lacks,
      then_stopAtFormation]
    rfl
  · have yes : (uncaused b docking s).computable b (Plan.fresh (some d)) = true :=
      (computable_iff ..).mpr ⟨docked, by rw [show (Plan.fresh (some d)).target = _ from some']; rfl, rfl, by
        rw [show ((uncaused b docking s).dkuAt b).profile.heater = _ from heater]; rfl⟩
    rw [show handle (.hplForm b docking) s = _ from hplForm_eq, formed_launches (u := uncaused b docking s) active yes, then_stopAtFormation,
      launch_eq (s := uncaused b docking s) (p := Plan.fresh (some d)) some' rfl heater, uncaused_heatFigures, uncaused_heatClock]
    rfl
  · refine ⟨rfl, startEvaluation_early p k, startEvaluation_due p k, sampleTest_ofHeating p k, sampleTest_ofHolding p k,
      sampleTest_other p k, suspend_running p, suspend_other p, resume_early p k, resume_fromHeating p k, resume_fromHolding p k,
      resume_fromWaiting p k⟩
  · refine ⟨hplAmended_no_target open' active, fun target some' none' => ⟨fun n w docked heater => ?_, fun h => ?_⟩,
      fun target some' runs => hplAmended_runs open' active some' runs⟩
    · have yes : s.computable b { (s.hplAt b).plan with target := d.target, scheduled := some d.time } = true :=
        (computable_iff ..).mpr ⟨docked, by rw [some']; rfl, rfl, by rw [heater]; rfl⟩
      rw [show handle (.hplAmended b) s = _ from hplAmended_forms open' active some' none' yes, then_stopAtFormation,
        launch_eq (p := { (s.hplAt b).plan with target := d.target, scheduled := some d.time }) some' rfl heater]
    · refine hplAmended_waits open' active some' none' ?_
      rcases h with undocked | none'
      · exact computable_of_undocked undocked
      · exact computable_of_no_heater none'
  · intro target time n w ht hs hh
    rw [computed_some ht hs hh]
    rfl
  · have plan : ((s.modHpl b (fun h => { h with
        sample := some (t, s.clock.time), stale := false
        staleTimer := if (s.dkuAt b).state = .docked then s.stalePeriod else h.staleTimer })).hplAt b).plan = (s.hplAt b).plan := by
      rw [State.modHpl_hplAt_same]
    refine ⟨fun h => ?_, fun none' open' => ?_⟩
    · show takeCourse b (Course.then _ _) _ = _
      rw [plan, recompute_inactive h]
      unfold Course.then
      dsimp only
      rw [sampleTest_other _ _ (by rcases h with h | h <;> rw [h] <;> nofun) (by rcases h with h | h <;> rw [h] <;> nofun)]
      rfl
    · show takeCourse b (Course.then _ _) _ = _
      rw [plan, recompute_active none' open']
      rfl
  · rfl
  · rfl
  · have kept (f : Hpl → Hpl) (h : (f (s.hplAt b)).plan = (s.hplAt b).plan) : ((s.modHpl b f).hplAt b).plan = (s.hplAt b).plan := by
      rw [State.modHpl_hplAt_same, h]
    refine ⟨readiness_of_none, fun d active => ⟨readiness_of_no_target active, fun some' => ?_⟩, staleCondition_iff _, ?_,
      fun code => rfl, ?_, ?_, ?_, ?_, rfl, rfl, ?_, ?_, rfl⟩
    · have e := readiness_of_target active some'
      refine ⟨fun ended code => ?_, fun ended code => ?_, fun ended code => ?_, fun holding => ?_, fun suspended => ?_,
        fun waits => ?_⟩
      all_goals rw [e]
      · rw [readiness_of_running (by rw [ended]; nofun), ended]
        simp only [List.mem_cons, List.not_mem_nil, or_false] at code
        rcases code with code | code | code <;> rw [code] <;> rfl
      · rw [readiness_of_running (by rw [ended]; nofun), ended, code]
        rfl
      · rw [readiness_of_running (by rw [ended]; nofun), ended]
        simp only [List.mem_cons, List.not_mem_nil, or_false] at code
        rcases code with code | code <;> rw [code] <;> rfl
      · rw [readiness_of_running (by rw [holding]; nofun), holding]
        rfl
      · exact readiness_of_suspended suspended _
      · simp only [List.mem_cons, List.not_mem_nil, or_false] at waits
        rcases waits with waits | waits | waits <;> rw [readiness_of_running (by rw [waits]; nofun), waits] <;> rfl
    · show takeCourse b _ _ = _
      rw [kept _ rfl]
    · show takeCourse b _ _ = _
      rw [kept _ rfl]
    · show takeCourse b _ _ = _
      rw [kept _ rfl]
    · refine (hplCauseDropped_eq b _).trans ?_
      rw [kept _ rfl]
    · refine (hplCauseDropped_eq b _).trans ?_
      rw [kept _ rfl]
    · show takeCourse b _ _ = _
      rw [kept _ rfl]
      rfl
    · show takeCourse b _ _ = _
      rw [kept _ rfl]

end Sys2Proof.Machine
end

section
/-! O60's lanes and wait order (R171, R173, R176). From any state a RESTART moves clearances in two ways only: a lane held
as GRANTED is released, and a FREE lane is granted to a RECALLED bay that waits. -/

namespace Sys2Proof.Machine

/-! ### Lanes -/

/-- A bay holds a lane as GRANTED. -/
def State.grants (s : State) (l : Lane) (b : BayNo) : Prop := (s.laneAt l).state = .granted ∧ (s.laneAt l).holder = some b

/-- No bay holds both lanes. -/
def State.SingleHolders (s : State) : Prop := ∀ b, ¬ (s.laneA.holder = some b ∧ s.laneB.holder = some b)

theorem single_other {s : State} (h : s.SingleHolders) {l m : Lane} {b : BayNo} (held : (s.laneAt l).holder = some b)
    (ne : m ≠ l) : (s.laneAt m).holder ≠ some b := fun held' => by
  cases l <;> cases m
  · exact ne rfl
  · exact h b ⟨held, held'⟩
  · exact h b ⟨held', held⟩
  · exact ne rfl

theorem single_of_lanes {s : State} (h : ∀ {l m : Lane} {b : BayNo}, (s.laneAt l).holder = some b → m ≠ l →
    (s.laneAt m).holder ≠ some b) : s.SingleHolders := fun _ both => h (l := .a) (m := .b) both.1 nofun both.2

theorem grantLane_laneAt (l m : Lane) (b : BayNo) (s : State) : (grantLane l b s).1.laneAt m =
    if m = l then { s.laneAt l with state := .granted, holder := some b } else s.laneAt m := by
  unfold grantLane
  dsimp only
  split <;> cases l <;> cases m <;> rfl

theorem grantLane_waitOrder (l : Lane) (b : BayNo) (s : State) :
    (grantLane l b s).1.waitOrder = s.waitOrder.filter (fun x => x != b) := by
  unfold grantLane
  dsimp only
  split <;> cases l <;> rfl

theorem grantLane_dpm (l : Lane) (b : BayNo) (s : State) : (grantLane l b s).1.dpm = s.dpm :=
  eq_of_still State.dpm (fun _ => rfl) (grantLane_still l b s)

theorem grantLane_recalled_state {b : BayNo} {s : State} (recalled : (s.clrAt b).state = .recalled) (l : Lane) (c : BayNo) :
    ((grantLane l b s).1.clrAt c).state = if c = b then .cleared else (s.clrAt c).state := by
  simp only [grantLane, if_pos recalled, Reaction.also, enterClear, setClear_clrAt_state, leaveOrder_clrAt, modLane_clrAt]

theorem grantedLane_grants {s : State} {b : BayNo} {l : Lane} (h : s.grantedLane b = some l) : s.grants l b := by
  unfold State.grantedLane at h
  split at h
  · next held => cases h; exact held
  · split at h
    · next held => cases h; exact held
    · cases h

theorem not_grants_of_grantedLane {s : State} {b : BayNo} (h : s.grantedLane b = none) (l : Lane) : ¬ s.grants l b := by
  unfold State.grantedLane at h
  split at h
  · cases h
  · next notA =>
    split at h
    · cases h
    · next notB =>
      cases l
      · exact notA
      · exact notB

/-- A lane's record once it is released (R173). -/
def LaneRecord.released (r : LaneRecord) : LaneRecord := ⟨if r.closePending then .closed else .free, none, false, none⟩

/-- What releasing a bay's GRANTED lane makes of each lane. -/
theorem laneReleaseOf_laneAt (b : BayNo) (s : State) (m : Lane) : (laneReleaseOf b s).1.laneAt m =
    if s.grantedLane b = some m then (s.laneAt m).released else s.laneAt m := by
  unfold laneReleaseOf
  cases h : s.grantedLane b with
  | none => rfl
  | some l =>
    by_cases e : m = l
    · subst e
      rw [if_pos rfl]
      exact State.modLane_laneAt ..
    · rw [if_neg (fun x => e (Option.some.inj x).symm)]
      exact State.modLane_laneAt_ne _ _ e

theorem laneReleaseOf_dpm (b : BayNo) (s : State) : (laneReleaseOf b s).1.dpm = s.dpm :=
  eq_of_still State.dpm (fun _ => rfl) (laneReleaseOf_still b s)

section Released

variable {b : BayNo} {s : State}

theorem released_holder {m : Lane} {c : BayNo} (held : ((laneReleaseOf b s).1.laneAt m).holder = some c) :
    (s.laneAt m).holder = some c ∧ (laneReleaseOf b s).1.laneAt m = s.laneAt m := by
  rw [laneReleaseOf_laneAt] at held ⊢
  split at held
  · cases held
  · next no => exact ⟨held, if_neg no⟩

theorem released_single (h : s.SingleHolders) : (laneReleaseOf b s).1.SingleHolders :=
  single_of_lanes fun held ne held' => single_other h (released_holder held).1 ne (released_holder held').1

theorem released_grants {m : Lane} {c : BayNo} (h : (laneReleaseOf b s).1.grants m c) : s.grants m c := by
  obtain ⟨granted, held⟩ := h
  obtain ⟨held', same⟩ := released_holder held
  exact ⟨same ▸ granted, held'⟩

/-- A bay whose GRANTED lane is released holds none, where it held but one. -/
theorem released_gone (h : s.SingleHolders) (m : Lane) : ¬ (laneReleaseOf b s).1.grants m b := by
  intro ⟨granted, held⟩
  obtain ⟨held', same⟩ := released_holder held
  cases which : s.grantedLane b with
  | none => exact not_grants_of_grantedLane which m ⟨same ▸ granted, held'⟩
  | some l =>
    by_cases e : m = l
    · rw [laneReleaseOf_laneAt, e, if_pos which] at held
      cases held
    · exact single_other h (grantedLane_grants which).2 e held'

theorem released_other {m : Lane} (other : (s.laneAt m).holder ≠ some b) : (laneReleaseOf b s).1.laneAt m = s.laneAt m := by
  rw [laneReleaseOf_laneAt]
  exact if_neg fun which => other (grantedLane_grants which).2

end Released

/-! ### A lane's course -/

section Course

variable (s : State)

/-- A lane is FREE, or granted to a bay that was RECALLED. -/
def Offered (u : State) (l : Lane) : Prop := u.laneAt l = ⟨.free, none, false, none⟩ ∨
  ∃ x, (s.clrAt x).state = .recalled ∧ u.laneAt l = ⟨.granted, some x, false, none⟩

/-- A lane has been released: CLOSED where a close was pending, else offered. -/
def Released (u : State) (l : Lane) : Prop :=
  if (s.laneAt l).closePending = true then u.laneAt l = ⟨.closed, none, false, none⟩ else Offered s u l

/-- What a lane can have become: a plain FREE or a GRANTED lane is as it was or has been released; a PASSAGE_WAIT or CLOSED
one is as it was. Of a FREE lane with a holder or marks, which no run reaches, nothing is said. -/
def LaneCourse (u : State) (l : Lane) : Prop :=
  ((s.laneAt l).state = .free ∧ s.laneAt l ≠ ⟨.free, none, false, none⟩) ∨ u.laneAt l = s.laneAt l ∨
    (((s.laneAt l).state = .granted ∨ s.laneAt l = ⟨.free, none, false, none⟩) ∧ Released s u l)

variable {s}

theorem Offered.of_lane {u v : State} {l : Lane} (h : Offered s u l) (same : v.laneAt l = u.laneAt l) : Offered s v l := by
  unfold Offered
  rw [same]
  exact h

theorem Released.of_lane {u v : State} {l : Lane} (h : Released s u l) (same : v.laneAt l = u.laneAt l) : Released s v l := by
  unfold Released Offered
  rw [same]
  exact h

theorem LaneCourse.of_lane {u v : State} {l : Lane} (h : LaneCourse s u l) (same : v.laneAt l = u.laneAt l) : LaneCourse s v l := by
  unfold LaneCourse
  rw [same]
  exact h.imp id (Or.imp id (And.imp id fun r => r.of_lane same))

theorem Offered.pending {u : State} {l : Lane} (h : Offered s u l) : (u.laneAt l).closePending = false := by
  rcases h with e | ⟨x, -, e⟩ <;> rw [e]

theorem Released.closed {u : State} {l : Lane} (h : Released s u l) :
    (u.laneAt l).state = .closed ∨ (¬ (s.laneAt l).closePending = true ∧ Offered s u l) := by
  unfold Released at h
  split at h
  · rw [h]; exact .inl rfl
  · next no => exact .inr ⟨no, h⟩

theorem LaneCourse.grant {u : State} {l : Lane} (h : LaneCourse s u l) (free : (u.laneAt l).state = .free) {x : BayNo}
    (recalled : (s.clrAt x).state = .recalled) : LaneCourse s (grantLane l x u).1 l := by
  have lane : (grantLane l x u).1.laneAt l = { u.laneAt l with state := .granted, holder := some x } :=
    (grantLane_laneAt l l x u).trans (if_pos rfl)
  have granted {r : LaneRecord} (e : u.laneAt l = r) (none' : r.closePending = false ∧ r.timer = none) :
      Offered s (grantLane l x u).1 l := by
    refine .inr ⟨x, recalled, ?_⟩
    simp only [lane, e, none'.1, none'.2]
  rcases h with odd | same | ⟨from', released⟩
  · exact .inl odd
  · by_cases plain : s.laneAt l = ⟨.free, none, false, none⟩
    · refine .inr (.inr ⟨.inr plain, ?_⟩)
      unfold Released
      rw [if_neg (by rw [plain]; nofun)]
      exact granted (same.trans plain) ⟨rfl, rfl⟩
    · exact .inl ⟨by rw [← same]; exact free, plain⟩
  · rcases released.closed with closed | ⟨no, offered | ⟨y, -, e⟩⟩
    · rw [closed] at free; cases free
    · refine .inr (.inr ⟨from', ?_⟩)
      unfold Released
      rw [if_neg no]
      exact granted offered ⟨rfl, rfl⟩
    · rw [e] at free; cases free

theorem LaneCourse.release {u v : State} {l : Lane} (h : LaneCourse s u l) (granted : (u.laneAt l).state = .granted)
    (lane : v.laneAt l = (u.laneAt l).released) : LaneCourse s v l := by
  rcases h with odd | same | ⟨from', released⟩
  · exact .inl odd
  · refine .inr (.inr ⟨.inl (by rw [← same]; exact granted), ?_⟩)
    unfold Released Offered
    rw [lane, same]
    unfold LaneRecord.released
    split
    · rfl
    · exact .inl rfl
  · rcases released.closed with closed | ⟨no, offered⟩
    · rw [closed] at granted; cases granted
    · refine .inr (.inr ⟨from', ?_⟩)
      unfold Released
      rw [if_neg no]
      refine .inl ?_
      rw [lane]
      unfold LaneRecord.released
      rw [offered.pending]
      rfl

theorem LaneCourse.releaseOf {u : State} {l : Lane} (h : LaneCourse s u l) (b : BayNo) : LaneCourse s (laneReleaseOf b u).1 l := by
  have lane := laneReleaseOf_laneAt b u l
  split at lane
  · next which => exact h.release (grantedLane_grants which).1 lane
  · exact h.of_lane lane

/-- A GRANTED lane that its holder holds no more has been released. -/
theorem LaneCourse.of_gone {u : State} {l : Lane} {b : BayNo} (h : LaneCourse s u l) (held : s.grants l b) (gone : ¬ u.grants l b) :
    Released s u l := by
  obtain ⟨granted, holder⟩ := held
  rcases h with ⟨free, -⟩ | same | ⟨-, released⟩
  · rw [granted] at free; cases free
  · exact absurd ⟨same ▸ granted, same ▸ holder⟩ gone
  · exact released

theorem LaneCourse.parked {u : State} {l : Lane} (h : LaneCourse s u l)
    (parked : (s.laneAt l).state = .passageWait ∨ (s.laneAt l).state = .closed) : u.laneAt l = s.laneAt l := by
  rcases h with ⟨free, -⟩ | same | ⟨granted | plain, -⟩
  · rw [free] at parked; rcases parked with h | h <;> cases h
  · exact same
  · rw [granted] at parked; rcases parked with h | h <;> cases h
  · rw [plain] at parked; rcases parked with h | h <;> cases h

theorem LaneCourse.plain {u : State} {l : Lane} (h : LaneCourse s u l) (plain : s.laneAt l = ⟨.free, none, false, none⟩) :
    Offered s u l := by
  rcases h with ⟨-, odd⟩ | same | ⟨-, released⟩
  · exact absurd plain odd
  · exact .inl (same.trans plain)
  · unfold Released at released
    rwa [if_neg (by rw [plain]; nofun)] at released

end Course

/-! ### The traffic of a RESTART -/

/-- What lanes, wait order, clearance states and reported hold sets can have become, where the bays that were neither CLEARED
nor RECALLED stand in the states given. -/
structure Traffic (s : State) (inside : BayNo → ClearState) (u : State) : Prop where
  order : ∀ b ∈ u.waitOrder, (s.clrAt b).state = .recalled ∧ (u.clrAt b).state = .recalled
  lanes : ∀ l, LaneCourse s u l
  single : s.SingleHolders → u.SingleHolders
  recalled : ∀ b, (s.clrAt b).state = .recalled → (u.clrAt b).state.isOut = true
  cleared : ∀ b, (s.clrAt b).state = .cleared →
    (u.clrAt b).state = .cleared ∧ (∀ l, s.grants l b → u.laneAt l = s.laneAt l) ∨
      (u.clrAt b).state = .recalled ∧ (s.SingleHolders → ∀ l, ¬ u.grants l b)
  inside : ∀ b, (s.clrAt b).state.isOut = false → (u.clrAt b).state = inside b
  wait : ∀ b ∈ s.waitOrder, (s.clrAt b).state = .recalled → (u.clrAt b).state = .recalled →
    b ∈ u.waitOrder ∨ (u.dpmAt b).reported.held = true
  sub : (∀ b, (u.dpmAt b).reported = (s.dpmAt b).reported) → u.waitOrder.Sublist s.waitOrder

/-- A CLEARED or RECALLED bay is CLEARED or RECALLED. -/
theorem Traffic.out {s u : State} {inside : BayNo → ClearState} (h : Traffic s inside u) {b : BayNo}
    (out : (s.clrAt b).state.isOut = true) : (u.clrAt b).state.isOut = true := by
  cases was : (s.clrAt b).state
  case cleared => rcases h.cleared b was with ⟨e, -⟩ | ⟨e, -⟩ <;> rw [e] <;> rfl
  case recalled => exact h.recalled b was
  all_goals rw [was] at out; cases out

/-- Two states with the same lanes, wait order, clearance states and reported hold sets. -/
structure SameTraffic (u v : State) : Prop where
  lane : ∀ l, v.laneAt l = u.laneAt l
  order : v.waitOrder = u.waitOrder
  state : ∀ b, (v.clrAt b).state = (u.clrAt b).state
  reported : ∀ b, (v.dpmAt b).reported = (u.dpmAt b).reported

theorem laneAt_congr {u v : State} (a : v.laneA = u.laneA) (b : v.laneB = u.laneB) (l : Lane) : v.laneAt l = u.laneAt l := by
  cases l
  · exact a
  · exact b

theorem SameTraffic.of_outside {u v : State} {k : Writer} (frame : v.outside k = u.outside k)
    (clr : ∀ x : State, (x.outside k).clr = x.clr) (a : ∀ x : State, (x.outside k).laneA = x.laneA)
    (b : ∀ x : State, (x.outside k).laneB = x.laneB) (order : ∀ x : State, (x.outside k).waitOrder = x.waitOrder)
    (dpm : ∀ x : State, (x.outside k).dpm = x.dpm) : SameTraffic u v := by
  have clr' : v.clr = u.clr := eq_of_outside State.clr clr frame
  have dpm' : v.dpm = u.dpm := eq_of_outside State.dpm dpm frame
  exact ⟨laneAt_congr (eq_of_outside State.laneA a frame) (eq_of_outside State.laneB b frame),
    eq_of_outside State.waitOrder order frame, fun c => by simp only [State.clrAt, clr'], fun c => by simp only [State.dpmAt, dpm']⟩

section

variable {s u v : State} {inside : BayNo → ClearState}

theorem grants_congr (lane : ∀ l, v.laneAt l = u.laneAt l) (l : Lane) (b : BayNo) : v.grants l b ↔ u.grants l b := by
  unfold State.grants
  rw [lane]

theorem single_congr (h : u.SingleHolders) (lane : ∀ l, v.laneAt l = u.laneAt l) : v.SingleHolders :=
  single_of_lanes fun {l m b} held ne => by
    rw [lane] at held ⊢
    exact single_other h held ne

theorem Traffic.of_same (h : Traffic s inside u) (same : SameTraffic u v) : Traffic s inside v := by
  obtain ⟨lane, order, state, reported⟩ := same
  refine ⟨fun b m => ?_, fun l => (h.lanes l).of_lane (lane l), fun single => single_congr (h.single single) lane, fun b r => ?_,
    fun b c => ?_, fun b i => ?_, fun b m r r' => ?_, fun all => ?_⟩
  · rw [state]; exact h.order b (order ▸ m)
  · rw [state]; exact h.recalled b r
  · simp only [state, lane, grants_congr lane]; exact h.cleared b c
  · rw [state]; exact h.inside b i
  · rw [order, reported]; exact h.wait b m r (state b ▸ r')
  · rw [order]; exact h.sub fun b => (reported b).symm.trans (all b)

/-- A FREE lane granted to a bay of the wait order. -/
theorem Traffic.grant (h : Traffic s inside u) {l : Lane} {x : BayNo} (free : (u.laneAt l).state = .free)
    (holdsNone : u.holdsLane x = false) (waits : x ∈ u.waitOrder) : Traffic s inside (grantLane l x u).1 := by
  obtain ⟨was, recalled⟩ := h.order x waits
  have state (c : BayNo) := grantLane_recalled_state recalled l c
  have stateNe {c : BayNo} (ne : c ≠ x) : ((grantLane l x u).1.clrAt c).state = (u.clrAt c).state := (state c).trans (if_neg ne)
  have lane (m : Lane) (ne : m ≠ l) : (grantLane l x u).1.laneAt m = u.laneAt m := (grantLane_laneAt l m x u).trans (if_neg ne)
  have laneSame : (grantLane l x u).1.laneAt l = { u.laneAt l with state := .granted, holder := some x } :=
    (grantLane_laneAt l l x u).trans (if_pos rfl)
  have order (c : BayNo) (m : c ∈ (grantLane l x u).1.waitOrder) : c ∈ u.waitOrder ∧ c ≠ x := by
    rw [grantLane_waitOrder] at m
    simpa using m
  have reported (c : BayNo) : ((grantLane l x u).1.dpmAt c).reported = (u.dpmAt c).reported := by
    simp only [State.dpmAt, grantLane_dpm]
  have free' (m : Lane) : (u.laneAt m).holder ≠ some x := by
    rw [Bool.eq_false_iff, ne_eq, holdsLane_iff, not_or] at holdsNone
    cases m
    · exact holdsNone.1
    · exact holdsNone.2
  refine ⟨fun b m => ?_, fun m => ?_, fun single => ?_, fun b r => ?_, fun b c => ?_, fun b i => ?_, fun b m r r' => ?_, fun all => ?_⟩
  · obtain ⟨m, ne⟩ := order b m
    rw [stateNe ne]; exact h.order b m
  · by_cases e : m = l
    · rw [e]; exact (h.lanes l).grant free was
    · exact (h.lanes m).of_lane (lane m e)
  · have single := h.single single
    refine single_of_lanes fun {m k b} held ne => ?_
    by_cases e : m = l
    · subst e
      rw [laneSame] at held
      rw [lane k ne, ← Option.some.inj held]
      exact free' k
    · rw [lane m e] at held
      by_cases e' : k = l
      · rw [e', laneSame]
        intro same
        exact free' m (held.trans same.symm)
      · rw [lane k e']
        exact single_other single held ne
  · rw [state b]
    split
    · rfl
    · exact h.recalled b r
  · have ne : b ≠ x := fun e => by rw [e, was] at c; cases c
    rw [stateNe ne]
    rcases h.cleared b c with ⟨still, kept⟩ | ⟨now, gone⟩
    · refine .inl ⟨still, fun m held => ?_⟩
      have notFree : m ≠ l := fun e => by
        rw [← e, kept m held, held.1] at free; cases free
      rw [lane m notFree]
      exact kept m held
    · refine .inr ⟨now, fun single m held => ?_⟩
      by_cases e : m = l
      · rw [e] at held
        have := held.2
        rw [laneSame] at this
        exact ne (Option.some.inj this).symm
      · exact gone single m ⟨lane m e ▸ held.1, lane m e ▸ held.2⟩
  · have ne : b ≠ x := fun e => by rw [e, was] at i; cases i
    rw [stateNe ne]; exact h.inside b i
  · have ne : b ≠ x := fun e => by rw [e, state x, if_pos rfl] at r'; cases r'
    rw [stateNe ne] at r'
    rw [reported]
    refine (h.wait b m r r').imp (fun m => ?_) id
    rw [grantLane_waitOrder]
    exact List.mem_filter.mpr ⟨m, bne_iff_ne.mpr ne⟩
  · rw [grantLane_waitOrder]
    exact List.filter_sublist.trans (h.sub fun b => (reported b).symm.trans (all b))

/-- A bay that was not RECALLED and holds no GRANTED lane gets none by a grant. -/
theorem gone_grant (h : Traffic s inside u) {l : Lane} {x : BayNo} (waits : x ∈ u.waitOrder) {b : BayNo}
    (other : (s.clrAt b).state ≠ .recalled) (gone : ∀ m, ¬ u.grants m b) (m : Lane) : ¬ (grantLane l x u).1.grants m b := by
  rintro ⟨granted, held⟩
  rw [grantLane_laneAt] at granted held
  split at granted
  · next e =>
    rw [if_pos e] at held
    exact other (Option.some.inj held ▸ (h.order x waits).1)
  · next e =>
    rw [if_neg e] at held
    exact gone m ⟨granted, held⟩

/-- What is kept while lanes are offered: any property of the traffic that a grant keeps. -/
theorem offers_kept {Q : State → Prop} (same : ∀ {u v}, SameTraffic u v → Q u → Q v)
    (order : ∀ {u}, Q u → u.RecalledWait) (grant : ∀ {l x u}, Q u → (u.laneAt l).state = .free → u.holdsLane x = false →
      x ∈ u.waitOrder → Q (grantLane l x u).1) : KeptByNotices (fun ns u => (∀ n ∈ ns, n.offers) ∧ Q u) where
  taken n ns u h := by
    obtain ⟨offers, q⟩ := h
    have rest : ∀ m ∈ ns, m.offers := fun m mem => offers m (List.mem_cons_of_mem _ mem)
    have granted {l : Lane} {x : BayNo} (free : (u.laneAt l).state = .free) (none' : u.holdsLane x = false) (waits : x ∈ u.waitOrder) :
        (∀ m ∈ (grantLane l x u).2 ++ ns, m.offers) ∧ Q (grantLane l x u).1 := by
      refine ⟨fun m mem => ?_, grant q free none' waits⟩
      rcases List.mem_append.mp mem with mem | mem
      · have recalled : (u.clrAt x).state = .recalled := order q x waits
        simp only [grantLane, if_pos recalled, Reaction.also, enterClear, List.mem_append, List.mem_singleton] at mem
        rcases mem with rfl | rfl <;> exact trivial
      · exact rest m mem
    obtain ⟨b, k, r, q', rfl⟩ | ⟨k, r, rfl⟩ | ⟨l, rfl⟩ | ⟨b, rfl⟩ := Notice.offers_cases (offers n List.mem_cons_self)
    · exact ⟨rest, same (.of_outside (handle_outside (.raise b k r q') u) (fun _ => rfl) (fun _ => rfl) (fun _ => rfl)
        (fun _ => rfl) (fun _ => rfl)) q⟩
    · exact ⟨rest, same (.of_outside (handle_outside (.raiseHall k r) u) (fun _ => rfl) (fun _ => rfl) (fun _ => rfl)
        (fun _ => rfl) (fun _ => rfl)) q⟩
    · unfold handle laneOffer
      dsimp only
      split
      case isTrue free =>
        split
        case h_1 b found =>
          exact granted free (mayBeGranted_holdsLane (List.find?_some (p := fun b => u.mayBeGranted b l) found))
            (List.mem_of_find?_eq_some found)
        · exact ⟨rest, q⟩
      · exact ⟨rest, q⟩
    · unfold handle clrOfferTo
      dsimp only
      split
      case isTrue waits =>
        have waits := List.contains_iff_mem.mp waits
        split
        case isTrue offered => exact granted (l := .a) offered.1 (mayBeGranted_holdsLane offered.2) waits
        · split
          case isTrue offered => exact granted (l := .b) offered.1 (mayBeGranted_holdsLane offered.2) waits
          · exact ⟨rest, q⟩
      · exact ⟨rest, q⟩
  leftOver ns u h := by
    have left : SameTraffic u { u with unfinished := u.unfinished ++ ns } :=
      ⟨fun l => by cases l <;> rfl, rfl, fun _ => rfl, fun _ => rfl⟩
    exact ⟨fun _ mem => absurd mem List.not_mem_nil, same left h.2⟩

/-- The GRANTED lane of a bay released that was not CLEARED, or is RECALLED with it. -/
theorem Traffic.releaseOf (h : Traffic s inside u) (b : BayNo) (own : (s.clrAt b).state = .cleared → (u.clrAt b).state = .recalled) :
    Traffic s inside (laneReleaseOf b u).1 := by
  have reported (c : BayNo) : ((laneReleaseOf b u).1.dpmAt c).reported = (u.dpmAt c).reported := by
    simp only [State.dpmAt, laneReleaseOf_dpm]
  refine ⟨fun c m => ?_, fun l => (h.lanes l).releaseOf b, fun single => released_single (h.single single), fun c r => ?_, fun c was => ?_,
    fun c i => ?_, fun c m r r' => ?_, fun all => ?_⟩
  · rw [laneReleaseOf_clrAt]; exact h.order c (laneReleaseOf_waitOrder b u ▸ m)
  · rw [laneReleaseOf_clrAt]; exact h.recalled c r
  · rw [laneReleaseOf_clrAt]
    rcases h.cleared c was with ⟨still, kept⟩ | ⟨now, gone⟩
    · refine .inl ⟨still, fun l held => ?_⟩
      have ne : c ≠ b := fun e => by
        rw [e] at still was
        rw [own was] at still; cases still
      rw [released_other (by rw [kept l held, held.2]; exact fun e => ne (Option.some.inj e)), kept l held]
    · exact .inr ⟨now, fun single l held => gone single l (released_grants held)⟩
  · rw [laneReleaseOf_clrAt]; exact h.inside c i
  · rw [laneReleaseOf_clrAt] at r'
    rw [laneReleaseOf_waitOrder, reported]; exact h.wait c m r r'
  · rw [laneReleaseOf_waitOrder]; exact h.sub fun c => (reported c).symm.trans (all c)

end

end Sys2Proof.Machine
end

section
/-! O60's lanes and wait order, step by step (R176): the releases of CLEARING bays, the states set from the sensors, and the
hold sets derived anew. -/

namespace Sys2Proof.Machine

/-- Something done to every bay once: an invariant of the bays still to come and the state. -/
theorem forBays_remaining {P : List BayNo → State → Prop} {f : BayNo → State → State}
    (step : ∀ b bs s, b ∉ bs → P (b :: bs) s → P bs (f b s)) {s : State} (start : P allBays s) : P [] (forBays f s) := by
  suffices ∀ bs : List BayNo, bs.Nodup → ∀ t, P bs t → P [] (bs.foldl (fun t b => f b t) t) from this allBays allBays_nodup s start
  intro bs
  induction bs with
  | nil => exact fun _ _ h => h
  | cons b bs ih =>
    intro nodup t h
    obtain ⟨out, nodup⟩ := List.nodup_cons.mp nodup
    exact ih nodup (f b t) (step b bs t out h)

/-! ### Lanes offered -/

section

variable {s u : State} {inside : BayNo → ClearState} (R G : BayNo → Prop)

/-- Beside the traffic: the bays still to come report as they did, and CLEARED ones are CLEARED; and bays that were not RECALLED
hold no GRANTED lane. -/
structure Sorted (s : State) (inside : BayNo → ClearState) (R G : BayNo → Prop) (u : State) : Prop where
  traffic : Traffic s inside u
  reported : ∀ b, R b → (u.dpmAt b).reported = (s.dpmAt b).reported
  cleared : ∀ b, R b → (s.clrAt b).state = .cleared → (u.clrAt b).state = .cleared
  gone : ∀ b, G b → ∀ l, ¬ u.grants l b

variable {R G}

theorem Sorted.of_same (h : Sorted s inside R G u) {v : State} (same : SameTraffic u v) : Sorted s inside R G v := by
  obtain ⟨traffic, reported, cleared, gone⟩ := h
  refine ⟨traffic.of_same same, fun b r => (same.reported b).trans (reported b r), fun b r c => (same.state b).trans (cleared b r c),
    fun b g l => ?_⟩
  rw [grants_congr same.lane]
  exact gone b g l

theorem Sorted.grant (other : ∀ b, G b → (s.clrAt b).state ≠ .recalled) (h : Sorted s inside R G u) {l : Lane} {x : BayNo}
    (free : (u.laneAt l).state = .free) (holdsNone : u.holdsLane x = false) (waits : x ∈ u.waitOrder) :
    Sorted s inside R G (grantLane l x u).1 := by
  obtain ⟨was, recalled⟩ := h.traffic.order x waits
  refine ⟨h.traffic.grant free holdsNone waits, fun b r => ?_, fun b r c => ?_, fun b g =>
    gone_grant h.traffic waits (other b g) (h.gone b g)⟩
  · simp only [State.dpmAt, grantLane_dpm]
    exact h.reported b r
  · rw [grantLane_recalled_state recalled, if_neg (fun e => by rw [e, was] at c; cases c)]
    exact h.cleared b r c

theorem Sorted.run (other : ∀ b, G b → (s.clrAt b).state ≠ .recalled) (k : Nat) {ns : List Notice} (offers : ∀ n ∈ ns, n.offers)
    (h : Sorted s inside R G u) : Sorted s inside R G (run k ns u) :=
  ((offers_kept (Q := Sorted s inside R G) (fun same h => h.of_same same) (fun h b m => (h.traffic.order b m).2)
    (fun h => h.grant other)).run k ⟨offers, h⟩).2

end

/-! ### The releases of CLEARING bays -/

theorem restartOrder_traffic {s c : State} (same : SameClearances s c) : Traffic s (fun b => (s.clrAt b).state) (restartOrder c) := by
  have clr (b : BayNo) : (restartOrder c).clrAt b = s.clrAt b := by
    show bayAt c.clr b = bayAt s.clr b
    rw [same.clr]
  have lane (l : Lane) : (restartOrder c).laneAt l = s.laneAt l :=
    (laneAt_congr (u := c) rfl rfl l).trans (laneAt_congr same.laneA same.laneB l)
  have kept (b : BayNo) : b ∈ (restartOrder c).waitOrder ↔ b ∈ s.waitOrder ∧ (s.clrAt b).state = .recalled := by
    have filtered : (restartOrder c).waitOrder = c.waitOrder.filter (fun b => (c.clrAt b).state == .recalled) := rfl
    rw [filtered, List.mem_filter, same.order, beq_iff_eq, State.clrAt, same.clr]
    rfl
  refine ⟨fun b m => ?_, fun l => .inr (.inl (lane l)), fun single => single_congr single lane, fun b r => ?_, fun b was => .inl ⟨?_, fun l _ => lane l⟩,
    fun b _ => congrArg Clr.state (clr b), fun b m r _ => .inl ((kept b).mpr ⟨m, r⟩), fun _ => ?_⟩
  · have recalled := ((kept b).mp m).2
    exact ⟨recalled, (congrArg Clr.state (clr b)).trans recalled⟩
  · rw [clr, r]; rfl
  · rw [clr, was]
  · show (c.waitOrder.filter _).Sublist _
    rw [same.order]
    exact List.filter_sublist

theorem restartOrder_dpm (s : State) : (restartOrder s).dpm = s.dpm := rfl
theorem restartOrder_clrAt (s : State) (b : BayNo) : (restartOrder s).clrAt b = s.clrAt b := rfl

theorem restartOrder_sorted {s c : State} (same : SameClearances s c) :
    Sorted s (fun b => (s.clrAt b).state) (fun _ => True) (fun _ => False) (restartOrder c) := by
  refine ⟨restartOrder_traffic same, fun b _ => ?_, fun b _ was => ?_, nofun⟩
  · rw [State.dpmAt, restartOrder_dpm, same.dpm]
    rfl
  · rw [restartOrder_clrAt, State.clrAt, same.clr]
    exact was

section

variable {s : State} {inside : BayNo → ClearState}

theorem restartUnclear_sameTraffic (b : BayNo) (u : State) : SameTraffic u (restartUnclear b u) :=
  ⟨fun l => by cases l <;> rfl, rfl, fun c => by by_cases e : c = b <;> simp [restartUnclear, e], fun _ => rfl⟩

theorem restartClearing_sorted {R G : BayNo → Prop} (other : ∀ b, G b → (s.clrAt b).state = .clearing) {u : State}
    (h : Sorted s inside R G u) (b : BayNo) (notOut : (u.clrAt b).state = .clearing → (s.clrAt b).state.isOut = false) :
    Sorted s inside R G (restartClearing b u) ∧
      ((u.clrAt b).state = .clearing → s.SingleHolders → (s.clrAt b).state = .clearing →
        ∀ l, ¬ (restartClearing b u).grants l b) := by
  have notRecalled (c : BayNo) (g : G c) : (s.clrAt c).state ≠ .recalled := by rw [other c g]; nofun
  by_cases clearing : (u.clrAt b).state = .clearing
  · rw [restartClearing_of_clearing clearing]
    have out := notOut clearing
    have released : Traffic s inside (laneReleaseOf b (restartUnclear b u)).1 :=
      (h.traffic.of_same (restartUnclear_sameTraffic b u)).releaseOf b fun c => by rw [c] at out; cases out
    have released_reported (c : BayNo) : ((laneReleaseOf b (restartUnclear b u)).1.dpmAt c).reported = (u.dpmAt c).reported := by
      simp only [State.dpmAt, laneReleaseOf_dpm]
      rfl
    have released_state (c : BayNo) : ((laneReleaseOf b (restartUnclear b u)).1.clrAt c).state = (u.clrAt c).state := by
      rw [laneReleaseOf_clrAt]
      exact (restartUnclear_sameTraffic b u).state c
    have sorted : Sorted s inside R G (laneReleaseOf b (restartUnclear b u)).1 :=
      ⟨released, fun c r => (released_reported c).trans (h.reported c r), fun c r was => (released_state c).trans (h.cleared c r was), fun c g l held =>
        h.gone c g l ((grants_congr (restartUnclear_sameTraffic b u).lane l c).mp (released_grants held))⟩
    have offers : ∀ n ∈ (laneReleaseOf b (restartUnclear b u)).2, n.offers :=
      laneReleaseOf_all (fun _ => trivial) (fun _ => trivial) (fun _ => trivial) b _
    refine ⟨sorted.run notRecalled _ offers, fun _ single was => ?_⟩
    have gone : Sorted s inside (fun _ => False) (fun c => c = b) (laneReleaseOf b (restartUnclear b u)).1 := by
      refine ⟨released, nofun, nofun, ?_⟩
      rintro c rfl l
      exact released_gone (single_congr (h.traffic.single single) (restartUnclear_sameTraffic c u).lane) l
    exact (gone.run (by rintro c rfl; rw [was]; nofun) _ offers).gone b rfl
  · rw [restartClearing_of_other clearing]
    exact ⟨h, fun c => absurd c clearing⟩

end

/-- A bay that is CLEARING was neither CLEARED nor RECALLED. -/
theorem inside_of_clearing {s u : State} {inside : BayNo → ClearState} (h : Traffic s inside u) {b : BayNo}
    (now : (u.clrAt b).state = .clearing) : (s.clrAt b).state.isOut = false := by
  refine Classical.byContradiction fun out => ?_
  have := h.out (Bool.not_eq_false _ ▸ out)
  rw [now] at this
  cases this

/-- The CLEARING bays whose lanes have been released. -/
def clearedOf (s : State) (done : BayNo → Prop) (b : BayNo) : Prop := s.SingleHolders ∧ (s.clrAt b).state = .clearing ∧ done b

theorem restartReleased_sorted (s : State) :
    Sorted s (fun b => (s.clrAt b).state) (fun _ => True) (clearedOf s (fun _ => True)) (restartReleased s) := by
  have start := restartOrder_sorted (restartCore_sameClearances s)
  have steps := forBays_remaining (P := fun bs u =>
    Sorted s (fun b => (s.clrAt b).state) (fun _ => True) (clearedOf s (· ∉ bs)) u) (f := restartClearing)
    (s := restartOrder (restartCore s)) (fun b bs u out h => ?_)
    ⟨start.traffic, start.reported, start.cleared, fun b g => absurd (mem_allBays b) g.2.2⟩
  · exact ⟨steps.traffic, steps.reported, steps.cleared, fun b g => steps.gone b ⟨g.1, g.2.1, List.not_mem_nil⟩⟩
  · have inside (now : (u.clrAt b).state = .clearing) : (s.clrAt b).state.isOut = false := inside_of_clearing h.traffic now
    obtain ⟨kept, own⟩ := restartClearing_sorted (fun _ g => g.2.1) h b inside
    refine ⟨kept.traffic, kept.reported, kept.cleared, fun c g => ?_⟩
    by_cases e : c = b
    · subst e
      obtain ⟨single, was, -⟩ := g
      have now : (u.clrAt c).state = .clearing := (h.traffic.inside c (by rw [was]; rfl)).trans was
      exact own now single was
    · exact kept.gone c ⟨g.1, g.2.1, fun m => (List.mem_cons.mp m).elim e g.2.2⟩

/-! ### The states set from the sensors -/

/-- The state that the sensors give a bay (R176). -/
def State.sensed (s : State) (b : BayNo) : ClearState := if (s.bfeAt b).enabled then (s.bfeAt b).clearState else .outOfService

theorem sensed_of_given {s u : State} (h : u.given = s.given) (b : BayNo) : u.sensed b = s.sensed b := by
  have same : (u.bfeAt b).given = (s.bfeAt b).given := congrFun (congrArg Given.bfe h) b
  have read (f g : Bfe) (e : f.given = g.given) : (if f.enabled then f.clearState else ClearState.outOfService) =
      if g.enabled then g.clearState else .outOfService := by
    simp only [Bfe.given, Bfe.mk.injEq] at e
    obtain ⟨enabled, -, -, presence, plug, -⟩ := e
    unfold Bfe.clearState Bfe.reported
    rw [enabled, presence, plug]
  exact read _ _ same

theorem restartClearance_lane (b : BayNo) (u : State) (l : Lane) : (restartClearance b u).laneAt l = u.laneAt l := by
  unfold restartClearance
  dsimp only
  split <;> cases l <;> rfl

theorem restartClearance_dpm (b : BayNo) (u : State) : (restartClearance b u).dpm = u.dpm := by
  unfold restartClearance
  dsimp only
  split <;> rfl

theorem restartBlocks_sorted (s : State) :
    Sorted s s.sensed (fun _ => True) (clearedOf s (fun _ => True)) (restartBlocks s) := by
  have given : (restartReleased s).given = s.given := by
    have blocks := restartBlocks_given s
    rw [restartBlocks_eq, forBays_keeps State.given (fun b s => given_of_quiet (restartClearance_quiet b s))] at blocks
    exact blocks
  rw [restartBlocks_eq]
  have steps := forBays_remaining (P := fun bs u =>
    Sorted s (fun b => if b ∈ bs then (s.clrAt b).state else s.sensed b) (fun _ => True) (clearedOf s (fun _ => True)) u ∧
      u.given = s.given) (f := restartClearance) (s := restartReleased s) (fun b bs u out h => ?_) ⟨?_, given⟩
  · obtain ⟨⟨traffic, reported, cleared, gone⟩, -⟩ := steps
    exact ⟨⟨traffic.order, traffic.lanes, traffic.single, traffic.recalled, traffic.cleared,
      fun b i => (traffic.inside b i).trans (if_neg List.not_mem_nil), traffic.wait, traffic.sub⟩, reported, cleared, gone⟩
  · obtain ⟨⟨⟨order, lanes, single, recalled, cleared, inside, wait, sub⟩, reports, still, gone⟩, given⟩ := h
    have other {c : BayNo} (e : c ≠ b) : ((restartClearance b u).clrAt c).state = (u.clrAt c).state := by
      rw [restartClearance_clrAt_other u e]
    have own := restartClearance_clrState b u
    have outside {c : BayNo} (o : (u.clrAt c).state.isOut = true) : ((restartClearance b u).clrAt c).state = (u.clrAt c).state := by
      by_cases e : c = b
      · rw [e] at o ⊢; rw [own, if_pos o]
      · exact other e
    have lane := restartClearance_lane b u
    have reported (c : BayNo) : ((restartClearance b u).dpmAt c).reported = (u.dpmAt c).reported := by
      simp only [State.dpmAt, restartClearance_dpm]
    refine ⟨⟨⟨fun c m => ?_, fun l => (lanes l).of_lane (lane l), fun x => single_congr (single x) lane, fun c r => ?_, fun c was => ?_,
      fun c i => ?_, fun c m r r' => ?_, fun all => ?_⟩, fun c r => (reported c).trans (reports c r), fun c r was => (outside (by rw [still c r was]; rfl)).trans (still c r was), fun c g l => ?_⟩,
      (given_of_quiet (restartClearance_quiet b u)).trans given⟩
    · obtain ⟨was, now⟩ := order c (restartClearance_waitOrder b u ▸ m)
      exact ⟨was, (outside (by rw [now]; rfl)).trans now⟩
    · rw [outside (recalled c r)]; exact recalled c r
    · rcases cleared c was with ⟨e, kept⟩ | ⟨e, kept⟩
      · exact .inl ⟨(outside (by rw [e]; rfl)).trans e, fun l held => (lane l).trans (kept l held)⟩
      · refine .inr ⟨(outside (by rw [e]; rfl)).trans e, fun x l held => ?_⟩
        exact kept x l ((grants_congr lane l c).mp held)
    · by_cases e : c = b
      · subst e
        have was := (inside c i).trans (if_pos List.mem_cons_self)
        rw [own, if_neg (by rw [was, i]; nofun), if_neg out]
        exact sensed_of_given given c
      · rw [other e, inside c i]
        simp [e]
    · rw [restartClearance_waitOrder, reported]
      have out : (u.clrAt c).state.isOut = true := recalled c r
      exact wait c m r ((outside out).symm.trans r')
    · rw [restartClearance_waitOrder]
      exact sub fun c => (reported c).symm.trans (all c)
    · rw [grants_congr lane]
      exact gone c g l
  · obtain ⟨traffic, reported, cleared, gone⟩ := restartReleased_sorted s
    exact ⟨⟨traffic.order, traffic.lanes, traffic.single, traffic.recalled, traffic.cleared,
      fun b i => (traffic.inside b i).trans (if_pos (mem_allBays b)).symm, traffic.wait, traffic.sub⟩, reported, cleared, gone⟩

/-! ### Docking and flags -/

theorem SameTraffic.of_sameClearances {u v : State} (h : SameClearances u v) : SameTraffic u v :=
  ⟨laneAt_congr h.laneA h.laneB, h.order, fun b => by simp only [State.clrAt, h.clr], fun b => by simp only [State.dpmAt, h.dpm]⟩

theorem restartFlagged_same (s : State) : SameClearances (restartBlocks s) (restartAllFlags (restartDocked s)) :=
  (forBays_sameClearances restartDocking_sameClearances _).trans (restartAllFlags_sameClearances _)

/-- The hold sets that the DPM reports are the same up to step 6. -/
theorem restartFlagged_dpm (s : State) : (restartAllFlags (restartDocked s)).dpm = s.dpm := by
  rw [(restartFlagged_same s).dpm, restartBlocks_eq, forBays_keeps State.dpm restartClearance_dpm]
  have released : (restartReleased s).dpm = (restartCore s).dpm := by
    unfold restartReleased
    refine (forBays_preserves (P := fun t => t.RecalledWait ∧ t.dpm = (restartCore s).dpm) (fun b t ht => ?_)
      ⟨restartOrder_recalled _, restartOrder_dpm _⟩).2
    refine ⟨restartClearing_recalled b t ht.1, Eq.trans ?_ ht.2⟩
    unfold restartClearing
    split
    · exact (eq_of_still State.dpm (fun _ => rfl) (laneReleaseOf_calm (restartUnclear_recalled ht.1 b) b).perform_still).trans
        (laneReleaseOf_dpm b _)
    · rfl
  rw [released, (restartCore_sameClearances s).dpm]

/-! ### The hold sets derived anew -/

/-- What a RESTART's traffic is while the hold sets of some bays have still to be derived. -/
abbrev Deriving (s : State) (bs : List BayNo) (u : State) : Prop :=
  Sorted s s.sensed (· ∈ bs) (clearedOf s (fun _ => True)) u

theorem restartFlagged_deriving (s : State) : Deriving s allBays (restartAllFlags (restartDocked s)) := by
  obtain ⟨traffic, reported, cleared, gone⟩ := (restartBlocks_sorted s).of_same (.of_sameClearances (restartFlagged_same s))
  exact ⟨traffic, fun b _ => reported b trivial, fun b _ => cleared b trivial, gone⟩

section

variable {s u v : State} {inside : BayNo → ClearState} {G : BayNo → Prop} {b : BayNo} {bs : List BayNo}

/-- A new set reported to a bay, which at most joins or leaves the wait order. -/
theorem Sorted.report (h : Sorted s inside (· ∈ b :: bs) G u) (out : b ∉ bs) (lane : ∀ l, v.laneAt l = u.laneAt l)
    (state : ∀ c, (v.clrAt c).state = (u.clrAt c).state) (reported : ∀ c, c ≠ b → (v.dpmAt c).reported = (u.dpmAt c).reported)
    (changed : (v.dpmAt b).reported ≠ (u.dpmAt b).reported)
    (order : ∀ c ∈ v.waitOrder, c ∈ u.waitOrder ∨ (c = b ∧ (s.clrAt b).state = .recalled ∧ (u.clrAt b).state = .recalled))
    (kept : ∀ c ∈ u.waitOrder, c ≠ b → c ∈ v.waitOrder)
    (own : (u.clrAt b).state = .recalled → b ∈ v.waitOrder ∨ (v.dpmAt b).reported.held = true) :
    Sorted s inside (· ∈ bs) G v := by
  obtain ⟨traffic, same, cleared, gone⟩ := h
  refine ⟨⟨fun c m => ?_, fun l => (traffic.lanes l).of_lane (lane l), fun x => single_congr (traffic.single x) lane, fun c r => ?_,
    fun c was => ?_, fun c i => ?_, fun c m r r' => ?_, fun all => ?_⟩, fun c m => ?_, fun c m was => ?_, fun c g l => ?_⟩
  · rw [state]
    rcases order c m with m | ⟨rfl, was, now⟩
    · exact traffic.order c m
    · exact ⟨was, now⟩
  · rw [state]; exact traffic.recalled c r
  · simp only [state, lane, grants_congr lane]; exact traffic.cleared c was
  · rw [state]; exact traffic.inside c i
  · rw [state] at r'
    by_cases e : c = b
    · subst e; exact own r'
    · rw [reported c e]
      exact (traffic.wait c m r r').imp (fun m => kept c m e) id
  · exact absurd ((all b).trans (same b List.mem_cons_self).symm) changed
  · rw [reported c (fun e => out (e ▸ m))]
    exact same c (List.mem_cons_of_mem _ m)
  · rw [state]; exact cleared c (List.mem_cons_of_mem _ m) was
  · rw [grants_congr lane]; exact gone c g l

/-- A CLEARED bay that is held is RECALLED, its lane released. -/
theorem Sorted.recall (h : Sorted s inside (· ∈ bs) G u) (out : b ∉ bs) (wasOut : (s.clrAt b).state.isOut = true)
    (now : (u.clrAt b).state = .cleared) (held : (u.dpmAt b).reported.held = true) :
    Sorted s inside (· ∈ bs) G ((laneReleaseOf b u).1.setClear b .recalled) := by
  obtain ⟨traffic, same, cleared, gone⟩ := h
  have own : (((laneReleaseOf b u).1.setClear b .recalled).clrAt b).state = .recalled :=
    (setClear_clrAt_state ..).trans (if_pos rfl)
  have other {c : BayNo} (e : c ≠ b) : (((laneReleaseOf b u).1.setClear b .recalled).clrAt c).state = (u.clrAt c).state := by
    rw [setClear_clrAt_state, if_neg e, laneReleaseOf_clrAt]
  have lane (l : Lane) : ((laneReleaseOf b u).1.setClear b .recalled).laneAt l = (laneReleaseOf b u).1.laneAt l := by
    cases l <;> rfl
  have reported (c : BayNo) : (((laneReleaseOf b u).1.setClear b .recalled).dpmAt c).reported = (u.dpmAt c).reported := by
    show ((laneReleaseOf b u).1.dpmAt c).reported = _
    simp only [State.dpmAt, laneReleaseOf_dpm]
  have order : ((laneReleaseOf b u).1.setClear b .recalled).waitOrder = u.waitOrder := laneReleaseOf_waitOrder b u
  have waits {c : BayNo} (m : c ∈ u.waitOrder) : c ≠ b := fun e => by
    have := (traffic.order c m).2
    rw [e, now] at this; cases this
  have grants {c : BayNo} {l : Lane} (g : ((laneReleaseOf b u).1.setClear b .recalled).grants l c) : u.grants l c :=
    released_grants ((grants_congr lane l c).mp g)
  refine ⟨⟨fun c m => ?_, fun l => ((traffic.lanes l).releaseOf b).of_lane (lane l),
    fun x => single_congr (released_single (traffic.single x)) lane, fun c r => ?_, fun c was => ?_, fun c i => ?_, fun c m r r' => ?_, fun all => ?_⟩,
    fun c m => (reported c).trans (same c m), fun c m was => ?_, fun c g l held => gone c g l (grants held)⟩
  · rw [order] at m
    rw [other (waits m)]; exact traffic.order c m
  · by_cases e : c = b
    · rw [e, own]; rfl
    · rw [other e]; exact traffic.recalled c r
  · by_cases e : c = b
    · subst e
      exact .inr ⟨own, fun x l g => released_gone (traffic.single x) l ((grants_congr lane l c).mp g)⟩
    · rw [other e]
      rcases traffic.cleared c was with ⟨still, kept⟩ | ⟨left, free⟩
      · refine .inl ⟨still, fun l holds => ?_⟩
        rw [lane, released_other (by rw [kept l holds, holds.2]; exact fun x => e (Option.some.inj x)), kept l holds]
      · exact .inr ⟨left, fun x l g => free x l (grants g)⟩
  · have e : c ≠ b := fun e => by rw [e, wasOut] at i; cases i
    rw [other e]; exact traffic.inside c i
  · rw [order, reported]
    by_cases e : c = b
    · rw [e]; exact .inr held
    · rw [other e] at r'; exact traffic.wait c m r r'
  · rw [order]; exact traffic.sub fun c => (reported c).symm.trans (all c)
  · rw [other fun e => out (e ▸ m)]; exact cleared c m was

end

theorem perform_cons (x : Notice) (xs : List Notice) (s : State) :
    perform (s, x :: xs) = run 65535 ((handle x s).2 ++ xs) (handle x s).1 := rfl

theorem sensed_idle (s : State) (b : BayNo) : s.sensed b = .outOfService ∨ s.sensed b = .empty ∨ s.sensed b = .arrived ∨
    s.sensed b = .docking := by
  unfold State.sensed
  split
  · exact sensedState_idle _
  · exact .inl rfl

/-- The state with a bay's derived set recorded. -/
def restartRecorded (b : BayNo) (u : State) : State :=
  (restartReported b u).modDpm b (fun d => { d with reported := (restartReported b u).effective b })

/-- The CLR's record of the set reported to it. -/
def restartHeard (b : BayNo) (u : State) : State :=
  (restartRecorded b u).modClr b (fun c => { c with holds := ((restartRecorded b u).dpmAt b).reported })

section

variable {b : BayNo} {u : State}

theorem restartHeard_lane (l : Lane) : (restartHeard b u).laneAt l = u.laneAt l := by cases l <;> rfl

theorem restartHeard_state (c : BayNo) : ((restartHeard b u).clrAt c).state = (u.clrAt c).state := by
  by_cases e : c = b
  · subst e
    unfold restartHeard
    rw [State.modClr_clrAt_same]
    rfl
  · unfold restartHeard
    rw [State.modClr_clrAt_ne _ _ e]
    rfl

theorem restartReported_reported (c : BayNo) : ((restartReported b u).dpmAt c).reported = (u.dpmAt c).reported := by
  by_cases e : c = b <;> simp [restartReported, e]

theorem restartHeard_dpmAt (c : BayNo) : (restartHeard b u).dpmAt c = (restartRecorded b u).dpmAt c := rfl

theorem restartRecorded_own : ((restartRecorded b u).dpmAt b).reported = (restartReported b u).effective b := by
  unfold restartRecorded
  rw [State.modDpm_dpmAt_same]

theorem restartRecorded_other {c : BayNo} (e : c ≠ b) : ((restartRecorded b u).dpmAt c).reported = (u.dpmAt c).reported := by
  unfold restartRecorded
  rw [State.modDpm_dpmAt_ne _ _ e, restartReported_reported]

/-- Step 7 for a bay: nothing but its record, or the report to the CLR and what that leads to. -/
theorem restartHolds_cases : ((restartReported b u).effective b = (u.dpmAt b).reported ∧ restartHolds b u = restartReported b u) ∨
    ((restartReported b u).effective b ≠ (u.dpmAt b).reported ∧
      ∃ n, restartHolds b u = run 65535 ((clrHolds b (restartRecorded b u)).2 ++ [.raise b .holds n false])
        (clrHolds b (restartRecorded b u)).1) := by
  rw [restartHolds_eq]
  by_cases same : (restartReported b u).effective b = ((restartReported b u).dpmAt b).reported
  · rw [rederive_same same]
    exact .inl ⟨same.trans (restartReported_reported b), rfl⟩
  · rw [rederive_changed same]
    exact .inr ⟨fun e => same (e.trans (restartReported_reported b).symm), _, perform_cons ..⟩

theorem clrHolds_eq : clrHolds b (restartRecorded b u) = match (u.clrAt b).state with
    | .preparing | .ready | .scanning | .queued =>
      if (u.clrAt b).revoking then done (restartHeard b u) else settle b (restartHeard b u)
    | .clearing => if ((restartRecorded b u).dpmAt b).reported.held then clrRevoke b false (restartHeard b u) else done (restartHeard b u)
    | .cleared => if ((restartRecorded b u).dpmAt b).reported.held then clrRecall b (restartHeard b u) else done (restartHeard b u)
    | .recalled => if ((restartRecorded b u).dpmAt b).reported.held then done (leaveOrder b (restartHeard b u))
      else (joinOrder b (restartHeard b u), [.clrOfferTo b])
    | .outOfService | .empty | .arrived | .docking => done (restartHeard b u) := rfl

end

/-- Step 7 takes the hold sets of one bay more. -/
theorem restartHolds_deriving {s u : State} {b : BayNo} {bs : List BayNo} (out : b ∉ bs) (h : Deriving s (b :: bs) u) :
    Deriving s bs (restartHolds b u) := by
  rcases restartHolds_cases (b := b) (u := u) with ⟨-, e⟩ | ⟨changed, n, e⟩
  · rw [e]
    obtain ⟨traffic, reported, cleared, gone⟩ := h.of_same (v := restartReported b u)
      ⟨fun l => by cases l <;> rfl, rfl, fun _ => rfl, restartReported_reported⟩
    exact ⟨traffic, fun c m => reported c (List.mem_cons_of_mem _ m), fun c m => cleared c (List.mem_cons_of_mem _ m), gone⟩
  · rw [e]
    have notRecalled (c : BayNo) (g : clearedOf s (fun _ => True) c) : (s.clrAt c).state ≠ .recalled := by rw [g.2.1]; nofun
    have reports (c : BayNo) (e : c ≠ b) : ((restartHeard b u).dpmAt c).reported = (u.dpmAt c).reported := restartRecorded_other e
    have new : ((restartHeard b u).dpmAt b).reported ≠ (u.dpmAt b).reported := by
      rw [restartHeard_dpmAt, restartRecorded_own]; exact changed
    have heard (own : (u.clrAt b).state = .recalled → ((restartHeard b u).dpmAt b).reported.held = true) :
        Deriving s bs (restartHeard b u) :=
      h.report out restartHeard_lane restartHeard_state reports new (fun c m => .inl m) (fun c m _ => m) (fun r => .inr (own r))
    have finish {r : Reaction} (taken : clrHolds b (restartRecorded b u) = r) (offers : ∀ n ∈ r.2, n.offers) (sorted : Deriving s bs r.1) :
        Deriving s bs (run 65535 ((clrHolds b (restartRecorded b u)).2 ++ [.raise b .holds n false]) (clrHolds b (restartRecorded b u)).1) := by
      rw [taken]
      refine sorted.run notRecalled _ fun m mem => ?_
      rcases List.mem_append.mp mem with mem | mem
      · exact offers m mem
      · rw [List.mem_singleton.mp mem]; exact trivial
    have quiet (taken : clrHolds b (restartRecorded b u) = done (restartHeard b u)) (other : (u.clrAt b).state ≠ .recalled) :=
      finish taken (fun _ m => absurd m List.not_mem_nil) (heard fun r => absurd r other)
    by_cases inside : (s.clrAt b).state.isOut = false
    · have now := h.traffic.inside b inside
      refine quiet ?_ ?_
      · rw [clrHolds_eq, now]
        rcases sensed_idle s b with e | e | e | e <;> rw [e]
      · rw [now]
        rcases sensed_idle s b with e | e | e | e <;> rw [e] <;> nofun
    · have wasOut : (s.clrAt b).state.isOut = true := Bool.not_eq_false _ ▸ inside
      have now : (u.clrAt b).state = .cleared ∨ ((u.clrAt b).state = .recalled ∧ (s.clrAt b).state = .recalled) := by
        cases was : (s.clrAt b).state
        case cleared => exact .inl (h.cleared b List.mem_cons_self was)
        case recalled =>
          have := h.traffic.recalled b was
          cases now : (u.clrAt b).state
          case cleared => exact .inl rfl
          case recalled => exact .inr ⟨rfl, rfl⟩
          all_goals rw [now] at this; cases this
        all_goals rw [was] at wasOut; cases wasOut
      rcases now with now | ⟨now, was⟩
      · by_cases held : ((restartRecorded b u).dpmAt b).reported.held = true
        · refine finish (r := clrRecall b (restartHeard b u)) (by rw [clrHolds_eq, now]; exact if_pos held) (fun n m => ?_) ?_
          · unfold clrRecall enterClear at m
            rcases List.mem_append.mp m with m | m
            · exact laneReleaseOf_all (fun _ => trivial) (fun _ => trivial) (fun _ => trivial) b _ n m
            · rw [List.mem_singleton.mp m]; exact trivial
          · exact (heard fun _ => held).recall out wasOut ((restartHeard_state b).trans now) held
        · exact quiet (by rw [clrHolds_eq, now]; exact if_neg held) (by rw [now]; nofun)
      · by_cases held : ((restartRecorded b u).dpmAt b).reported.held = true
        · refine finish (r := done (leaveOrder b (restartHeard b u))) (by rw [clrHolds_eq, now]; exact if_pos held)
            (fun _ m => absurd m List.not_mem_nil) ?_
          refine h.report out (fun l => (laneAt_congr (u := restartHeard b u) rfl rfl l).trans (restartHeard_lane l)) restartHeard_state
            reports new (fun c m => .inl (List.mem_filter.mp m).1) (fun c m ne => ?_) (fun _ => .inr held)
          exact List.mem_filter.mpr ⟨m, bne_iff_ne.mpr ne⟩
        · refine finish (r := (joinOrder b (restartHeard b u), [.clrOfferTo b])) (by rw [clrHolds_eq, now]; exact if_neg held)
            (fun n m => by rw [List.mem_singleton.mp m]; exact trivial) ?_
          have joined (c : BayNo) : c ∈ (joinOrder b (restartHeard b u)).waitOrder ↔ c = b ∨ c ∈ u.waitOrder.filter (fun x => x != b) :=
            mem_waitPlace ..
          refine h.report out (fun l => (laneAt_congr (u := restartHeard b u) rfl rfl l).trans (restartHeard_lane l)) restartHeard_state
            reports new (fun c m => ?_) (fun c m ne => (joined c).mpr (.inr (List.mem_filter.mpr ⟨m, bne_iff_ne.mpr ne⟩)))
            (fun _ => .inl ((joined b).mpr (.inl rfl)))
          rcases (joined c).mp m with e | m
          · exact .inr ⟨e, was, now⟩
          · exact .inl (List.mem_filter.mp m).1

theorem reattend_same (u : State) : SameTraffic u u.reattend := ⟨fun l => by cases l <;> rfl, rfl, fun _ => rfl, fun _ => rfl⟩

/-- The lanes, the wait order and the clearance states after a RESTART. -/
theorem restarted_deriving (s : State) : Deriving s [] (restarted s) := by
  have derived : Deriving s [] (restartHeld s) := forBays_remaining (P := fun bs u => Deriving s bs u) (f := restartHolds)
    (fun _ _ _ out h => restartHolds_deriving out h) (restartFlagged_deriving s)
  rw [restarted_eq]
  exact derived.of_same (reattend_same _)

end Sys2Proof.Machine
end

section
/-! O60 (R189). Each block after a RESTART: links, rows and docking, the clearances' marks, the hold conditions, the flags. -/

namespace Sys2Proof.Machine

theorem clcAt_congr {s t : State} (h : t.clc = s.clc) (b : BayNo) : t.clcAt b = s.clcAt b := congrArg (bayAt · b) h
theorem dkuAt_congr {s t : State} (h : t.dku = s.dku) (b : BayNo) : t.dkuAt b = s.dkuAt b := congrArg (bayAt · b) h
theorem rowAt_congr {s t : State} (h : t.row = s.row) (b : BayNo) : t.rowAt b = s.rowAt b := congrArg (bayAt · b) h

theorem snd_of_eq {α β : Type} {x : α × β} {a : α} {b : β} (h : (a, b) = x) : b = x.2 := by rw [← h]
theorem clock_of_given {s t : State} (h : t.given = s.given) : t.clock = s.clock := congrArg Given.clock h

/-! ### Links, rows and docking -/

/-- What step 1 makes of a bay's link and row (R33, R120). -/
def restartedLink (x : Clc × GrantRow) : Clc × GrantRow :=
  if x.1.link = .down then x else (x.1.discard.submitHeat 0, { x.2 with commanded := 0, lastResult := .none })

theorem restartLink_at (s : State) (b : BayNo) :
    ((forBays restartLink s).clcAt b, (forBays restartLink s).rowAt b) = restartedLink (s.clcAt b, s.rowAt b) := by
  refine forBays_at (fun t c => (t.clcAt c, t.rowAt c)) (g := fun _ => restartedLink) (fun b t => ?_) (fun b c t ne => ?_) s b
  · unfold restartLink restartedLink
    dsimp only
    split
    · rfl
    · simp only [State.modRow_clcAt, State.modRow_rowAt_same, submitStage, State.modClc_clcAt_same, State.modClc_rowAt]
  · unfold restartLink
    split
    · rfl
    · simp [submitStage, ne]

theorem restartCore_clc (s : State) : (restartCore s).clc = (forBays restartLink s).clc := by
  have hall (t : State) : (restartHall t).clc = t.clc := rfl
  unfold restartCore
  rw [forBays_keeps State.clc (f := restartField) (fun _ _ => rfl), hall, forBays_keeps State.clc (f := restartSession) (fun _ _ => rfl)]

theorem restartCore_clcAt (s : State) (b : BayNo) : (restartCore s).clcAt b = (restartedLink (s.clcAt b, s.rowAt b)).1 :=
  (clcAt_congr (restartCore_clc s) b).trans (Prod.mk.inj (restartLink_at s b)).1

theorem restarted_rowAt (s : State) (b : BayNo) : (restarted s).rowAt b = { s.rowAt b with
    cls := .none, rankKey := none, planRequest := 0, requested := 0, granted := 0, power := 0, failures := 0
    linkHeldLost := false, quiet := false, inFlight := false
    commanded := if (s.clcAt b).link = .down then (s.rowAt b).commanded else 0
    lastResult := if (s.clcAt b).link = .down then (s.rowAt b).lastResult else .none } := by
  have row : (forBays restartLink s).rowAt b = (restartedLink (s.clcAt b, s.rowAt b)).2 := (Prod.mk.inj (restartLink_at s b)).2
  refine ((rowAt_congr (restarted_row s) b).trans (restartCore_rowAt s b)).trans ?_
  rw [row]
  unfold restartedLink
  split <;> rfl

/-- What step 5 makes of a bay's link and docking unit (R39). -/
def restartedDock (x : Bfe × Clc × Dku) : Bfe × Clc × Dku :=
  if (x.1.enabled && x.1.plug) = true then
    (x.1, { x.2.1 with attemptErrors := 0 }.submitRead .ident,
      { Dku.reset with state := .probing, read := some (.ident, x.2.1.takesRead) })
  else x

theorem restartDocking_at (s : State) (b : BayNo) :
    ((forBays restartDocking s).bfeAt b, (forBays restartDocking s).clcAt b, (forBays restartDocking s).dkuAt b) =
      restartedDock (s.bfeAt b, s.clcAt b, s.dkuAt b) := by
  refine forBays_at (fun t c => (t.bfeAt c, t.clcAt c, t.dkuAt c)) (g := fun _ => restartedDock) (fun b t => ?_) (fun b c t ne => ?_) s b
  · unfold restartDocking restartedDock
    dsimp only
    split
    · simp [dkuSubmit, done, Clc.takesRead]
    · rfl
  · unfold restartDocking
    split
    · simp [dkuSubmit, done, ne]
    · rfl

/-- A bay's enable state and its plug as a RESTART finds them. -/
theorem restartBlocks_docks (s : State) (b : BayNo) : ((restartBlocks s).bfeAt b).enabled = (s.bfeAt b).enabled ∧
    ((restartBlocks s).bfeAt b).plug = (s.bfeAt b).plug := by
  have same : ((restartBlocks s).bfeAt b).given = (s.bfeAt b).given := congrFun (congrArg Given.bfe (restartBlocks_given s)) b
  have read (f g : Bfe) (e : f.given = g.given) : f.enabled = g.enabled ∧ f.plug = g.plug := by
    simp only [Bfe.given, Bfe.mk.injEq] at e
    obtain ⟨enabled, -, -, -, plug, -⟩ := e
    exact ⟨enabled, plug⟩
  exact read _ _ same

theorem restarted_dock (s : State) (b : BayNo) : ((restarted s).clcAt b, (restarted s).dkuAt b) =
    if (s.bfeAt b).enabled = true ∧ (s.bfeAt b).plug = true then
      ({ (restartedLink (s.clcAt b, s.rowAt b)).1 with attemptErrors := 0 }.submitRead .ident,
        { Dku.reset with state := .probing, read := some (.ident, (restartedLink (s.clcAt b, s.rowAt b)).1.takesRead) })
    else ((restartedLink (s.clcAt b, s.rowAt b)).1, Dku.reset) := by
  have clc : (restartBlocks s).clcAt b = (restartedLink (s.clcAt b, s.rowAt b)).1 :=
    (clcAt_congr (eq_of_blocks State.clc (fun _ => rfl) (restartBlocks_calm s).2) b).trans (restartCore_clcAt s b)
  have dku : (restartBlocks s).dkuAt b = Dku.reset :=
    (dkuAt_congr (eq_of_blocks State.dku (fun _ => rfl) (restartBlocks_calm s).2) b).trans (restartCore_dkuAt s b)
  obtain ⟨enabled, plug⟩ := restartBlocks_docks s b
  have docked : ((restartDocked s).clcAt b, (restartDocked s).dkuAt b) =
      (restartedDock ((restartBlocks s).bfeAt b, (restartBlocks s).clcAt b, (restartBlocks s).dkuAt b)).2 := by
    unfold restartDocked
    exact snd_of_eq (restartDocking_at (restartBlocks s) b)
  rw [clcAt_congr (restarted_clc s), dkuAt_congr (restarted_dku s), docked]
  unfold restartedDock
  dsimp only
  rw [clc, dku, enabled, plug]
  simp only [Bool.and_eq_true]
  split <;> rfl

section Linked

variable {c : Clc} {r : GrantRow}

theorem restartedLink_down (down : c.link = .down) : (restartedLink (c, r)).1 = c := by
  unfold restartedLink
  rw [if_pos down]

theorem restartedLink_active (active : c.link = .active) : (restartedLink (c, r)).1 = { c with
    failures := 0, inflight := some ⟨.stage 0, some .heat, 1, .ready 100⟩, heatSlot := none, lampSlot := none, readSlot := none
    pollSlot := false, poll := none, lastStatus := none } := by
  have discarded : c.discard = { c with
      inflight := none, poll := none, lastStatus := none, failures := 0, heatSlot := none, lampSlot := none, readSlot := none
      pollSlot := false } := by
    unfold Clc.discard
    rw [active]
    rfl
  unfold restartedLink
  rw [if_neg (by rw [active]; nofun)]
  dsimp only
  rw [submitHeat_up (by rw [discarded]; show c.link ≠ .down; rw [active]; nofun), discarded]
  exact arbitrate_begins active rfl

theorem restartedLink_lost (lost : c.link = .lost) : (restartedLink (c, r)).1 = { c with
    inflight := none, heatSlot := some 0, lampSlot := none, readSlot := none
    pollSlot := false, poll := none, lastStatus := none
    reprobe := if c.reprobing then some 5000 else c.reprobe } := by
  have discarded : c.discard = { c with
      inflight := none, poll := none, lastStatus := none, heatSlot := none, lampSlot := none, readSlot := none
      pollSlot := false, reprobe := if c.reprobing then some 5000 else c.reprobe } := by
    unfold Clc.discard
    rw [lost]
    rfl
  unfold restartedLink
  rw [if_neg (by rw [lost]; nofun)]
  dsimp only
  rw [submitHeat_up (by rw [discarded]; show c.link ≠ .down; rw [lost]; nofun), discarded]
  exact arbitrate_waits (.inl (by show c.link ≠ .active; rw [lost]; nofun))

theorem submitRead_waits (idle : c.link ≠ .active) (x : BayRequest) : c.submitRead x = c := by
  unfold Clc.submitRead Clc.takesRead
  rw [if_neg (by simp [idle])]

theorem takesRead_waits (idle : c.link ≠ .active) : c.takesRead = false := by simp [Clc.takesRead, idle]

theorem submitRead_busy (active : c.link = .active) (free : c.readSlot = none) (busy : c.inflight ≠ none) (x : BayRequest) :
    c.submitRead x = { c with readSlot := some x } := by
  unfold Clc.submitRead Clc.takesRead
  rw [if_pos (by simp [active, free])]
  exact arbitrate_waits (.inr busy)

end Linked

section Docked

variable (s : State) (b : BayNo)

theorem restarted_clc_down (down : (s.clcAt b).link = .down) : (restarted s).clcAt b = { s.clcAt b with
    attemptErrors := if (s.bfeAt b).enabled = true ∧ (s.bfeAt b).plug = true then 0 else (s.clcAt b).attemptErrors } := by
  have dock : (restarted s).clcAt b = _ := (congrArg Prod.fst (restarted_dock s b) :)
  refine dock.trans ?_
  rw [restartedLink_down down]
  split
  · exact submitRead_waits (by show (s.clcAt b).link ≠ .active; rw [down]; nofun) _
  · rfl

theorem restarted_clc_active (active : (s.clcAt b).link = .active) : (restarted s).clcAt b = { s.clcAt b with
    attemptErrors := if (s.bfeAt b).enabled = true ∧ (s.bfeAt b).plug = true then 0 else (s.clcAt b).attemptErrors
    failures := 0, inflight := some ⟨.stage 0, some .heat, 1, .ready 100⟩, heatSlot := none, lampSlot := none
    readSlot := if (s.bfeAt b).enabled = true ∧ (s.bfeAt b).plug = true then some .ident else none
    pollSlot := false, poll := none, lastStatus := none } := by
  have dock : (restarted s).clcAt b = _ := (congrArg Prod.fst (restarted_dock s b) :)
  refine dock.trans ?_
  rw [restartedLink_active active]
  split
  · exact submitRead_busy (c := { s.clcAt b with
      attemptErrors := 0, failures := 0, inflight := some ⟨.stage 0, some .heat, 1, .ready 100⟩, heatSlot := none
      lampSlot := none, readSlot := none, pollSlot := false, poll := none, lastStatus := none }) active rfl (nofun) _
  · rfl

theorem restarted_clc_lost (lost : (s.clcAt b).link = .lost) : (restarted s).clcAt b = { s.clcAt b with
    attemptErrors := if (s.bfeAt b).enabled = true ∧ (s.bfeAt b).plug = true then 0 else (s.clcAt b).attemptErrors
    inflight := none, heatSlot := some 0, lampSlot := none, readSlot := none
    pollSlot := false, poll := none, lastStatus := none
    reprobe := if (s.clcAt b).reprobing then some 5000 else (s.clcAt b).reprobe } := by
  have dock : (restarted s).clcAt b = _ := (congrArg Prod.fst (restarted_dock s b) :)
  refine dock.trans ?_
  rw [restartedLink_lost lost]
  split
  · exact submitRead_waits (by show (s.clcAt b).link ≠ .active; rw [lost]; nofun) _
  · rfl

/-- The link itself stays as it stood. -/
theorem restarted_link : ((restarted s).clcAt b).link = (s.clcAt b).link := by
  cases link : (s.clcAt b).link with
  | down => rw [restarted_clc_down s b link]; exact link
  | active => rw [restarted_clc_active s b link]; exact link
  | lost => rw [restarted_clc_lost s b link]; exact link

theorem restarted_dku_docks (docks : (s.bfeAt b).enabled = true ∧ (s.bfeAt b).plug = true) : (restarted s).dkuAt b =
    { Dku.reset with state := .probing, read := some (.ident, decide ((s.clcAt b).link = .active)) } := by
  have dock := congrArg Prod.snd (restarted_dock s b)
  have takes : (restartedLink (s.clcAt b, s.rowAt b)).1.takesRead = decide ((s.clcAt b).link = .active) := by
    cases link : (s.clcAt b).link with
    | down => rw [restartedLink_down link]; exact takesRead_waits (by rw [link]; nofun)
    | active =>
      rw [restartedLink_active link]
      unfold Clc.takesRead
      rw [link]
      rfl
    | lost =>
      rw [restartedLink_lost link]
      exact takesRead_waits (by show (s.clcAt b).link ≠ .active; rw [link]; nofun)
  refine dock.trans ?_
  rw [if_pos docks, takes]

theorem restarted_dku_idle (idle : ¬ ((s.bfeAt b).enabled = true ∧ (s.bfeAt b).plug = true)) : (restarted s).dkuAt b = Dku.reset := by
  have dock := congrArg Prod.snd (restarted_dock s b)
  refine dock.trans ?_
  rw [if_neg idle]

end Docked

/-! ### The clearances' marks -/

/-- The window point, the window mark, the timers and the open request of each bay. -/
def State.marks (s : State) (b : BayNo) : Option Nat × Bool × Timer × Timer × Bool :=
  let c := s.clrAt b
  (c.windowPoint, c.windowOpen, c.plugTimer, c.openWait, c.openRequest)

theorem marks_read {s t : State} {b : BayNo} (h : t.marks b = s.marks b) :
    (t.clrAt b).windowPoint = (s.marks b).1 ∧ (t.clrAt b).windowOpen = (s.marks b).2.1 ∧ (t.clrAt b).plugTimer = (s.marks b).2.2.1 ∧
      (t.clrAt b).openWait = (s.marks b).2.2.2.1 ∧ (t.clrAt b).openRequest = (s.marks b).2.2.2.2 := by
  rw [← h]
  exact ⟨rfl, rfl, rfl, rfl, rfl⟩

theorem openRequest_of_marks {s t : State} {b : BayNo} (h : (t.marks b).2.2 = (s.marks b).2.2) :
    (t.clrAt b).openRequest = (s.clrAt b).openRequest :=
  (Prod.mk.inj (Prod.mk.inj h).2).2

theorem restartOrder_marks (s : State) (b : BayNo) : ((restartOrder s).marks b).2.2 = (s.marks b).2.2 := rfl

theorem marks_still (s : State) : s.still.marks = s.marks := by
  funext b
  have read : s.still.clrAt b = { s.clrAt b with state := .empty, holds := .reset, revoking := false } := bayAt_map s.clr _ b
  simp only [State.marks, read]

theorem marks_of_clr {s t : State} (h : t.clr = s.clr) : t.marks = s.marks := by
  funext b
  simp only [State.marks, State.clrAt, h]

theorem restartHolds_marks {w u : State} (h : Calmed w u) (b : BayNo) : (restartHolds b u).marks = u.marks := by
  rw [restartHolds_eq, eq_of_still State.marks marks_still (h.reported b).perform_still]
  exact marks_of_clr (rederive_clr b _).1

theorem reattend_marks (u : State) : u.reattend.marks = u.marks := rfl

/-- Steps 5 to 8 leave the marks as step 4 set them. -/
theorem restarted_marks (s : State) : (restarted s).marks = (restartBlocks s).marks := by
  rw [restarted_eq, reattend_marks]
  have held := (forBays_preserves (P := fun u => Calmed (restartDocked s).blocks u ∧
    u.marks = (restartAllFlags (restartDocked s)).marks) (f := restartHolds)
    (fun b u h => ⟨h.1.restartHolds b, (restartHolds_marks h.1 b).trans h.2⟩) ⟨restartAllFlags_calmed s, rfl⟩).2
  exact held.trans (marks_of_clr (restartFlagged_same s).clr)

/-- What step 4 sets of a bay's marks. -/
theorem restartClearance_marks (b : BayNo) (u : State) (c : BayNo) : (restartClearance b u).marks c =
    if c = b then ((u.activeOf b).map Departure.windowPoint, windowOpenAt ((u.activeOf b).map Departure.windowPoint) u.clock.time,
      (u.clrAt b).plugTimer, (u.clrAt b).openWait, (u.clrAt b).openRequest) else u.marks c := by
  by_cases e : c = b
  · subst e
    rw [if_pos rfl]
    unfold restartClearance State.marks
    dsimp only
    split
    · simp
    · simp [State.setClear]
  · rw [if_neg e]
    simp only [State.marks, restartClearance_clrAt_other u e]

theorem activeOf_congr {s t : State} (dpm : t.dpm = s.dpm) (departures : t.departures = s.departures) (b : BayNo) :
    t.activeOf b = s.activeOf b := by
  unfold State.activeOf State.departureOf State.dpmAt
  rw [dpm, departures]

theorem restartClearance_departures (b : BayNo) (u : State) : (restartClearance b u).departures = u.departures := by
  unfold restartClearance
  dsimp only
  split <;> rfl

theorem restartCore_departures (s : State) : (restartCore s).departures = s.departures := by
  have link (b : BayNo) (t : State) : (restartLink b t).departures = t.departures := by unfold restartLink; split <;> rfl
  have hall (t : State) : (restartHall t).departures = t.departures := rfl
  unfold restartCore
  rw [forBays_keeps State.departures (f := restartField) (fun _ _ => rfl), hall,
    forBays_keeps State.departures (f := restartSession) (fun _ _ => rfl),
    forBays_keeps State.departures link]

theorem restartReleased_facts (s : State) : (restartReleased s).dpm = s.dpm ∧ (restartReleased s).departures = s.departures ∧
    (restartReleased s).clock = s.clock := by
  refine ⟨?_, ?_, ?_⟩
  · have dpm := restartFlagged_dpm s
    rw [(restartFlagged_same s).dpm, restartBlocks_eq, forBays_keeps State.dpm restartClearance_dpm] at dpm
    exact dpm
  · rw [eq_of_blocks State.departures (fun _ => rfl) (restartReleased_calm s).2, restartCore_departures]
  · have given := restartBlocks_given s
    rw [restartBlocks_eq, forBays_keeps State.given (fun b s => given_of_quiet (restartClearance_quiet b s))] at given
    exact clock_of_given given

/-- The window point and the window mark after a RESTART (R164). -/
theorem restarted_window (s : State) (b : BayNo) :
    ((restarted s).clrAt b).windowPoint = (s.activeOf b).map Departure.windowPoint ∧
      ((restarted s).clrAt b).windowOpen = windowOpenAt ((s.activeOf b).map Departure.windowPoint) s.clock.time := by
  have marks := congrFun (restarted_marks s) b
  obtain ⟨dpm, departures, clock⟩ := restartReleased_facts s
  have window : ((restartBlocks s).marks b).1 = (s.activeOf b).map Departure.windowPoint ∧
      ((restartBlocks s).marks b).2.1 = windowOpenAt ((s.activeOf b).map Departure.windowPoint) s.clock.time := by
    rw [restartBlocks_eq]
    refine forBays_each (P := fun u => u.dpm = s.dpm ∧ u.departures = s.departures ∧ u.clock = s.clock)
      (Q := fun u c => (u.marks c).1 = (s.activeOf c).map Departure.windowPoint ∧
        (u.marks c).2.1 = windowOpenAt ((s.activeOf c).map Departure.windowPoint) s.clock.time)
      (fun c u h => ⟨(restartClearance_dpm c u).trans h.1, (restartClearance_departures c u).trans h.2.1, Eq.trans ?_ h.2.2⟩)
      (fun c u h => ?_) (fun c d u h q => ?_) ⟨dpm, departures, clock⟩ b
    · unfold restartClearance
      dsimp only
      split <;> rfl
    · rw [restartClearance_marks, if_pos rfl, activeOf_congr h.1 h.2.1, h.2.2]
      exact ⟨rfl, rfl⟩
    · rw [restartClearance_marks]
      split
      · next e =>
        subst e
        rw [activeOf_congr h.1 h.2.1, h.2.2]
        exact ⟨rfl, rfl⟩
      · exact q
  obtain ⟨point, opened, -⟩ := marks_read marks
  exact ⟨point.trans window.1, opened.trans window.2⟩

/-- The timers and the open request that a bay is left with by step 4's releases. -/
theorem restarted_requests (s : State) (b : BayNo) : ((restarted s).marks b).2.2 = ((restartReleased s).marks b).2.2 := by
  rw [restarted_marks, restartBlocks_eq]
  exact congrFun (forBays_keeps (fun u c => (u.marks c).2.2) (fun c u => funext fun d => by
    rw [restartClearance_marks]
    split
    · next e => rw [e]; rfl
    · rfl) _) b

theorem restartClearing_marks {u : State} (order : u.RecalledWait) (b c : BayNo) : ((restartClearing b u).marks c).2.2 =
    if (u.clrAt b).state = .clearing ∧ c = b then (none, none, false) else (u.marks c).2.2 := by
  by_cases clearing : (u.clrAt b).state = .clearing
  · rw [restartClearing_of_clearing clearing,
      eq_of_still State.marks marks_still (laneReleaseOf_calm (restartUnclear_recalled order b) b).perform_still,
      eq_of_still State.marks marks_still (laneReleaseOf_still b _)]
    by_cases e : c = b
    · subst e
      rw [if_pos ⟨clearing, rfl⟩]
      simp [State.marks, restartUnclear]
    · rw [if_neg fun x => e x.2]
      simp [State.marks, restartUnclear, e]
  · rw [restartClearing_of_other clearing, if_neg fun x => clearing x.1]

end Sys2Proof.Machine
end

section
/-! O60 (R143, R182, R189). The hold conditions derived anew and the flags of a RESTART, and the whole of what it leaves. -/

namespace Sys2Proof.Machine

/-! ### Timers and open requests -/

theorem restarted_clearing_marks (s : State) (b : BayNo) (was : (s.clrAt b).state = .clearing) :
    ((restarted s).marks b).2.2 = (none, none, false) := by
  rw [restarted_requests]
  refine forBays_each (P := Sorted s (fun b => (s.clrAt b).state) (fun _ => True) (fun _ => False))
    (Q := fun u c => (s.clrAt c).state = .clearing → (u.marks c).2.2 = (none, none, false))
    (fun c u h => (restartClearing_sorted nofun h c (inside_of_clearing h.traffic)).1) (fun c u h was => ?_)
    (fun c d u h q was => ?_) (restartOrder_sorted (restartCore_sameClearances s)) b was
  · have now : (u.clrAt c).state = .clearing := (h.traffic.inside c (by rw [was]; rfl)).trans was
    rw [restartClearing_marks (fun x m => (h.traffic.order x m).2), if_pos ⟨now, rfl⟩]
  · rw [restartClearing_marks (fun x m => (h.traffic.order x m).2)]
    split
    · rfl
    · exact q was

theorem restarted_out_request (s : State) (b : BayNo) (out : (s.clrAt b).state.isOut = true) :
    ((restarted s).clrAt b).openRequest = (s.clrAt b).openRequest := by
  have same := restartCore_sameClearances s
  have kept : ((restartReleased s).marks b).2.2 = ((restartCore s).marks b).2.2 :=
    (forBays_preserves (P := fun u => Sorted s (fun b => (s.clrAt b).state) (fun _ => True) (fun _ => False) u ∧
      (u.marks b).2.2 = ((restartCore s).marks b).2.2) (f := restartClearing) (fun c u h =>
        ⟨(restartClearing_sorted nofun h.1 c (inside_of_clearing h.1.traffic)).1, by
          rw [restartClearing_marks (fun x m => (h.1.traffic.order x m).2), if_neg ?_]
          · exact h.2
          · rintro ⟨now, e⟩
            have inside := inside_of_clearing h.1.traffic now
            rw [← e, out] at inside
            cases inside⟩) ⟨restartOrder_sorted same, restartOrder_marks ..⟩).2
  have marks : ((restarted s).marks b).2.2 = (s.marks b).2.2 :=
    (restarted_requests s b).trans (kept.trans (congrArg (·.2.2) (congrFun (marks_of_clr same.clr) b)))
  exact openRequest_of_marks marks

/-! ### The hold conditions -/

theorem unlit_enabled {s t : State} (h : t.unlit = s.unlit) (b : BayNo) : (t.bfeAt b).enabled = (s.bfeAt b).enabled := by
  have same : (t.unlit b).enabled = (s.unlit b).enabled := by rw [h]
  exact same

/-- The conditions reported anew are a matter of the blocks and the active departure. -/
theorem conditionsNow_congr {s t : State} (blocks : t.blocks = s.blocks) {b : BayNo}
    (active : (t.dpmAt b).active = (s.dpmAt b).active) : t.conditionsNow b = s.conditionsNow b := by
  have departure : t.activeOf b = s.activeOf b := by
    unfold State.activeOf State.departureOf
    rw [active, eq_of_blocks State.departures (fun _ => rfl) blocks]
  unfold State.conditionsNow State.readiness
  rw [departure, unlit_enabled (eq_of_blocks State.unlit unlit_blocks blocks), State.frdAt, State.dkuAt, State.clcAt, State.hplAt,
    State.lcsAt, eq_of_blocks State.frd (fun _ => rfl) blocks, eq_of_blocks State.dku (fun _ => rfl) blocks,
    eq_of_blocks State.clc (fun _ => rfl) blocks, eq_of_blocks State.hpl (fun _ => rfl) blocks,
    eq_of_blocks State.lcs (fun _ => rfl) blocks]
  rfl

theorem rederive_dpmAt (b : BayNo) (s : State) : (rederive b s).1.dpmAt b = { s.dpmAt b with reported := s.effective b } := by
  unfold rederive
  dsimp only
  split
  · next same => rw [same]; rfl
  · exact State.modDpm_dpmAt_same _ _ _

theorem rederive_dpmAt_ne (s : State) {b c : BayNo} (e : c ≠ b) : (rederive b s).1.dpmAt c = s.dpmAt c := by
  unfold rederive
  dsimp only
  split
  · rfl
  · exact State.modDpm_dpmAt_ne _ _ e

theorem dpmAt_congr {s t : State} (h : t.dpm = s.dpm) (b : BayNo) : t.dpmAt b = s.dpmAt b := congrArg (bayAt · b) h

theorem rederive_hallHold (b : BayNo) (s : State) : (rederive b s).1.hallHold = s.hallHold := by
  unfold rederive
  dsimp only
  split <;> rfl

/-- Step 7 writes no DPM record but by the derivation. -/
theorem restartHolds_dpm {w u : State} (h : Calmed w.blocks u) (b : BayNo) :
    (restartHolds b u).dpm = (rederive b (restartReported b u)).1.dpm ∧ (restartHolds b u).hallHold = u.hallHold := by
  rw [restartHolds_eq]
  exact ⟨eq_of_still State.dpm (fun _ => rfl) (h.reported b).perform_still,
    (eq_of_still State.hallHold (fun _ => rfl) (h.reported b).perform_still).trans (rederive_hallHold b _)⟩

/-- A bay's DPM record once its conditions have been reported anew and its set derived. -/
structure Rederived (s w : State) (b : BayNo) (u : State) : Prop where
  record : u.dpmAt b = { s.dpmAt b with
    conditions := w.conditionsNow b, reliance := false, frozen := (s.dpmAt b).frozen && (s.clrAt b).state.isOut
    frozenSet := if (s.clrAt b).state.isOut then (s.dpmAt b).frozenSet else .none, reported := (u.dpmAt b).reported }
  derived : (u.dpmAt b).reported = u.effective b

theorem isOut_of_traffic {s u : State} (h : Traffic s s.sensed u) (b : BayNo) : (u.clrAt b).state.isOut = (s.clrAt b).state.isOut := by
  cases o : (s.clrAt b).state.isOut with
  | true => exact h.out o
  | false =>
    rw [h.inside b o]
    rcases sensed_idle s b with e | e | e | e <;> rw [e] <;> rfl

/-- Step 7 derives one bay's set more. -/
theorem restartHolds_rederived {s w u : State} {b : BayNo} {bs : List BayNo} (out : b ∉ bs) (calm : Calmed w.blocks u)
    (sorted : Deriving s (b :: bs) u) (waiting : ∀ c ∈ b :: bs, u.dpmAt c = s.dpmAt c) (start : w.dpm = s.dpm)
    (past : ∀ c, c ∉ b :: bs → Rederived s w c u) :
    (∀ c ∈ bs, (restartHolds b u).dpmAt c = s.dpmAt c) ∧ ∀ c, c ∉ bs → Rederived s w c (restartHolds b u) := by
  obtain ⟨dpm, hall⟩ := restartHolds_dpm calm b
  have other {c : BayNo} (e : c ≠ b) : (restartHolds b u).dpmAt c = u.dpmAt c :=
    (dpmAt_congr dpm c).trans ((rederive_dpmAt_ne _ e).trans (State.modDpm_dpmAt_ne _ _ e))
  refine ⟨fun c m => (other fun e => out (e ▸ m)).trans (waiting c (List.mem_cons_of_mem _ m)), fun c m => ?_⟩
  by_cases e : c = b
  · subst e
    have own := (dpmAt_congr dpm c).trans (rederive_dpmAt c _)
    have before := waiting c List.mem_cons_self
    have conditions : u.conditionsNow c = w.conditionsNow c := by
      refine conditionsNow_congr calm.blocks ?_
      rw [before, dpmAt_congr start]
    have reported := State.modDpm_dpmAt_same u c (fun d => { d with
      conditions := u.conditionsNow c, reliance := false, frozen := d.frozen && (u.clrAt c).state.isOut
      frozenSet := if (u.clrAt c).state.isOut then d.frozenSet else .none })
    refine ⟨?_, ?_⟩
    · rw [own, restartReported, reported, before, conditions, isOut_of_traffic sorted.traffic]
    · rw [dpmAt_congr dpm, rederive_effective]
      exact (effective_congr (dpmAt_congr dpm c) (hall.trans (rederive_hallHold c (restartReported c u)).symm)).symm
  · obtain ⟨record, derived⟩ := past c fun x => (List.mem_cons.mp x).elim e m
    refine ⟨by rw [other e]; exact record, ?_⟩
    rw [effective_congr (other e) hall, other e]
    exact derived

theorem restarted_rederived (s : State) (b : BayNo) : Rederived s (restarted s) b (restarted s) := by
  have start := restartFlagged_dpm s
  have calmed := restartAllFlags_calmed s
  have sorting := restartFlagged_deriving s
  have blocks := restarted_blocks s
  have held := restarted_eq s
  unfold restartHeld at held
  generalize restartAllFlags (restartDocked s) = w at *
  have same := calmed.blocks
  rw [← same] at calmed blocks
  have steps := forBays_remaining (P := fun bs u => Calmed w.blocks u ∧ Deriving s bs u ∧ (∀ c ∈ bs, u.dpmAt c = s.dpmAt c) ∧
    ∀ c, c ∉ bs → Rederived s w c u) (f := restartHolds) (fun c bs u out h => ?_)
    ⟨calmed, sorting, fun c _ => dpmAt_congr start c, fun c m => absurd (mem_allBays c) m⟩
  · obtain ⟨-, -, -, derived⟩ := steps
    obtain ⟨record, derived⟩ := derived b List.not_mem_nil
    rw [held] at blocks ⊢
    generalize forBays restartHolds w = v at *
    have conditions : v.reattend.conditionsNow b = w.conditionsNow b := by
      refine conditionsNow_congr blocks ?_
      show (v.dpmAt b).active = _
      rw [record, dpmAt_congr start]
    exact ⟨by rw [conditions]; exact record, derived⟩
  · obtain ⟨calm, sorted, waiting, past⟩ := h
    exact ⟨calm.restartHolds c, restartHolds_deriving out sorted, restartHolds_rederived out calm sorted waiting start past⟩

theorem restarted_active (s : State) (b : BayNo) : ((restarted s).dpmAt b).active = (s.dpmAt b).active := by
  rw [(restarted_rederived s b).record]

theorem restarted_activeOf (s : State) (b : BayNo) : (restarted s).activeOf b = s.activeOf b := by
  unfold State.activeOf State.departureOf
  rw [restarted_active, (restarted_departures s).trans (restartCore_departures s)]

/-- A docking unit after a RESTART is not DOCKED, and its fleet number is not compared. -/
theorem restarted_dku_apart (s : State) (b : BayNo) : ((restarted s).dkuAt b).state ≠ .docked ∧
    ((restarted s).dkuAt b).matching ≠ .mismatched := by
  by_cases docks : (s.bfeAt b).enabled = true ∧ (s.bfeAt b).plug = true
  · rw [restarted_dku_docks s b docks]; exact ⟨nofun, nofun⟩
  · rw [restarted_dku_idle s b docks]; exact ⟨nofun, nofun⟩

section

variable (s : State) (b : BayNo)

theorem restarted_enabled : ((restarted s).bfeAt b).enabled = (s.bfeAt b).enabled := by
  have same := restarted_bfeAt s b
  have read (f g : Bfe) (h : { f with aspect := .dark } = ({ g with
      tripped := false, overdraw := none, contactor := false, latch := false, aspect := .dark } : Bfe)) : f.enabled = g.enabled := by
    simp only [Bfe.mk.injEq] at h
    exact h.1
  exact read _ _ same

theorem restarted_lcsAt : (restarted s).lcsAt b = Lcs.reset :=
  (congrArg (bayAt · b) (restarted_lcs s)).trans (restartCore_lcsAt s b)
theorem restarted_frdAt : (restarted s).frdAt b = Frd.reset :=
  (congrArg (bayAt · b) (restarted_frd s)).trans (restartCore_frdAt s b)
theorem restarted_hplAt : (restarted s).hplAt b = Hpl.reset :=
  (congrArg (bayAt · b) (restarted_hpl s)).trans (restartCore_hplAt s b)

/-- With its plan empty a bay is ready exactly where its departure wants no heat. -/
theorem readiness_of_reset {u : State} (plan : u.hplAt b = Hpl.reset) : u.readiness b = match u.activeOf b with
    | some d => if d.target = none then .ready else .notReady
    | none => .notReady := by
  cases active : u.activeOf b with
  | none => exact readiness_of_none active
  | some d =>
    by_cases target : d.target = none
    · rw [readiness_of_no_target active target]
      exact (if_pos target).symm
    · rw [readiness_of_target active target, plan]
      exact (if_neg target).symm

theorem restarted_conditions : ((restarted s).dpmAt b).conditions = { Conditions.reset with
    enabled := (s.bfeAt b).enabled, linkLost := (s.clcAt b).link == .lost
    readiness := match s.activeOf b with
      | some d => if d.target = none then .ready else .notReady
      | none => .notReady
    noDeparture := (s.activeOf b).isNone
    lampRequired := match s.activeOf b with | some d => d.lampCheck | none => false
    waivers := match s.activeOf b with | some d => d.waivers | none => .none } := by
  have conditions : ((restarted s).dpmAt b).conditions = (restarted s).conditionsNow b := by
    rw [(restarted_rederived s b).record]
  obtain ⟨docked, matching⟩ := restarted_dku_apart s b
  have enabled := restarted_enabled s b
  have link := restarted_link s b
  have active := restarted_activeOf s b
  have ready := readiness_of_reset b (restarted_hplAt s b)
  have frd := restarted_frdAt s b
  have lcs := restarted_lcsAt s b
  have hpl := restarted_hplAt s b
  rw [conditions]
  generalize restarted s = u at *
  unfold State.conditionsNow
  rw [ready, active, enabled, link, frd, lcs, hpl, beq_false_of_ne docked, beq_false_of_ne matching]
  rfl

end

end Sys2Proof.Machine
end

section
/-! O60, concluded (R189): the flags of a RESTART, and the whole of what it leaves. -/

namespace Sys2Proof.Machine

/-! ### Flags -/

/-- A bay's flags with one raised where its condition holds. -/
def raisedIf (holds : Bool) (k : BayFlag) (r : Reason) (f : BayFlag → Flag) (j : BayFlag) : Flag :=
  if j = k ∧ holds = true then (f j).raise r false (k == .lamp) else f j

/-- What step 6 makes of a bay's flags: SENSOR and LINK raised where their conditions hold. -/
def restartedFlags (conflict lost : Bool) (f : BayFlag → Flag) : BayFlag → Flag :=
  raisedIf lost .link (.link .lost) (raisedIf conflict .sensor .plain f)

theorem raiseFlag_flag (s : State) (b : BayNo) (k : BayFlag) (r : Reason) (q : Bool) (c : BayNo) (j : BayFlag) :
    (raiseFlag s b k r q).flag c j = if c = b ∧ j = k then (s.flag c j).raise r q (k == .lamp) else s.flag c j := by
  by_cases bay : c = b
  · subst bay
    by_cases kind : j = k
    · subst kind
      rw [if_pos ⟨rfl, rfl⟩]
      exact raiseFlag_same ..
    · rw [if_neg fun e => kind e.2]
      exact raiseFlag_otherKind _ _ _ _ kind
  · rw [if_neg fun e => bay e.1]
    exact raiseFlag_otherBay _ _ _ _ _ bay

theorem raiseFlag_if (s : State) (b : BayNo) (holds : Bool) (k : BayFlag) (r : Reason) (c : BayNo) (j : BayFlag) :
    (if holds = true then raiseFlag s b k r false else s).flag c j =
      if c = b then raisedIf holds k r (s.flag c) j else s.flag c j := by
  unfold raisedIf
  cases holds with
  | false => simp
  | true =>
    rw [if_pos rfl, raiseFlag_flag]
    by_cases bay : c = b <;> simp [bay]

theorem restartFlags_flag (b : BayNo) (s : State) (c : BayNo) (k : BayFlag) : (restartFlags b s).flag c k =
    if c = b then restartedFlags (s.bfeAt b).conflict ((s.clcAt b).link == .lost) (s.flag c) k else s.flag c k := by
  have two : restartFlags b s = if ((s.clcAt b).link == .lost) = true
      then raiseFlag (if (s.bfeAt b).conflict = true then raiseFlag s b .sensor .plain false else s) b .link (.link .lost) false
      else (if (s.bfeAt b).conflict = true then raiseFlag s b .sensor .plain false else s) := by
    unfold restartFlags
    simp only [beq_iff_eq]
  rw [two, raiseFlag_if]
  unfold restartedFlags
  by_cases bay : c = b
  · rw [if_pos bay, if_pos bay]
    refine congrFun (congrArg _ (funext fun j => ?_)) k
    exact (raiseFlag_if ..).trans (if_pos bay)
  · rw [if_neg bay, if_neg bay]
    exact (raiseFlag_if ..).trans (if_neg bay)

theorem hallFlagged_flag (s : State) (b : BayNo) (k : BayFlag) : s.hallFlagged.flag b k = .clear := by
  have cleared : s.unflagged.flag b k = .clear := by
    unfold State.unflagged State.flag State.flagsAt
    simp [bayAt]
  unfold State.hallFlagged
  split
  · exact (raiseHallFlag_flag ..).trans cleared
  · exact (raiseHallFlag_flag ..).trans ((raiseHallFlag_flag ..).trans cleared)

theorem hallFlagged_hallFlag (s : State) : s.hallFlagged.hallFlag .reset = ⟨true, .reset true, false, 1⟩ ∧
    s.hallFlagged.hallFlag .clockUnset = (if s.clock.isSet = true then .clear else ⟨true, .plain, false, 1⟩) ∧
    ∀ k, k ∉ [HallFlag.reset, .clockUnset] → s.hallFlagged.hallFlag k = .clear := by
  have cleared (k : HallFlag) : s.unflagged.hallFlag k = .clear := by
    unfold State.unflagged State.hallFlag
    simp
  have reset : (raiseHallFlag s.unflagged .reset (.reset true)).hallFlag .reset = ⟨true, .reset true, false, 1⟩ := by
    rw [raiseHallFlag_same, cleared]; rfl
  have other {k : HallFlag} (e : k ≠ .reset) : (raiseHallFlag s.unflagged .reset (.reset true)).hallFlag k = .clear :=
    (raiseHallFlag_other _ _ e).trans (cleared k)
  have clock : (raiseHallFlag s.unflagged .reset (.reset true)).clock = s.clock := rfl
  unfold State.hallFlagged
  rw [clock]
  split
  · exact ⟨reset, other (by decide), fun k out => other fun e => out (by rw [e]; exact List.mem_cons_self)⟩
  · refine ⟨(raiseHallFlag_other _ _ (by decide)).trans reset, ?_, fun k out => ?_⟩
    · rw [raiseHallFlag_same, other (by decide)]; rfl
    · have first : k ≠ .reset := fun e => out (by rw [e]; exact List.mem_cons_self)
      have second : k ≠ .clockUnset := fun e => out (by rw [e]; exact List.mem_cons_of_mem _ List.mem_cons_self)
      exact (raiseHallFlag_other _ _ second).trans (other first)

theorem restartFlags_hall (b : BayNo) (s : State) (k : HallFlag) : (restartFlags b s).hallFlag k = s.hallFlag k := by
  unfold restartFlags
  dsimp only
  split <;> split <;> rfl

theorem restartAllFlags_flag (s : State) (b : BayNo) (k : BayFlag) : (restartAllFlags s).flag b k =
    restartedFlags (s.bfeAt b).conflict ((s.clcAt b).link == .lost) (fun _ => .clear) k := by
  have units (c : BayNo) (t : State) : (restartFlags c t).bfe = t.bfe ∧ (restartFlags c t).clc = t.clc := by
    unfold restartFlags
    dsimp only
    split <;> split <;> exact ⟨rfl, rfl⟩
  have start : s.hallFlagged.bfe = s.bfe ∧ s.hallFlagged.clc = s.clc := by
    unfold State.hallFlagged
    split <;> exact ⟨rfl, rfl⟩
  have read := forBays_at (fun t c => (t.bfeAt c, t.clcAt c, t.flag c)) (f := restartFlags)
    (g := fun _ x => (x.1, x.2.1, restartedFlags x.1.conflict (x.2.1.link == .lost) x.2.2)) (fun c t => ?_) (fun c d t ne => ?_)
    s.hallFlagged b
  · rw [restartAllFlags_eq]
    have own := congrFun (congrArg (fun x => x.2.2) read) k
    refine own.trans ?_
    show restartedFlags (s.hallFlagged.bfeAt b).conflict ((s.hallFlagged.clcAt b).link == .lost) (s.hallFlagged.flag b) k = _
    rw [funext (hallFlagged_flag s b), State.bfeAt, start.1, State.clcAt, start.2]
    rfl
  · refine Prod.ext (congrArg (bayAt · c) (units c t).1) (Prod.ext (congrArg (bayAt · c) (units c t).2) (funext fun k => ?_))
    exact (restartFlags_flag ..).trans (if_pos rfl)
  · refine Prod.ext (congrArg (bayAt · d) (units c t).1) (Prod.ext (congrArg (bayAt · d) (units c t).2) (funext fun k => ?_))
    exact (restartFlags_flag ..).trans (if_neg ne)

/-- Two states alike in every flag but HOLDS, CLEARANCE and LANE. -/
structure SameFlags (s t : State) : Prop where
  bay : ∀ b k, k ≠ .holds → k ≠ .clearance → t.flag b k = s.flag b k
  hall : ∀ k, k ≠ .lane → t.hallFlag k = s.hallFlag k

theorem SameFlags.trans {s t u : State} (h : SameFlags s t) (h' : SameFlags t u) : SameFlags s u :=
  ⟨fun b k holds clearance => (h'.bay b k holds clearance).trans (h.bay b k holds clearance),
    fun k lane => (h'.hall k lane).trans (h.hall k lane)⟩

theorem SameFlags.of_eq {s t : State} (flags : t.flags = s.flags) (hall : t.hallFlags = s.hallFlags) : SameFlags s t := by
  refine ⟨fun b k _ _ => ?_, fun k _ => ?_⟩
  · unfold State.flag State.flagsAt; rw [flags]
  · unfold State.hallFlag; rw [hall]

theorem SameFlags.refl (s : State) : SameFlags s s := .of_eq rfl rfl

theorem reattend_flags (s : State) : SameFlags s s.reattend := .of_eq rfl rfl

theorem handle_calm_flags {n : Notice} {s : State} (calm : n.calmIn s) : SameFlags s (handle n s).1 := by
  have outside (e : n.writer = .clearance) : SameFlags s (handle n s).1 := by
    have same := handle_outside n s
    rw [e] at same
    exact .of_eq (eq_of_outside State.flags (fun _ => rfl) same) (eq_of_outside State.hallFlags (fun _ => rfl) same)
  obtain ⟨b, k, r, q, rfl⟩ | ⟨k, r, rfl⟩ | ⟨l, rfl⟩ | ⟨b, rfl⟩ | ⟨b, rfl⟩ := Notice.calmIn_cases calm
  · refine ⟨fun c j holds clearance => (raiseFlag_flag s b k r q c j).trans (if_neg ?_), fun _ _ => rfl⟩
    rintro ⟨-, rfl⟩
    exact calm.elim holds clearance
  · exact ⟨fun _ _ _ _ => rfl, fun j lane => raiseHallFlag_other s r fun e => lane (e.trans calm)⟩
  · exact outside rfl
  · exact outside rfl
  · exact outside rfl

theorem restartHolds_flags {w u : State} (h : Calmed w u) (b : BayNo) : SameFlags u (restartHolds b u) := by
  have derived : SameFlags u (rederive b (restartReported b u)).1 := by
    unfold rederive
    dsimp only
    split <;> exact .of_eq rfl rfl
  rw [restartHolds_eq]
  exact ((Calm.kept (Q := SameFlags u) (fun _ _ _ calm same => same.trans (handle_calm_flags calm))
    (fun _ _ same => same.trans (.of_eq rfl rfl))).perform ⟨h.reported b, derived⟩).2

theorem restarted_flags (s : State) : SameFlags (restartAllFlags (restartDocked s)) (restarted s) := by
  have held := (forBays_preserves (P := fun u => Calmed (restartDocked s).blocks u ∧ SameFlags (restartAllFlags (restartDocked s)) u)
    (f := restartHolds) (fun b u h => ⟨h.1.restartHolds b, h.2.trans (restartHolds_flags h.1 b)⟩)
    ⟨restartAllFlags_calmed s, .refl _⟩).2
  rw [restarted_eq]
  exact held.trans (reattend_flags _)

section

variable (s : State) (b : BayNo)

/-- The condition flags of a bay after a RESTART, and the flags that stay clear. -/
theorem restarted_bayFlags :
    (restarted s).flag b .sensor =
      (if (s.bfeAt b).plug = true ∧ (s.bfeAt b).presence = false then ⟨true, .plain, false, 1⟩ else .clear) ∧
    (restarted s).flag b .link = (if (s.clcAt b).link = .lost then ⟨true, .link .lost, false, 1⟩ else .clear) ∧
    ∀ k, k ∉ [BayFlag.sensor, .link, .holds, .clearance] → (restarted s).flag b k = .clear := by
  have kept := (restarted_flags s).bay b
  have conflict : ((restartDocked s).bfeAt b).conflict = ((s.bfeAt b).plug && !(s.bfeAt b).presence) := by
    have docked : (restartDocked s).unlit b = (restarted s).unlit b :=
      congrFun (eq_of_blocks State.unlit unlit_blocks (restarted_blocks s)).symm b
    have read (f g : Bfe) (h : { f with aspect := .dark } = ({ g with
        tripped := false, overdraw := none, contactor := false, latch := false, aspect := .dark } : Bfe)) :
        f.conflict = (g.plug && !g.presence) := by
      simp only [Bfe.mk.injEq] at h
      obtain ⟨-, -, -, presence, plug, -⟩ := h
      unfold Bfe.conflict
      rw [presence, plug]
    exact read _ _ (docked.trans (restarted_bfeAt s b))
  have link : ((restartDocked s).clcAt b).link = (s.clcAt b).link := by
    rw [← clcAt_congr (restarted_clc s)]
    exact restarted_link s b
  have flag := restartAllFlags_flag (restartDocked s) b
  rw [conflict, link] at flag
  refine ⟨?_, ?_, fun k out => ?_⟩
  · rw [kept .sensor (by decide) (by decide), flag]
    simp [restartedFlags, raisedIf]
    rfl
  · rw [kept .link (by decide) (by decide), flag]
    simp [restartedFlags, raisedIf]
    rfl
  · simp only [List.mem_cons, List.not_mem_nil, or_false, not_or] at out
    obtain ⟨sensor, link, holds, clearance⟩ := out
    rw [kept k holds clearance, flag]
    simp [restartedFlags, raisedIf, sensor, link]

theorem restarted_hallFlags : (restarted s).hallFlag .reset = ⟨true, .reset true, false, 1⟩ ∧
    (restarted s).hallFlag .clockUnset = (if s.clock.isSet = true then .clear else ⟨true, .plain, false, 1⟩) ∧
    ∀ k, k ∉ [HallFlag.reset, .clockUnset, .lane] → (restarted s).hallFlag k = .clear := by
  have kept := (restarted_flags s).hall
  have hall (k : HallFlag) : (restartAllFlags (restartDocked s)).hallFlag k = (restartDocked s).hallFlagged.hallFlag k := by
    rw [restartAllFlags_eq]
    exact congrFun (forBays_keeps (fun t => t.hallFlag) (fun b t => funext (restartFlags_hall b t)) _) k
  have clock : (restartDocked s).clock = s.clock :=
    (eq_of_blocks State.clock (fun _ => rfl) (restarted_blocks s)).symm.trans (clock_of_given (restarted_given s))
  obtain ⟨reset, unset, other⟩ := hallFlagged_hallFlag (restartDocked s)
  rw [clock] at unset
  refine ⟨(kept .reset (by decide)).trans ((hall _).trans reset), (kept .clockUnset (by decide)).trans ((hall _).trans unset),
    fun k out => ?_⟩
  simp only [List.mem_cons, List.not_mem_nil, or_false, not_or] at out
  obtain ⟨notReset, notUnset, lane⟩ := out
  exact (kept k lane).trans ((hall _).trans (other k (by simp [notReset, notUnset])))

end

/-! ### What a RESTART leaves -/

theorem isOut_iff (c : ClearState) : c.isOut = true ↔ c = .cleared ∨ c = .recalled := by cases c <;> simp [ClearState.isOut]

theorem sensed_eq (s : State) (b : BayNo) : s.sensed b = if (s.bfeAt b).enabled = false then .outOfService
    else if (s.bfeAt b).plug = true then .docking else if (s.bfeAt b).presence = true then .arrived else .empty := by
  unfold State.sensed Bfe.clearState Bfe.reported
  cases (s.bfeAt b).enabled <;> cases (s.bfeAt b).plug <;> cases (s.bfeAt b).presence <;> rfl

theorem windowPoint_eq (d : Departure) : d.windowPoint = d.time - 60 * d.lead := by
  unfold Departure.windowPoint
  split <;> omega

theorem windowOpenAt_iff (d : Option Departure) (now : Nat) : windowOpenAt (d.map Departure.windowPoint) now = true ↔
    ∃ d', d = some d' ∧ d'.time - 60 * d'.lead ≤ now := by
  cases d with
  | none => exact ⟨nofun, nofun⟩
  | some d =>
    simp only [windowOpenAt, Option.map_some, windowPoint_eq, decide_eq_true_eq]
    exact ⟨fun h => ⟨d, rfl, h⟩, fun ⟨_, e, h⟩ => Option.some.inj e ▸ h⟩

/-- The DPM's record of a bay after a RESTART. -/
theorem restarted_holds (s : State) (b : BayNo) :
    ((restarted s).dpmAt b).reliance = false ∧
    (((restarted s).dpmAt b).frozen = true ↔ (s.dpmAt b).frozen = true ∧
      (((restarted s).clrAt b).state = .cleared ∨ ((restarted s).clrAt b).state = .recalled)) ∧
    (((restarted s).dpmAt b).frozen = true → ((restarted s).dpmAt b).frozenSet = (s.dpmAt b).frozenSet) := by
  have out := isOut_of_traffic (restarted_deriving s).traffic b
  obtain ⟨record, -⟩ := restarted_rederived s b
  have frozen : ((restarted s).dpmAt b).frozen = true ↔ (s.dpmAt b).frozen = true ∧ (s.clrAt b).state.isOut = true := by
    rw [record]
    exact Bool.and_eq_true_iff
  refine ⟨by rw [record], ?_, fun f => ?_⟩
  · rw [frozen, ← isOut_iff, out]
  · rw [record]
    exact if_pos (frozen.mp f).2

/-- The hall after a RESTART. -/
theorem restarted_hall (s : State) :
    (restarted s).channelQueue = [] ∧ (∀ c : Fin 4, (restarted s).channels[c] = none) ∧
    (restarted s).feeder.stageUp = none ∧ (restarted s).feeder.ramp = s.feeder.ramp ∧
    ((restarted s).feeder.gateOpen = true ↔ s.feeder.ramp = none) ∧ (restarted s).feeder.plugged = s.feeder.plugged := by
  have queue := (restarted_channelQueue s).trans (restartCore_channelQueue s)
  have channels := (restarted_channels s).trans (restartCore_channels s)
  have feeder := (restarted_feeder s).trans (restartCore_feeder s)
  generalize restarted s = u at *
  rw [queue, channels, feeder]
  exact ⟨rfl, fun c => by simp, rfl, rfl, Option.isNone_iff_eq_none, rfl⟩

theorem restarted_attn (s : State) : (restarted s).AttnFollows := by
  have reattended (u : State) : u.reattend.AttnFollows := rfl
  rw [restarted_eq]
  exact reattended _

/-- The lanes after a RESTART. -/
theorem restarted_lanes (s : State) (single : ∀ b, ¬ (s.laneA.holder = some b ∧ s.laneB.holder = some b)) (l : Lane) :
    (s.laneAt l = ⟨.free, none, false, none⟩ → Offered s (restarted s) l) ∧
    ∀ b, (s.laneAt l).state = .granted → (s.laneAt l).holder = some b →
      ((s.clrAt b).state = .clearing → Released s (restarted s) l) ∧
      ((s.clrAt b).state = .cleared → ((restarted s).clrAt b).state = .cleared → (restarted s).laneAt l = s.laneAt l) ∧
      ((s.clrAt b).state = .cleared → ((restarted s).clrAt b).state = .recalled → Released s (restarted s) l) := by
  obtain ⟨traffic, -, -, gone⟩ := restarted_deriving s
  refine ⟨(traffic.lanes l).plain, fun b granted held => ⟨fun was => ?_, fun was now => ?_, fun was now => ?_⟩⟩
  · exact (traffic.lanes l).of_gone ⟨granted, held⟩ (gone b ⟨single, was, trivial⟩ l)
  · rcases traffic.cleared b was with ⟨-, kept⟩ | ⟨recalled, -⟩
    · exact kept l ⟨granted, held⟩
    · rw [now] at recalled; cases recalled
  · rcases traffic.cleared b was with ⟨cleared, -⟩ | ⟨-, left⟩
    · rw [now] at cleared; cases cleared
    · exact (traffic.lanes l).of_gone ⟨granted, held⟩ (left single l)

/-- The clearance of a bay after a RESTART. -/
theorem restarted_clearance (s : State) (b : BayNo) :
    ((s.clrAt b).state = .cleared ∨ (s.clrAt b).state = .recalled →
      ((restarted s).clrAt b).state = .cleared ∨ ((restarted s).clrAt b).state = .recalled) ∧
    ((s.clrAt b).state ≠ .cleared → (s.clrAt b).state ≠ .recalled → ((restarted s).clrAt b).state =
      if (s.bfeAt b).enabled = false then .outOfService else if (s.bfeAt b).plug = true then .docking
      else if (s.bfeAt b).presence = true then .arrived else .empty) ∧
    ((s.clrAt b).state = .clearing → ((restarted s).clrAt b).plugTimer = none ∧ ((restarted s).clrAt b).openWait = none ∧
      ((restarted s).clrAt b).openRequest = false) ∧
    ((restarted s).clrAt b).windowPoint = (s.activeOf b).map (fun d => d.time - 60 * d.lead) ∧
    (((restarted s).clrAt b).windowOpen = true ↔ ∃ d', s.activeOf b = some d' ∧ d'.time - 60 * d'.lead ≤ s.clock.time) := by
  obtain ⟨traffic, -⟩ := restarted_deriving s
  obtain ⟨point, opened⟩ := restarted_window s b
  refine ⟨fun out => ?_, fun notCleared notRecalled => ?_, fun was => ?_, ?_, ?_⟩
  · rw [← isOut_iff] at out ⊢
    exact traffic.out out
  · rw [traffic.inside b ?_, sensed_eq]
    rw [Bool.eq_false_iff, Ne, isOut_iff]
    exact fun out => out.elim notCleared notRecalled
  · have marks := restarted_clearing_marks s b was
    exact ⟨(Prod.mk.inj marks).1, Prod.mk.inj (Prod.mk.inj marks).2⟩
  · rw [point, funext windowPoint_eq]
  · rw [opened]
    exact windowOpenAt_iff ..

/-- Settles O60: the eight steps of R189, read block by block from the state they leave. -/
theorem restartKeepsWhatItKeepsAndEmptiesTheRest : Obligations.RestartKeepsWhatItKeepsAndEmptiesTheRest := by
  intro s
  have given : (okReply 0x02 [] (restarted s)).given = { s.given with sending := some ⟨0x82, [0]⟩ } := by
    have answered (u : State) : (okReply 0x02 [] u).given = { u.given with sending := some ⟨0x82, [0]⟩ } := rfl
    rw [answered, restarted_given]
  refine ⟨okReply 0x02 [] (restarted s), rfl, given, ?_⟩
  have attn := restarted_attn s
  have departures := (restarted_departures s).trans (restartCore_departures s)
  obtain ⟨queue, channels, stageUp, ramp, gate, plugged⟩ := restarted_hall s
  obtain ⟨traffic, -⟩ := restarted_deriving s
  obtain ⟨reset, unset, hallClear⟩ := restarted_hallFlags s
  have lanes := restarted_lanes s
  have bays (b : BayNo) := And.intro (restarted_contactor s b) (And.intro (restarted_lcsAt s b) (And.intro (restarted_frdAt s b)
    (And.intro (restarted_hplAt s b) (restarted_rowAt s b))))
  have links (b : BayNo) := And.intro (restarted_clc_down s b) (And.intro (restarted_clc_active s b) (restarted_clc_lost s b))
  have docks (b : BayNo) := And.intro (restarted_dku_docks s b) (restarted_dku_idle s b)
  have clearances := restarted_clearance s
  have actives := restarted_active s
  have holds := restarted_holds s
  have derived (b : BayNo) := (restarted_rederived s b).derived
  have conditions := restarted_conditions s
  have flags := restarted_bayFlags s
  have requests (b : BayNo) (out : (s.clrAt b).state = .cleared ∨ (s.clrAt b).state = .recalled) :=
    restarted_out_request s b ((isOut_iff _).mpr out)
  generalize restarted s = u at *
  refine ⟨attn, departures, queue, channels, stageUp, ramp, gate, plugged, fun b m => (traffic.order b m).2, fun b => ?_,
    reset, unset, hallClear, requests, fun b m => (traffic.order b m).1, fun b m was now held => ?_, traffic.sub,
    fun l parked => (traffic.lanes l).parked parked, lanes⟩
  · obtain ⟨⟨contactor, latch, tripped, overdraw⟩, lcs, frd, hpl, row⟩ := bays b
    obtain ⟨down, active, lost⟩ := links b
    obtain ⟨docked, idle⟩ := docks b
    obtain ⟨out, inside, cleared, point, opened⟩ := clearances b
    obtain ⟨reliance, frozen, frozenSet⟩ := holds b
    obtain ⟨sensor, link, clear⟩ := flags b
    exact ⟨tripped, overdraw, contactor, latch, lcs, frd, hpl, row, down, active, lost, docked, idle, out, inside, cleared, point,
      opened, actives b, reliance, frozen, frozenSet, derived b, conditions b, sensor, link, clear⟩
  · rcases traffic.wait b m was now with waits | reported
    · exact waits
    · exact absurd reported (Bool.eq_false_iff.mp held)

end Sys2Proof.Machine
end

section
/-! O48 and O49 (R144 to R150): the requests on the departure list, and an active departure worked out anew. -/

namespace Sys2Proof.Machine

/-! ### The operands -/

theorem preferenceOf_eq (x : Byte) : preferenceOf x = [LanePreference.a, .b, .either][x.toNat]? := by
  unfold preferenceOf
  generalize x.toNat = n
  match n with
  | 0 => rfl
  | 1 => rfl
  | 2 => rfl
  | n + 3 => rfl

theorem preferenceOf_none_iff (x : Byte) : preferenceOf x = none ↔ 3 ≤ x.toNat := by
  rw [preferenceOf_eq, List.getElem?_eq_none_iff]
  rfl

theorem waiversOf_none_iff (x : Byte) : waiversOf x = none ↔ 16 ≤ x.toNat := by
  unfold waiversOf
  split <;> simp <;> omega

theorem clampInt_ne_iff (lo hi v : Int) (h : lo ≤ hi) : v ≠ clampInt lo hi v ↔ v < lo ∨ hi < v := by
  unfold clampInt
  split
  · omega
  · split <;> omega

theorem departureFieldsOf_none_iff (w : DepartureWords) : departureFieldsOf w = none ↔
    3 ≤ w.lane.toNat ∨ (w.flags.getLsbD 1 = true ∧ w.fleet.toNat = 0) := by
  rw [← preferenceOf_none_iff]
  unfold departureFieldsOf
  cases preferenceOf w.lane with
  | none => simp
  | some lane => cases w.flags.getLsbD 1 <;> by_cases zero : w.fleet.toNat = 0 <;> simp [zero]

/-- The fields taken, as the words give them. -/
theorem departureFieldsOf_some {w : DepartureWords} {f : DepartureFields} (h : departureFieldsOf w = some f) :
    preferenceOf w.lane = some f.lane ∧ f.time = w.time.toNat ∧ f.lead = min w.lead.toNat 30 ∧
    f.target = (if w.flags.getLsbD 0 then some (clampInt 50 300 w.target.toInt) else none) ∧
    f.fleet = (if w.flags.getLsbD 1 then some w.fleet.toNat else none) ∧ f.lampCheck = w.flags.getLsbD 2 ∧
    (f.clamped = true ↔ 30 < w.lead.toNat ∨
      (w.flags.getLsbD 0 = true ∧ (w.target.toInt < 50 ∨ 300 < w.target.toInt))) := by
  unfold departureFieldsOf at h
  split at h
  · cases h
  · next lane admits =>
    split at h
    · cases h
    · cases h
      refine ⟨admits, rfl, rfl, rfl, rfl, rfl, ?_⟩
      rw [← clampInt_ne_iff 50 300 _ (by decide)]
      simp only [Bool.or_eq_true, Bool.and_eq_true, bne_iff_ne, decide_eq_true_eq]
      exact or_comm

theorem waiversOf_some {x : Byte} {z : Waivers} (h : waiversOf x = some z) : z.heatNotReady = x.getLsbD 0 ∧
    z.heatFault = x.getLsbD 1 ∧ z.heatStale = x.getLsbD 2 ∧ z.lampNotPassed = x.getLsbD 3 := by
  unfold waiversOf at h
  split at h
  · cases h; exact ⟨rfl, rfl, rfl, rfl⟩
  · cases h

/-! ### DEPARTURE_ADD -/

theorem reqDepartureAdd_range {id : Word16} {x : Byte} {w : DepartureWords} {v : Byte} (s : State)
    (bad : 16 ≤ x.toNat ∨ departureFieldsOf w = none ∨ waiversOf v = none ∨ id.toNat = 0) :
    reqDepartureAdd id x w v s = s.sends 0xD0 [3, 2] := by
  unfold reqDepartureAdd
  split
  · next b f z bay fields waivers =>
    have zero : id.toNat = 0 := by
      rcases bad with above | none' | none' | zero
      · rw [bayOf_of_le above] at bay; cases bay
      · rw [none'] at fields; cases fields
      · rw [none'] at waivers; cases waivers
      · exact zero
    rw [if_pos zero]
    rfl
  · rfl

theorem reqDepartureAdd_byte {id : Word16} {w : DepartureWords} {v : Byte} {f : DepartureFields} {z : Waivers} (b : BayNo) (s : State)
    (fields : departureFieldsOf w = some f) (waivers : waiversOf v = some z) (named : id.toNat ≠ 0) :
    reqDepartureAdd id (byte b.val) w v s = addDeparture id.toNat b f z s := by
  unfold reqDepartureAdd
  rw [bayOf_byte, fields, waivers]
  exact if_neg named

/-- What an accepted reply to a departure request carries (log 27). -/
theorem takenReply_record {kind : Nat} {clamped : Bool} {id : Nat} (s : State) :
    (clamped = false → takenReply kind clamped (clampedRecord clamped id s) s = s.sends (replyKind (byte kind)) [0]) ∧
    (clamped = true → ∀ d, s.departureOf id = some d →
      takenReply kind clamped (clampedRecord clamped id s) s = s.sends (replyKind (byte kind)) (1 :: departureData s d)) := by
  refine ⟨fun no => ?_, fun yes d found => ?_⟩
  · rw [no]; rfl
  · rw [takenReply_eq_sends, yes]
    unfold clampedRecord
    rw [if_pos rfl, found]
    rfl

theorem workOut_same {b : BayNo} {s : State} (same : s.earliest b = (s.dpmAt b).active) : workOut b s = (s, []) := by
  unfold workOut
  exact if_pos same

theorem workOut_changed {b : BayNo} {s : State} (changed : s.earliest b ≠ (s.dpmAt b).active) : workOut b s =
    (s.modDpm b (fun d => { d with active := s.earliest b }), [.frdActiveChanged b, .dkuMatch b,
      if s.earliest b = none then .hplNone b else .hplForm b false, .clrDeparture b, .ownConditions b]) := by
  unfold workOut
  dsimp only
  rw [if_neg changed]
  cases s.earliest b <;> rfl

theorem waitPlace_congr {s t : State} (key : t.waitKey = s.waitKey) (b : BayNo) (q : List BayNo) : t.waitPlace b q = s.waitPlace b q := by
  induction q with
  | nil => rfl
  | cons x xs ih =>
    unfold State.waitPlace State.waitsAhead
    rw [key, ih]

/-- A bay placed in the wait order (R166). -/
theorem joinOrder_eq (b : BayNo) (s : State) :
    joinOrder b s = { s with waitOrder := s.waitPlace b (s.waitOrder.filter (fun x => x != b)) } := by
  have place : (leaveOrder b s).waitPlace b (leaveOrder b s).waitOrder = s.waitPlace b (s.waitOrder.filter (fun x => x != b)) :=
    waitPlace_congr (t := leaveOrder b s) (s := s) rfl b _
  unfold joinOrder
  dsimp only
  rw [place]
  rfl

theorem clrDeparture_eq (b : BayNo) (s : State) : clrDeparture b s = (if b ∈ s.waitOrder then
    { s with waitOrder := s.waitPlace b (s.waitOrder.filter (fun x => x != b)) } else s, [.clrWindow b, .clrOfferTo b]) := by
  unfold clrDeparture
  rw [joinOrder_eq]
  simp only [List.contains_iff_mem]

/-- The DPM's own conditions by the active departure that stands (R150). -/
theorem ownConditions_eq (b : BayNo) (s : State) : ownConditions b s = reportChange b (fun c => match s.activeOf b with
    | none => { c with noDeparture := true, lampRequired := false, waivers := ⟨false, false, false, false⟩ }
    | some d => { c with noDeparture := false, lampRequired := d.lampCheck, waivers := d.waivers }) s := by
  unfold ownConditions
  cases s.activeOf b <;> rfl

/-- Settles O48. -/
theorem departureAddPutsTheRecordIn : Obligations.DepartureAddPutsTheRecordIn := by
  have next {s t : State} (h : s = t) : (.next s : Host.Outcome State Fault Refusal) = .next t := congrArg _ h
  refine ⟨departureFieldsOf_none_iff, fun w f h => (departureFieldsOf_some h).2, waiversOf_none_iff,
    fun id x w v s bad => next (reqDepartureAdd_range s bad), fun id b w v f z s fields waivers named => ?_,
    fun w f h => (preferenceOf_eq _).symm.trans (departureFieldsOf_some h).1, fun x z h => waiversOf_some h, fun b s => ?_⟩
  · have go : exec (.departureAdd id (byte b.val) w v) s = .next (addDeparture id.toNat b f z s) :=
      next (reqDepartureAdd_byte b s fields waivers named)
    dsimp only
    rw [go]
    unfold addDeparture
    refine ⟨fun unset => ?_, fun set' listed => ?_, fun set' free full => ?_, fun set' free room ahead => ?_,
      fun set' free room behind => ?_⟩
    · rw [if_pos unset]; rfl
    · rw [if_neg (by simp [set']), if_pos (Option.isSome_iff_ne_none.mpr listed)]; rfl
    · rw [if_neg (by simp [set']), if_neg (by simp [free]), if_pos (show Config.listSize ≤ _ from full)]; rfl
    · rw [if_neg (by simp [set']), if_neg (by simp [free]), if_neg (show ¬ Config.listSize ≤ _ from Nat.not_le.mpr room), if_pos ahead]
      rfl
    · rw [if_neg (by simp [set']), if_neg (by simp [free]), if_neg (show ¬ Config.listSize ≤ _ from Nat.not_le.mpr room),
        if_neg (by simp [behind])]
      exact ⟨fun no => next ((takenReply_record _).1 no), fun yes e found => next ((takenReply_record _).2 yes e found)⟩
  · refine ⟨fun same => workOut_same same, fun changed => workOut_changed changed, rfl, clrDeparture_eq b s, ?_⟩
    refine (ownConditions_eq b s).trans ?_
    unfold reportChange
    cases s.activeOf b <;> rfl

/-! ### The requests on a record -/

section

variable {id : Word16} {s : State}

theorem reqDepartureCancel_listed {d : Departure} (named : id.toNat ≠ 0) (listed : s.departureOf id.toNat = some d) :
    reqDepartureCancel id s = if s.isPinned d then s.sends 0xD2 [3, 4]
      else (perform ({ s with departures := removeDeparture d.id s.departures },
        cancelNotices d.bay ((s.dpmAt d.bay).active == some d.id))).sends 0xD2 [0] := by
  unfold reqDepartureCancel
  rw [if_neg named, listed]
  rfl

theorem reqDepartureAmend_listed {w : DepartureWords} {f : DepartureFields} {d : Departure} (fields : departureFieldsOf w = some f)
    (named : id.toNat ≠ 0) (listed : s.departureOf id.toNat = some d) : reqDepartureAmend id w s =
      if s.isPinned d || s.aheadOfPinned d.bay f.time then s.sends 0xD1 [3, 4] else amendDeparture d f s := by
  unfold reqDepartureAmend
  rw [fields]
  dsimp only
  rw [if_neg named, listed]
  rfl

theorem reqDepartureWaive_listed {v : Byte} {z : Waivers} {d : Departure} (waivers : waiversOf v = some z)
    (named : id.toNat ≠ 0) (listed : s.departureOf id.toNat = some d) : reqDepartureWaive id v s =
      (perform ({ s with departures := modDeparture d.id (fun x => { x with waivers := z }) s.departures },
        if (s.dpmAt d.bay).active = some d.id then [.ownConditions d.bay] else [])).sends 0xD3 [0] := by
  unfold reqDepartureWaive
  rw [waivers]
  dsimp only
  rw [if_neg named, listed]
  rfl

theorem reqDepartureCancel_absent (named : id.toNat ≠ 0) (absent : s.departureOf id.toNat = none) :
    reqDepartureCancel id s = s.sends 0xD2 [3, 7] := by
  unfold reqDepartureCancel
  rw [if_neg named, absent]
  rfl

theorem reqDepartureAmend_absent {w : DepartureWords} {f : DepartureFields} (fields : departureFieldsOf w = some f)
    (named : id.toNat ≠ 0) (absent : s.departureOf id.toNat = none) : reqDepartureAmend id w s = s.sends 0xD1 [3, 7] := by
  unfold reqDepartureAmend
  rw [fields]
  dsimp only
  rw [if_neg named, absent]
  rfl

theorem reqDepartureWaive_absent {v : Byte} {z : Waivers} (waivers : waiversOf v = some z)
    (named : id.toNat ≠ 0) (absent : s.departureOf id.toNat = none) : reqDepartureWaive id v s = s.sends 0xD3 [3, 7] := by
  unfold reqDepartureWaive
  rw [waivers]
  dsimp only
  rw [if_neg named, absent]
  rfl

theorem reqDepartureAmend_range {w : DepartureWords} (bad : departureFieldsOf w = none ∨ id.toNat = 0) :
    reqDepartureAmend id w s = s.sends 0xD1 [3, 2] := by
  unfold reqDepartureAmend
  cases fields : departureFieldsOf w with
  | none => rfl
  | some f => exact if_pos (bad.resolve_left (by rw [fields]; nofun))

theorem reqDepartureWaive_range {v : Byte} (bad : waiversOf v = none ∨ id.toNat = 0) :
    reqDepartureWaive id v s = s.sends 0xD3 [3, 2] := by
  unfold reqDepartureWaive
  cases waivers : waiversOf v with
  | none => rfl
  | some z => exact if_pos (bad.resolve_left (by rw [waivers]; nofun))

/-- The notices of an amendment, its three comparisons as propositions. -/
theorem amendNotices_eq (d : Departure) (f : DepartureFields) (t : State) : amendNotices d f t =
    (if d.time = f.time then [] else [.lateCheck (some d.id)]) ++
    (if t.earliest d.bay ≠ (t.dpmAt d.bay).active then [.workOut d.bay]
      else if t.earliest d.bay = some d.id then [.amended d.bay (decide (d.fleet ≠ f.fleet))
        (decide (d.target ≠ f.target ∨ d.time ≠ f.time)) (decide (d.time ≠ f.time ∨ d.lead ≠ f.lead ∨ d.lane ≠ f.lane))]
      else []) ++ allBays.map .dkuWrongBay := by
  have fleet : (d.fleet != f.fleet) = decide (d.fleet ≠ f.fleet) := Bool.eq_iff_iff.mpr (by simp)
  have heat : (d.target != f.target || d.time != f.time) = decide (d.target ≠ f.target ∨ d.time ≠ f.time) :=
    Bool.eq_iff_iff.mpr (by simp)
  have lane : (d.time != f.time || d.lead != f.lead || d.lane != f.lane) =
      decide (d.time ≠ f.time ∨ d.lead ≠ f.lead ∨ d.lane ≠ f.lane) := Bool.eq_iff_iff.mpr (by simp [or_assoc])
  unfold amendNotices
  rw [fleet, heat, lane]
  rfl

/-- The state that an amendment leaves before its reply. -/
def State.amendedBy (s : State) (d : Departure) (f : DepartureFields) : State :=
  if d.amend f = d then s else perform (s.replaceDeparture d f, amendNotices d f (s.replaceDeparture d f))

theorem amendDeparture_eq (d : Departure) (f : DepartureFields) (s : State) : amendDeparture d f s =
    takenReply 0x51 f.clamped (clampedRecord f.clamped d.id (s.amendedBy d f)) (s.amendedBy d f) := rfl

theorem amendDeparture_given (d : Departure) (f : DepartureFields) (s : State) :
    (amendDeparture d f s).given = { s.given with sending := (amendDeparture d f s).hli.sending } := by
  have same : (s.amendedBy d f).given = s.given := by
    unfold State.amendedBy
    split
    · rfl
    · rw [perform_given]; rfl
  rw [amendDeparture_eq, takenReply_eq_sends, sends_given, same]
  rfl

theorem reqDepartureAmend_given (id : Word16) (w : DepartureWords) (s : State) :
    (reqDepartureAmend id w s).given = { s.given with sending := (reqDepartureAmend id w s).hli.sending } := by
  by_cases bad : departureFieldsOf w = none ∨ id.toNat = 0
  · rw [reqDepartureAmend_range bad]; rfl
  · obtain ⟨some', named⟩ := not_or.mp bad
    obtain ⟨f, fields⟩ := Option.ne_none_iff_exists'.mp some'
    cases listed : s.departureOf id.toNat with
    | none => rw [reqDepartureAmend_absent fields named listed]; rfl
    | some d =>
      rw [reqDepartureAmend_listed fields named listed]
      split
      · rfl
      · exact amendDeparture_given d f s

theorem reqDepartureCancel_given (id : Word16) (s : State) :
    (reqDepartureCancel id s).given = { s.given with sending := (reqDepartureCancel id s).hli.sending } := by
  by_cases zero : id.toNat = 0
  · unfold reqDepartureCancel; rw [if_pos zero]; rfl
  · cases listed : s.departureOf id.toNat with
    | none => rw [reqDepartureCancel_absent zero listed]; rfl
    | some d =>
      rw [reqDepartureCancel_listed zero listed]
      split
      · rfl
      · rw [sends_given, perform_given]; rfl

theorem reqDepartureWaive_given (id : Word16) (v : Byte) (s : State) :
    (reqDepartureWaive id v s).given = { s.given with sending := (reqDepartureWaive id v s).hli.sending } := by
  by_cases bad : waiversOf v = none ∨ id.toNat = 0
  · rw [reqDepartureWaive_range bad]; rfl
  · obtain ⟨some', named⟩ := not_or.mp bad
    obtain ⟨z, waivers⟩ := Option.ne_none_iff_exists'.mp some'
    cases listed : s.departureOf id.toNat with
    | none => rw [reqDepartureWaive_absent waivers named listed]; rfl
    | some d =>
      rw [reqDepartureWaive_listed waivers named listed, sends_given, perform_given]
      rfl

theorem isPinned_iff (s : State) (d : Departure) : s.isPinned d = true ↔
    (s.clrAt d.bay).state.pins = true ∧ (s.dpmAt d.bay).active = some d.id := by
  unfold State.isPinned
  rw [Bool.and_eq_true, beq_iff_eq]

end

/-- Settles O49. -/
theorem departureChangesActOnTheRecord : Obligations.DepartureChangesActOnTheRecord := by
  have next {s t : State} (h : s = t) : (.next s : Host.Outcome State Fault Refusal) = .next t := congrArg _ h
  refine ⟨fun w v s => ⟨?_, rfl, ?_⟩, fun id w s bad => ?_, fun id v s bad => ?_, fun id w v f z s named fields waivers => ⟨fun absent => ⟨?_, ?_, ?_⟩,
    fun d listed => ⟨fun pinned => ?_, fun barred => ?_, fun free => ?_, fun free behind => ?_, ?_⟩⟩, fun b fleet heat lane s => rfl, ?_⟩
  · exact next (reqDepartureAmend_range (.inr rfl))
  · exact next (reqDepartureWaive_range (.inr rfl))
  · exact next (reqDepartureAmend_range (.inl bad))
  · exact next (reqDepartureWaive_range (.inl ((waiversOf_none_iff v).mpr bad)))
  · exact next (reqDepartureAmend_absent fields named absent)
  · exact next (reqDepartureCancel_absent named absent)
  · exact next (reqDepartureWaive_absent waivers named absent)
  · refine next ((reqDepartureCancel_listed named listed).trans (if_pos ((isPinned_iff s d).mpr pinned)))
  · refine next ((reqDepartureAmend_listed fields named listed).trans (if_pos ?_))
    rw [Bool.or_eq_true, isPinned_iff]
    exact barred
  · refine next ((reqDepartureCancel_listed named listed).trans ?_)
    rw [if_neg fun p => free ((isPinned_iff s d).mp p)]
    unfold cancelNotices
    simp only [beq_iff_eq]
    rfl
  · have go := next ((reqDepartureAmend_listed fields named listed).trans (if_neg (by
      rw [Bool.or_eq_true, isPinned_iff, behind]; exact fun p => p.elim free nofun)))
    rw [amendDeparture_eq] at go
    unfold State.amendedBy at go
    rw [amendNotices_eq] at go
    rw [← departureOf_id listed]
    exact ⟨fun no => go.trans (next ((takenReply_record _).1 no)),
      fun yes e found => go.trans (next ((takenReply_record _).2 yes e found))⟩
  · exact next (reqDepartureWaive_listed waivers named listed)
  · intro id w v s row mem
    simp only [List.mem_cons, List.not_mem_nil, or_false] at mem
    rcases mem with rfl | rfl | rfl
    · exact ⟨_, rfl, reqDepartureAmend_given id w s⟩
    · exact ⟨_, rfl, reqDepartureCancel_given id s⟩
    · exact ⟨_, rfl, reqDepartureWaive_given id v s⟩

end Sys2Proof.Machine
end

section
/-! O46 (R132, R133): power and outcome of a lit measurement, and what the lamp steps share. -/

namespace Sys2Proof.Machine

theorem ite_of_iff {α : Type} {P Q : Prop} [Decidable P] [Decidable Q] {x y u v : α} (same : P ↔ Q) (yes : x = u) (no : y = v) :
    (if P then x else y) = if Q then u else v := ite_congr (propext same) (fun _ => yes) (fun _ => no)

theorem modLcs_congr {s : State} {b : BayNo} {f g : Lcs → Lcs} (h : f (s.lcsAt b) = g (s.lcsAt b)) : s.modLcs b f = s.modLcs b g :=
  congrArg (fun l => ({ s with lcs := bayPut s.lcs b l } : State)) h

theorem modLcs_self {s : State} {b : BayNo} {f : Lcs → Lcs} (h : f (s.lcsAt b) = s.lcsAt b) : s.modLcs b f = s := by
  show ({ s with lcs := bayPut s.lcs b (f (s.lcsAt b)) } : State) = s
  rw [h]
  exact congrArg (fun l => ({ s with lcs := l } : State)) (bayPut_bayAt ..)

/-! ### Submissions -/

theorem takesLamp_iff (c : Clc) : c.takesLamp = true ↔ c.link = .active ∧ c.lampSlot = none := by
  unfold Clc.takesLamp
  rw [Bool.and_eq_true, beq_iff_eq, Option.isNone_iff_eq_none]

theorem submitLampOf_eq (b : BayNo) (c : Nat) (on : Bool) (s : State) : submitLampOf b c on s =
    if (s.clcAt b).link = .active ∧ (s.clcAt b).lampSlot = none then (s.modClc b (fun k => k.submitLamp c on), [])
    else (s, [.lcsResult b c on .failed]) := by
  unfold submitLampOf
  simp only [takesLamp_iff]
  rfl

theorem circuit_some {l : Lcs} {c : Nat} (h : l.sequence[l.index]? = some c) : l.circuit = some c := h

/-- A step with its circuit goes to its OFF phase (R131). -/
theorem goOff_eq {b : BayNo} {s : State} {c : Nat} (h : (s.lcsAt b).sequence[(s.lcsAt b).index]? = some c) : goOff b s =
    if (s.clcAt b).link = .active ∧ (s.clcAt b).lampSlot = none
    then ((s.modLcs b (fun l => { l with phase := .off, settle := none })).modClc b (fun k => k.submitLamp c false), [])
    else (s.modLcs b (fun l => { l with phase := .off, settle := none }), [.lcsResult b c false .failed]) := by
  unfold goOff
  rw [circuit_some h]
  exact submitLampOf_eq ..

theorem perform_nothing (s : State) : perform (s, []) = s := rfl

theorem perform_ite {p : Prop} [Decidable p] (x y : Reaction) : perform (if p then x else y) = if p then perform x else perform y := by
  split <;> rfl

/-! ### Power and outcome -/

theorem lampPower_le {il v : Nat} (ib : Nat) (current : il ≤ 4000) (voltage : v ≤ 3200) : lampPower ib il v ≤ 12800 := by
  have product : (il - ib) * v ≤ 4000 * 3200 := Nat.mul_le_mul (by omega) voltage
  unfold lampPower halfUpDiv
  omega

theorem lampOutcome_cases (v p n t : Nat) :
    (v < 2000 → lampOutcome v p n t = .lowSupply) ∧
    (2000 ≤ v → p * 10 < n → lampOutcome v p n t = .open) ∧
    (2000 ≤ v → n ≤ p * 10 → p * 100 < n * (100 - t) → lampOutcome v p n t = .low) ∧
    (2000 ≤ v → n ≤ p * 10 → n * (100 - t) ≤ p * 100 → n * (100 + t) < p * 100 → lampOutcome v p n t = .high) ∧
    (lampOutcome v p n t = .pass ↔ 2000 ≤ v ∧ n ≤ p * 10 ∧ n * (100 - t) ≤ p * 100 ∧ p * 100 ≤ n * (100 + t)) := by
  unfold lampOutcome
  generalize n * (100 - t) = low
  generalize n * (100 + t) = high
  refine ⟨fun a => if_pos a, fun a b => ?_, fun a b c => ?_, fun a b c d => ?_, ?_⟩
  · rw [if_neg (Nat.not_lt.mpr a), if_pos b]
  · rw [if_neg (Nat.not_lt.mpr a), if_neg (Nat.not_lt.mpr b), if_pos c]
  · rw [if_neg (Nat.not_lt.mpr a), if_neg (Nat.not_lt.mpr b), if_neg (Nat.not_lt.mpr c), if_pos d]
  · split
    · exact ⟨nofun, fun h => by omega⟩
    · split
      · exact ⟨nofun, fun h => by omega⟩
      · split
        · exact ⟨nofun, fun h => by omega⟩
        · split
          · exact ⟨nofun, fun h => by omega⟩
          · exact ⟨fun _ => by omega, fun _ => rfl⟩

theorem meanOfFour_eq (xs : List Nat) : meanOfFour xs = (2 * xs.sum + 4) / 8 := rfl
theorem lampPower_eq (ib il v : Nat) : lampPower ib il v = (2 * ((il - ib) * v) + 1000) / 2000 := rfl

theorem lcsLit_idle {b : BayNo} {s : State} (amps volts : FourSamples) (other : (s.lcsAt b).phase ≠ .lit) :
    lcsLit b amps volts s = (s, []) := by
  unfold lcsLit
  dsimp only
  split
  · split
    · exact if_neg other
    · rfl
  · rfl

/-- Settles O46. -/
theorem lampOutcomeFollowsFromTheFigures : Obligations.LampOutcomeFollowsFromTheFigures := by
  have next {s t : State} (h : s = t) : (.next s : Host.Outcome State Fault Refusal) = .next t := congrArg _ h
  refine ⟨fun b amps volts s c r circuit found lit => ?_, fun b amps volts s other => ?_, meanOfFour_eq, lampPower_eq,
    fun ib il v => lampPower_le ib, lampOutcome_cases⟩
  · refine next ?_
    have taken : lcsLit b amps volts s = goOff b (s.modLcs b (fun l => { l with
        outcome := some (lampOutcome (meanOfFour (voltageSamples volts)) (lampPower (meanOfFour (s.lcsAt b).baseline)
          (meanOfFour (currentSamples amps)) (meanOfFour (voltageSamples volts))) r.nominal r.tolerance,
          some (lampPower (meanOfFour (s.lcsAt b).baseline) (meanOfFour (currentSamples amps)) (meanOfFour (voltageSamples volts))))
        baseline := []
        results := modResult c (fun r => { r with time := some s.clock.time }) l.results })) := by
      unfold lcsLit
      dsimp only
      rw [circuit_some circuit]
      dsimp only
      rw [found]
      exact if_pos lit
    show perform (lcsLit b amps volts s) = _
    rw [taken, goOff_eq (c := c) (by rw [State.modLcs_lcsAt_same]; exact circuit), perform_ite, modLcs_modLcs]
    rfl
  · exact next ((congrArg perform (lcsLit_idle amps volts other)).trans (perform_nothing s))

end Sys2Proof.Machine
end

section
/-! O44 (R123 to R129, R136, R137, R139): the requests on a lamp run, and its pauses. -/

namespace Sys2Proof.Machine

/-! ### A step released -/

section Release

variable (b : BayNo) (s : State)

theorem releaseStep_snd : (releaseStep b s).2 = if (s.rowAt b).quiet = true then [.falSelect] else [] := rfl

theorem setChannel_channel (t : State) (c : Fin 4) (h : Option BayNo) (d : Fin 4) :
    (t.setChannel c h).channels[d] = if d = c then h else t.channels[d] := by
  unfold State.setChannel
  by_cases e : d = c
  · subst e; simp
  · have ne : c.val ≠ d.val := fun x => e (Fin.ext x.symm)
    simp [e, ne]

theorem takeChannel_channels (t : State) (h : BayNo) (c : Fin 4) : (takeChannel h c t).channels = (t.setChannel c (some h)).channels := rfl

/-- The grant rows, the queue and the fault records after a release. -/
theorem releaseStep_quiet : ((releaseStep b s).1.rowAt b).quiet = false := by
  cases held : (s.lcsAt b).channel with
  | none => rw [releaseStep_of_none held, State.calm, State.modRow_rowAt_same]
  | some c =>
    rw [releaseStep_of_some held]
    cases s.queueWithout b <;> rw [State.freed, State.calm, State.modRow_rowAt_same]

theorem releaseStep_frd : (releaseStep b s).1.frd = s.frd := by
  cases held : (s.lcsAt b).channel with
  | none => rw [releaseStep_of_none held]; rfl
  | some c =>
    have kept (t : State) (h : Option BayNo) : (t.setChannel c h).frd = t.frd := rfl
    rw [releaseStep_of_some held]
    cases s.queueWithout b <;>
      simp only [State.freed, State.calm, State.vacate, takeChannel, State.modRow_frd, State.modLcs_frd, kept] <;> rfl

theorem releaseStep_queue : b ∉ (releaseStep b s).1.channelQueue := by
  have out : b ∉ s.queueWithout b := fun m => ne_of_mem_queueWithout m rfl
  cases held : (s.lcsAt b).channel with
  | none =>
    have queue : ((s.withQueue (s.queueWithout b)).calm b).channelQueue = s.queueWithout b := rfl
    rw [releaseStep_of_none held, queue]
    exact out
  | some c =>
    rw [releaseStep_of_some held]
    cases queue : s.queueWithout b with
    | nil => exact List.not_mem_nil
    | cons h rest =>
      have left : (s.freed b c (h :: rest)).channelQueue = rest := rfl
      rw [queue] at out
      rw [left]
      exact fun m => out (List.mem_cons_of_mem _ m)

variable {b s}

theorem releaseStep_frees {c : Fin 4} (held : (s.lcsAt b).channel = some c) (empty : s.queueWithout b = []) :
    (releaseStep b s).1.channels[c] = none := by
  rw [releaseStep_of_some held, empty]
  exact (setChannel_channel ..).trans (if_pos rfl)

theorem releaseStep_passes {c : Fin 4} {h : BayNo} {rest : List BayNo} (held : (s.lcsAt b).channel = some c)
    (queue : s.queueWithout b = h :: rest) : h ≠ b ∧ (releaseStep b s).1.channels[c] = some h ∧ (releaseStep b s).1.channelQueue = rest ∧
      ((releaseStep b s).1.lcsAt h).channel = some c ∧ ((releaseStep b s).1.rowAt h).quiet = true := by
  have ne : h ≠ b := ne_of_mem_queueWithout (queue ▸ List.mem_cons_self)
  rw [releaseStep_of_some held, queue, State.freed]
  refine ⟨ne, (setChannel_channel ..).trans (if_pos rfl), rfl, ?_, ?_⟩
  · rw [calm_lcsAt]
    unfold takeChannel
    rw [State.modLcs_lcsAt_same]
  · rw [State.calm, State.modRow_rowAt_ne _ _ ne]
    unfold takeChannel
    rw [State.modLcs_rowAt, State.modRow_rowAt_same]

end Release

/-! ### A step abandoned -/

/-- What an abandonment makes of a lamp record (R136). -/
def Lcs.abandoned (l : Lcs) : Lcs :=
  match l.phase, l.circuit with
  | .light, some c | .settle, some c | .lit, some c => { l.noStep with owed := some c }
  | .off, some c => { l.judge.noStep with owed := some c }
  | _, _ => l.noStep

section Abandoned

variable {l : Lcs}

theorem abandoned_of_unlit (unlit : l.phase ∉ [StepPhase.light, .settle, .lit, .off]) : l.abandoned = l.noStep := by
  have other {p : StepPhase} (lit : p ∈ [StepPhase.light, .settle, .lit, .off]) : l.phase ≠ p := fun e => unlit (e ▸ lit)
  unfold Lcs.abandoned
  split
  case h_1 e _ => exact absurd e (other (by decide))
  case h_2 e _ => exact absurd e (other (by decide))
  case h_3 e _ => exact absurd e (other (by decide))
  case h_4 e _ => exact absurd e (other (by decide))
  case h_5 => rfl

theorem abandoned_of_none (none' : l.circuit = none) : l.abandoned = l.noStep := by
  unfold Lcs.abandoned
  rw [none']
  cases l.phase <;> rfl

theorem abandoned_of_lit {c : Nat} (circuit : l.circuit = some c) (lit : l.phase ∈ [StepPhase.light, .settle, .lit]) :
    l.abandoned = { l.noStep with owed := some c } := by
  simp only [List.mem_cons, List.not_mem_nil, or_false] at lit
  unfold Lcs.abandoned
  rcases lit with e | e | e <;> rw [e, circuit]

theorem abandoned_of_off {c : Nat} (circuit : l.circuit = some c) (off : l.phase = .off) :
    l.abandoned = { l.judge.noStep with owed := some c } := by
  unfold Lcs.abandoned
  rw [off, circuit]

end Abandoned

theorem abandoned_channel (l : Lcs) : l.abandoned.channel = l.channel := by
  unfold Lcs.abandoned
  split
  · rfl
  · rfl
  · rfl
  · exact l.judge_channel
  · rfl

theorem abandoned_results {l : Lcs} (on : l.phase ≠ .off) : l.abandoned.results = l.results := by
  unfold Lcs.abandoned
  split
  · rfl
  · rfl
  · rfl
  · next off _ => exact absurd off on
  · rfl

theorem noStep_owed (l : Lcs) : l.noStep.owed = l.owed := rfl

/-- The switch-off that an abandoned step may ask for (R136). -/
def switchOff (b : BayNo) (l : Lcs) : List Notice :=
  if (l.phase = .settle ∨ l.phase = .lit) ∧ l.circuit ≠ none then [.lcsSwitchOff b] else []

theorem switchOff_of_dark {b : BayNo} {l : Lcs} (settled : l.phase ≠ .settle) (lit : l.phase ≠ .lit) : switchOff b l = [] :=
  if_neg fun h => h.1.elim settled lit

theorem switchOff_of_lit {b : BayNo} {l : Lcs} {c : Nat} (lit : l.phase = .settle ∨ l.phase = .lit) (circuit : l.circuit = some c) :
    switchOff b l = [.lcsSwitchOff b] := if_pos ⟨lit, by rw [circuit]; nofun⟩

/-- A step abandoned: released, its record changed, its switch-off asked for. -/
theorem abandonStep_eq (b : BayNo) (s : State) : abandonStep b s =
    ((releaseStep b s).1.modLcs b Lcs.abandoned, (releaseStep b s).2 ++ switchOff b (s.lcsAt b)) := by
  have change {f : Lcs → Lcs} (h : f { s.lcsAt b with channel := none } = ({ s.lcsAt b with channel := none } : Lcs).abandoned) :
      (releaseStep b s).1.modLcs b f = (releaseStep b s).1.modLcs b Lcs.abandoned := modLcs_congr (by rw [releaseStep_lcsAt, h])
  unfold abandonStep
  dsimp only
  split
  case h_1 c phase circuit =>
    rw [switchOff_of_dark (by rw [phase]; nofun) (by rw [phase]; nofun), List.append_nil,
      change (abandoned_of_lit (l := { s.lcsAt b with channel := none }) circuit (by rw [phase]; decide)).symm]
  case h_2 c phase circuit =>
    rw [switchOff_of_dark (by rw [phase]; nofun) (by rw [phase]; nofun), List.append_nil,
      change (abandoned_of_off (l := { s.lcsAt b with channel := none }) circuit phase).symm]
  case h_3 c phase circuit =>
    rw [switchOff_of_lit (.inl phase) circuit,
      change (abandoned_of_lit (l := { s.lcsAt b with channel := none }) circuit (by rw [phase]; decide)).symm]
  case h_4 c phase circuit =>
    rw [switchOff_of_lit (.inr phase) circuit,
      change (abandoned_of_lit (l := { s.lcsAt b with channel := none }) circuit (by rw [phase]; decide)).symm]
  case h_5 light off settle lit =>
    have none_of_lit : (s.lcsAt b).phase = .settle ∨ (s.lcsAt b).phase = .lit → (s.lcsAt b).circuit = none := fun p => by
      cases circuit : (s.lcsAt b).circuit with
      | none => rfl
      | some c => exact (p.elim (fun e => settle c e circuit) (fun e => lit c e circuit)).elim
    have unlit : ({ s.lcsAt b with channel := none } : Lcs).abandoned = ({ s.lcsAt b with channel := none } : Lcs).noStep := by
      cases circuit : (s.lcsAt b).circuit with
      | none => exact abandoned_of_none circuit
      | some c =>
        refine abandoned_of_unlit fun m => ?_
        simp only [List.mem_cons, List.not_mem_nil, or_false] at m
        rcases m with e | e | e | e
        · exact light c e circuit
        · exact settle c e circuit
        · exact lit c e circuit
        · exact off c e circuit
    rw [change unlit.symm, show switchOff b (s.lcsAt b) = [] from if_neg fun h => h.2 (none_of_lit h.1), List.append_nil]

/-! ### A run aborted -/

/-- Whether a list gains a pair, as a proposition. -/
theorem gains_eq (old new : List (Nat × Nat)) : gains old new = decide (∃ p ∈ new, p ∉ old) :=
  Bool.eq_iff_iff.mpr (by simp [gains])

/-- The state of an aborted run before its outcomes are handed on. -/
def State.abortedRun (s : State) (b : BayNo) : State :=
  (releaseStep b s).1.modLcs b (fun l => { l.abandoned.noStep with status := .aborted, reasons := .none })

theorem abortedRun_lcsAt (s : State) (b : BayNo) : (s.abortedRun b).lcsAt b =
    { ({ s.lcsAt b with channel := none } : Lcs).abandoned.noStep with status := .aborted, reasons := .none } := by
  unfold State.abortedRun
  rw [State.modLcs_lcsAt_same, releaseStep_lcsAt]

theorem abortedRun_frdAt (s : State) (b : BayNo) : (s.abortedRun b).frdAt b = s.frdAt b := by
  unfold State.abortedRun
  rw [State.modLcs_frdAt, State.frdAt, releaseStep_frd]
  rfl

theorem lcsAbort_eq (b : BayNo) (s : State) : lcsAbort b s =
    ((s.abortedRun b).modFrd b (fun _ => (s.frdAt b).takeOutcomes ((s.abortedRun b).lcsAt b).results),
      (if (s.rowAt b).quiet = true then [.falSelect] else []) ++ switchOff b (s.lcsAt b) ++ [.tellLamp b, .raise b .lamp (.lamp .aborted)
        (decide (∃ p ∈ ((s.frdAt b).takeOutcomes ((s.abortedRun b).lcsAt b).results).unconfirmed, p ∉ (s.frdAt b).unconfirmed))]) := by
  have run : (abandonStep b s).1.modLcs b (fun l => { l.noStep with status := .aborted, reasons := .none }) = s.abortedRun b := by
    rw [abandonStep_eq, modLcs_modLcs]
    rfl
  unfold lcsAbort handOutcomes
  dsimp only
  rw [run, abortedRun_frdAt, gains_eq, abandonStep_eq]
  rfl

/-! ### Requests -/

section Requests

variable {b : BayNo} {s : State}

theorem lampModeOf_of_le {m : Byte} (above : 2 ≤ m.toNat) : lampModeOf m = none := by
  unfold lampModeOf
  generalize m.toNat = n at above
  match n, above with
  | n + 2, _ => rfl

theorem lampModeOf_of_lt {m : Byte} (listed : m.toNat < 2) : lampModeOf m = some (if m = 0 then .run else .step) := by
  have zero_or : m = 0 ∨ m = 1 := by
    have : m.toNat = 0 ∨ m.toNat = 1 := by omega
    exact this.imp (BitVec.eq_of_toNat_eq ·) (BitVec.eq_of_toNat_eq ·)
  rcases zero_or with rfl | rfl <;> rfl

theorem active_iff (st : LampStatus) : st.active = true ↔ st = .running ∨ st = .paused := by cases st <;> simp [LampStatus.active]

theorem reqLampStart_byte {m : Byte} (p : Byte) (listed : m.toNat < 2) : reqLampStart (byte b.val) m p s =
    if (s.bfeAt b).enabled = false then s.sends 0xC0 [3, 3]
    else if (s.dkuAt b).state ≠ .docked then s.sends 0xC0 [3, 4]
    else if (s.lcsAt b).status.active then s.sends 0xC0 [2]
    else (perform (lcsStart b (if m = 0 then .run else .step) (clampNat 1 4 p.toNat) s)).sends 0xC0
      [if clampNat 1 4 p.toNat = p.toNat then 0 else 1, byte (clampNat 1 4 p.toNat)] := by
  unfold reqLampStart
  rw [bayOf_byte, lampModeOf_of_lt listed]
  dsimp only
  rw [takenReply_eq_sends]
  by_cases same : clampNat 1 4 p.toNat = p.toNat
  · rw [if_pos same, show (clampNat 1 4 p.toNat != p.toNat) = false by simp [same]]
    rfl
  · rw [if_neg same, show (clampNat 1 4 p.toNat != p.toNat) = true by simp [same]]
    rfl

theorem reqLampAdvance_byte : reqLampAdvance (byte b.val) s =
    if (s.bfeAt b).enabled = false then s.sends 0xC1 [3, 3]
    else if (s.dkuAt b).state ≠ .docked then s.sends 0xC1 [3, 4]
    else if (s.lcsAt b).status = .paused ∧ (s.lcsAt b).reasons.step = true then
      (perform (dropReason b (fun r => { r with step := false }) s)).sends 0xC1 [0]
    else s.sends 0xC1 [3, 4] := by
  unfold reqLampAdvance
  rw [bayOf_byte]
  rfl

theorem reqLampAbort_byte : reqLampAbort (byte b.val) s =
    if (s.bfeAt b).enabled = false then s.sends 0xC2 [3, 3]
    else if (s.dkuAt b).state ≠ .docked then s.sends 0xC2 [3, 4]
    else if (s.lcsAt b).status.active then (perform (lcsAbort b s)).sends 0xC2 [0]
    else s.sends 0xC2 [3, 4] := by
  unfold reqLampAbort
  rw [bayOf_byte]
  rfl

theorem reqLampStart_range {x m : Byte} (p : Byte) (bad : 16 ≤ x.toNat ∨ 2 ≤ m.toNat) : reqLampStart x m p s = s.sends 0xC0 [3, 2] := by
  unfold reqLampStart
  rcases bad with above | above
  · rw [bayOf_of_le above]; rfl
  · rw [lampModeOf_of_le above]; cases bayOf x <;> rfl

theorem reqLampAdvance_range {x : Byte} (above : 16 ≤ x.toNat) : reqLampAdvance x s = s.sends 0xC1 [3, 2] := by
  unfold reqLampAdvance
  rw [bayOf_of_le above]
  rfl

theorem reqLampAbort_range {x : Byte} (above : 16 ≤ x.toNat) : reqLampAbort x s = s.sends 0xC2 [3, 2] := by
  unfold reqLampAbort
  rw [bayOf_of_le above]
  rfl

end Requests

end Sys2Proof.Machine
end

section
/-! O44, concluded: pause reasons, the start of a run, and the statement. -/

namespace Sys2Proof.Machine

theorem reasons_isNone_iff (r : PauseReasons) : r.isNone = true ↔ r = ⟨false, false, false⟩ := by
  obtain ⟨step, ignition, link⟩ := r
  cases step <;> cases ignition <;> cases link <;> decide

section Reasons

variable {b : BayNo} {s : State} (f : PauseReasons → PauseReasons)

theorem dropReason_last (paused : (s.lcsAt b).status = .paused) (none' : f (s.lcsAt b).reasons = ⟨false, false, false⟩) :
    dropReason b f s = (s.modLcs b (fun l => { l with status := .running, reasons := f (s.lcsAt b).reasons }),
      [.tellLamp b, .lcsNext b]) := by
  unfold dropReason
  dsimp only
  rw [if_pos paused, if_pos ((reasons_isNone_iff _).mpr none')]

theorem dropReason_further (paused : (s.lcsAt b).status = .paused) (some' : f (s.lcsAt b).reasons ≠ ⟨false, false, false⟩) :
    dropReason b f s = (s.modLcs b (fun l => { l with reasons := f (s.lcsAt b).reasons }), []) := by
  unfold dropReason
  dsimp only
  rw [if_pos paused, if_neg fun h => some' ((reasons_isNone_iff _).mp h)]
  rfl

theorem dropReason_idle (other : (s.lcsAt b).status ≠ .paused) : dropReason b f s = (s, []) := by
  unfold dropReason
  exact if_neg other

theorem addReason_running (running : (s.lcsAt b).status = .running) : addReason b f s =
    ((abandonStep b s).1.modLcs b (fun l => { l with status := .paused, reasons := f l.reasons }),
      (abandonStep b s).2 ++ [.tellLamp b, .raise b .lamp (.lamp .paused) false]) := by
  unfold addReason
  rw [running]
  rfl

theorem addReason_paused (paused : (s.lcsAt b).status = .paused) :
    addReason b f s = (s.modLcs b (fun l => { l with reasons := f (s.lcsAt b).reasons }), []) := by
  unfold addReason
  rw [paused]
  rfl

theorem addReason_idle (running : (s.lcsAt b).status ≠ .running) (paused : (s.lcsAt b).status ≠ .paused) :
    addReason b f s = (s, []) := by
  unfold addReason
  cases status : (s.lcsAt b).status
  case running => exact absurd status running
  case paused => exact absurd status paused
  all_goals rfl

end Reasons

/-! ### A run started -/

section Start

variable (b : BayNo) (mode : LampMode) (n : Nat) (s : State)

/-- A run that starts with a status and pause reasons (R123). -/
def State.startedRun (st : LampStatus) (rs : PauseReasons) : State :=
  s.modLcs b (fun l => { l.noStep with
    status := st, reasons := rs, mode := mode, passes := n
    sequence := (s.dkuAt b).profile.checkable.map LampEntry.circuit, pass := 1, index := 0, tries := 1
    validity := none, results := (s.dkuAt b).profile.checkable.map LampEntry.fresh })

theorem lcsStart_eq : lcsStart b mode n s =
    if (s.dkuAt b).profile.checkable = [] then (s.startedRun b mode n .running .none, [.tellLamp b, .lcsRunEnd b])
    else if (s.lcsAt b).ignition = some true ∨ (s.lcsAt b).linkHeldLost = true then
      (s.startedRun b mode n .paused ⟨false, decide ((s.lcsAt b).ignition = some true), (s.lcsAt b).linkHeldLost⟩,
        [.tellLamp b, .raise b .lamp (.lamp .paused) false])
    else (s.startedRun b mode n .running .none, [.tellLamp b, .lcsNext b]) := by
  unfold lcsStart State.startedRun
  dsimp only
  rw [beq_decide]
  by_cases none' : (s.dkuAt b).profile.checkable = []
  · rw [if_pos none', none']
    rfl
  · have some' : (s.dkuAt b).profile.checkable.isEmpty = false := by simp [none']
    rw [if_neg none', some']
    by_cases stops : (s.lcsAt b).ignition = some true ∨ (s.lcsAt b).linkHeldLost = true
    · have barred : PauseReasons.isNone ⟨false, decide ((s.lcsAt b).ignition = some true), (s.lcsAt b).linkHeldLost⟩ = false := by
        simp only [PauseReasons.isNone]
        rcases stops with e | e <;> simp [e]
      rw [if_pos stops, barred]
      rfl
    · obtain ⟨off, found⟩ := not_or.mp stops
      rw [if_neg stops, decide_eq_false off, Bool.eq_false_iff.mpr found]
      rfl

/-- What a run holds when it starts. -/
theorem lcsStart_lcsAt : ∃ st rs, (lcsStart b mode n s).1.lcsAt b = { (s.lcsAt b).noStep with
    status := st, reasons := rs, mode := mode, passes := n
    sequence := (s.dkuAt b).profile.checkable.map LampEntry.circuit, pass := 1, index := 0, tries := 1
    validity := none, results := (s.dkuAt b).profile.checkable.map LampEntry.fresh } := by
  have started (st : LampStatus) (rs : PauseReasons) := State.modLcs_lcsAt_same s b (fun l => { l.noStep with
    status := st, reasons := rs, mode := mode, passes := n
    sequence := (s.dkuAt b).profile.checkable.map LampEntry.circuit, pass := 1, index := 0, tries := 1
    validity := none, results := (s.dkuAt b).profile.checkable.map LampEntry.fresh })
  rw [lcsStart_eq]
  split
  · exact ⟨_, _, started ..⟩
  · split <;> exact ⟨_, _, started ..⟩

end Start

/-! ### The link and the ignition -/

theorem lampLink_iff (s : State) (b : BayNo) :
    s.lampLink b = true ↔ (s.clcAt b).link = .active ∧ (s.lcsAt b).linkHeldLost = false := by
  unfold State.lampLink
  rw [Bool.and_eq_true, beq_iff_eq, Bool.not_eq_true']

theorem submitOwed_eq (b : BayNo) (c : Nat) (s : State) : submitOwed b c s =
    if (s.clcAt b).link = .active ∧ (s.lcsAt b).linkHeldLost = false ∧ (s.clcAt b).lampSlot = none
    then s.modClc b (fun k => k.submitLamp c false) else s := by
  unfold submitOwed
  simp only [Bool.and_eq_true, lampLink_iff, takesLamp_iff]
  by_cases active : (s.clcAt b).link = .active <;> simp [active]

/-- Settles O44. -/
theorem lampRequestsMakeTheirChecks : Obligations.LampRequestsMakeTheirChecks := by
  have next {s t : State} (h : s = t) : (.next s : Host.Outcome State Fault Refusal) = .next t := congrArg _ h
  refine ⟨fun x m p s bad => next (reqLampStart_range p bad), fun x s above => ⟨next (reqLampAdvance_range above), next (reqLampAbort_range above)⟩,
    fun b s off => ⟨fun m p listed => next ((reqLampStart_byte p listed).trans (if_pos off)),
      next (reqLampAdvance_byte.trans (if_pos off)), next (reqLampAbort_byte.trans (if_pos off))⟩,
    fun b s on out => ?_, fun b s on docked => ?_, fun b mode n s => ?_, fun b s => ?_, fun b c s owed => ?_, fun b s paused => ?_,
    fun b mode n s => ?_, fun b s => ?_, fun b c s => rfl, fun b s => ?_, fun b f s => ?_, fun b s => ?_⟩
  · have on' : ¬ (s.bfeAt b).enabled = false := by rw [on]; nofun
    exact ⟨fun m p listed => next ((reqLampStart_byte p listed).trans ((if_neg on').trans (if_pos out))),
      next (reqLampAdvance_byte.trans ((if_neg on').trans (if_pos out))), next (reqLampAbort_byte.trans ((if_neg on').trans (if_pos out)))⟩
  · have on' : ¬ (s.bfeAt b).enabled = false := by rw [on]; nofun
    have docked' : ¬ (s.dkuAt b).state ≠ .docked := Classical.not_not.mpr docked
    refine ⟨fun active => ?_, fun running paused => ?_, fun paused step => ?_, fun barred => ?_⟩
    · have active' := (active_iff _).mpr active
      exact ⟨fun m p listed => next ((reqLampStart_byte p listed).trans ((if_neg on').trans ((if_neg docked').trans (if_pos active')))),
        next (reqLampAbort_byte.trans ((if_neg on').trans ((if_neg docked').trans (if_pos active'))))⟩
    · have idle : ¬ (s.lcsAt b).status.active = true := fun h => ((active_iff _).mp h).elim running paused
      exact ⟨next (reqLampAbort_byte.trans ((if_neg on').trans ((if_neg docked').trans (if_neg idle)))),
        fun m p listed => next ((reqLampStart_byte p listed).trans ((if_neg on').trans ((if_neg docked').trans (if_neg idle))))⟩
    · exact next (reqLampAdvance_byte.trans ((if_neg on').trans ((if_neg docked').trans (if_pos ⟨paused, step⟩))))
    · refine next (reqLampAdvance_byte.trans ((if_neg on').trans ((if_neg docked').trans (if_neg fun h => ?_))))
      exact barred.elim (fun e => e h.1) (fun e => by rw [e] at h; cases h.2)
  · obtain ⟨st, rs, started⟩ := lcsStart_lcsAt b mode n s
    dsimp only
    rw [started]
    refine ⟨rfl, rfl, rfl, rfl, rfl, rfl, rfl, List.map_map.trans rfl, fun r m => ?_⟩
    obtain ⟨e, -, rfl⟩ := List.mem_map.mp m
    exact ⟨rfl, rfl, rfl, rfl⟩
  · have own := abortedRun_lcsAt s b
    have row : (s.abortedRun b).row = (releaseStep b s).1.row := rfl
    have queue : (s.abortedRun b).channelQueue = (releaseStep b s).1.channelQueue := rfl
    have others {h : BayNo} (ne : h ≠ b) : (s.abortedRun b).lcsAt h = (releaseStep b s).1.lcsAt h := State.modLcs_lcsAt_ne _ _ ne
    rw [lcsAbort_eq]
    simp only [State.modFrd_lcsAt, State.modFrd_rowAt, State.modFrd_frdAt_same, State.modFrd_channelQueue, State.modFrd_channels]
    refine ⟨rfl, ?_, ?_, ?_, ?_, ?_, ?_, ?_, ?_, fun c circuit lit => ?_, fun unlit => ?_, trivial, fun on => ?_,
      fun c held empty => ?_, fun c h rest held next => ?_⟩
    · rw [own]
    · rw [own]; rfl
    · rw [own]; rfl
    · rw [own]; exact abandoned_channel _
    · rw [own]; rfl
    · rw [own]; rfl
    · rw [State.rowAt, row]; exact releaseStep_quiet b s
    · rw [queue]; exact releaseStep_queue b s
    · rw [own]
      by_cases off : (s.lcsAt b).phase = .off
      · rw [abandoned_of_off (l := { s.lcsAt b with channel := none }) circuit off]; rfl
      · have shines : (s.lcsAt b).phase ∈ [StepPhase.light, .settle, .lit] := by
          simp only [List.mem_cons, List.not_mem_nil, or_false] at lit ⊢
          grind
        rw [abandoned_of_lit (l := { s.lcsAt b with channel := none }) circuit shines]; rfl
    · rw [own, abandoned_of_unlit (l := { s.lcsAt b with channel := none }) unlit]; rfl
    · rw [own]; exact abandoned_results (l := { s.lcsAt b with channel := none }) on
    · exact releaseStep_frees held empty
    · obtain ⟨ne, taken, left, seat, quiet⟩ := releaseStep_passes held next
      rw [queue, others ne]
      exact ⟨taken, left, seat, quiet⟩
  · have taken : handle (.lcsSwitchOff b) s = done (submitOwed b c s) := by
      show lcsSwitchOff b s = _
      unfold lcsSwitchOff
      rw [owed]
    rw [taken, submitOwed_eq]
    rfl
  · refine ⟨fun ⟨ignition, link⟩ => ?_, fun more => ?_⟩
    · have none' : ({ (s.lcsAt b).reasons with step := false } : PauseReasons) = ⟨false, false, false⟩ := by dsimp only; rw [ignition, link]
      rw [dropReason_last _ paused none', none']
    · refine dropReason_further _ paused fun e => ?_
      simp only [PauseReasons.mk.injEq, true_and] at e
      rw [e.1, e.2] at more
      exact more.elim nofun nofun
  · refine ⟨fun none' => ?_, fun some' off found => ?_, fun some' stops => ?_⟩
    · rw [lcsStart_eq]; exact if_pos none'
    · rw [lcsStart_eq]
      refine (if_neg some').trans (if_neg ?_)
      rw [found]
      exact fun h => h.elim off nofun
    · rw [lcsStart_eq]
      exact (if_neg some').trans (if_pos stops)
  · refine ⟨fun held => Prod.ext (releaseStep_of_none held) rfl, fun c held => ⟨fun empty => ?_, fun h rest queue => ?_⟩⟩
    · refine Prod.ext ((releaseStep_of_some held).trans ?_) rfl
      rw [State.queueWithout, empty]
      rfl
    · refine Prod.ext ((releaseStep_of_some held).trans ?_) rfl
      rw [State.queueWithout, queue]
      rfl
  · have change {f : Lcs → Lcs} (h : ({ s.lcsAt b with channel := none } : Lcs).abandoned = f { s.lcsAt b with channel := none }) :
        (releaseStep b s).1.modLcs b Lcs.abandoned = (releaseStep b s).1.modLcs b f := modLcs_congr (by rw [releaseStep_lcsAt, h])
    refine ⟨fun unlit => ?_, fun c circuit => ?_⟩
    · have dark {p : StepPhase} (m : p ∈ [StepPhase.light, .settle, .lit, .off]) : (s.lcsAt b).phase ≠ p := fun e => unlit (e ▸ m)
      rw [abandonStep_eq, switchOff_of_dark (dark (by decide)) (dark (by decide)), List.append_nil]
      exact Prod.ext (change (abandoned_of_unlit (l := { s.lcsAt b with channel := none }) unlit)) rfl
    · have circuit := circuit_some circuit
      refine ⟨fun light => ?_, fun lit => ?_, fun off => ?_⟩
      · rw [abandonStep_eq, switchOff_of_dark (by rw [light]; nofun) (by rw [light]; nofun), List.append_nil]
        exact Prod.ext (change (f := fun l => { l.noStep with owed := some c }) (abandoned_of_lit (l := { s.lcsAt b with channel := none }) circuit (by dsimp only; rw [light]; decide))) rfl
      · rw [abandonStep_eq, switchOff_of_lit lit circuit]
        refine Prod.ext (change (f := fun l => { l.noStep with owed := some c }) (abandoned_of_lit (l := { s.lcsAt b with channel := none }) circuit ?_)) rfl
        dsimp only
        rcases lit with e | e <;> rw [e] <;> decide
      · rw [abandonStep_eq, switchOff_of_dark (by rw [off]; nofun) (by rw [off]; nofun), List.append_nil]
        exact Prod.ext (change (f := fun l => { l.judge.noStep with owed := some c }) (abandoned_of_off (l := { s.lcsAt b with channel := none }) circuit off)) rfl
  · exact ⟨addReason_running f, addReason_paused f, addReason_idle f, dropReason_last f, dropReason_further f, dropReason_idle f⟩
  · refine ⟨?_, ?_, ?_, ?_⟩
    · rfl
    · rfl
    · rfl
    · have owed (c : Nat) : submitOwed b c (s.modLcs b (fun l => { l with linkHeldLost := false })) =
          if (s.clcAt b).link = .active ∧ (s.clcAt b).lampSlot = none
          then (s.modLcs b (fun l => { l with linkHeldLost := false })).modClc b (fun k => k.submitLamp c false)
          else s.modLcs b (fun l => { l with linkHeldLost := false }) := by
        rw [submitOwed_eq, State.modLcs_lcsAt_same]
        simp only [true_and]
        rfl
      show lcsRecovered b s = _
      unfold lcsRecovered
      dsimp only
      cases (s.lcsAt b).owed with
      | none => rfl
      | some c =>
        dsimp only
        rw [owed]
        rfl

end Sys2Proof.Machine
end

section
/-! O45 (R125, R126, R128, R130, R131, R134, R138, R140, R141, R75): the events of a lamp step and a run's course. -/

namespace Sys2Proof.Machine

section

variable {b : BayNo} {s : State}

/-! ### Channels asked for -/

theorem find_lowest : ∀ (p : Fin 4 → Bool) (c : Fin 4), p c = true → (∀ d < c, p d = false) →
    [(0 : Fin 4), 1, 2, 3].find? p = some c := by
  intro p c taken lower
  match c with
  | 0 => simp [taken]
  | 1 => simp [taken, lower 0 (by decide)]
  | 2 => simp [taken, lower 0 (by decide), lower 1 (by decide)]
  | 3 => simp [taken, lower 0 (by decide), lower 1 (by decide), lower 2 (by decide)]

theorem freeChannel_lowest {c : Fin 4} (free : s.channels[c] = none) (lower : ∀ d : Fin 4, d < c → s.channels[d] ≠ none) :
    s.freeChannel = some c :=
  find_lowest _ c (Option.isNone_iff_eq_none.mpr free) fun d below =>
    Bool.eq_false_iff.mpr fun e => lower d below (Option.isNone_iff_eq_none.mp e)

theorem freeChannel_none (taken : ∀ c : Fin 4, s.channels[c] ≠ none) : s.freeChannel = none := by
  unfold State.freeChannel
  rw [List.find?_eq_none]
  intro c _ free
  exact taken c (Option.isNone_iff_eq_none.mp free)

theorem askChannel_takes {c : Fin 4} (free : s.freeChannel = some c) (empty : s.channelQueue = []) :
    askChannel b s = takeChannel b c s := by
  unfold askChannel
  rw [free, empty]

theorem askChannel_waits (waits : s.freeChannel = none ∨ s.channelQueue ≠ []) : askChannel b s =
    ({ s with channelQueue := if b ∈ s.channelQueue then s.channelQueue else s.channelQueue ++ [b] } : State).modLcs b
      (fun l => { l with phase := .queued }) := by
  unfold askChannel
  simp only [List.contains_iff_mem]
  split
  · next free empty => exact (waits.elim (fun e => by rw [e] at free; cases free) (fun e => e empty)).elim
  · rfl

/-! ### The next step -/

theorem nextPass_phase (l : Lcs) : l.nextPass.phase = l.phase := by unfold Lcs.nextPass; split <;> rfl
theorem nextPass_owed (l : Lcs) : l.nextPass.owed = l.owed := by unfold Lcs.nextPass; split <;> rfl

theorem lcsNext_idle (idle : (s.lcsAt b).status ≠ .running ∨ (s.lcsAt b).phase ≠ .none) : lcsNext b s = (s, []) := by
  unfold lcsNext
  dsimp only
  rw [Lcs.nextPass_status, nextPass_phase]
  exact if_neg fun h => idle.elim (fun e => e h.1) (fun e => e h.2)

theorem lcsNext_end (running : (s.lcsAt b).status = .running) (free : (s.lcsAt b).phase = .none)
    (none' : (s.lcsAt b).nextPass.circuit = none) : lcsNext b s = (s, [.lcsRunEnd b]) := by
  unfold lcsNext
  dsimp only
  rw [Lcs.nextPass_status, nextPass_phase, if_pos ⟨running, free⟩, none']

theorem lcsNext_step (running : (s.lcsAt b).status = .running) (free : (s.lcsAt b).phase = .none)
    (some' : (s.lcsAt b).nextPass.circuit ≠ none) : lcsNext b s =
      if (s.lcsAt b).owed = none then (askChannel b (s.modLcs b Lcs.nextPass), []) else (s.modLcs b Lcs.nextPass, []) := by
  obtain ⟨c, circuit⟩ := Option.ne_none_iff_exists'.mp some'
  unfold lcsNext
  dsimp only
  rw [Lcs.nextPass_status, nextPass_phase, if_pos ⟨running, free⟩, circuit]
  dsimp only
  rw [nextPass_owed]
  cases (s.lcsAt b).owed <;> rfl

theorem circuit_none_iff (l : Lcs) : l.circuit = none ↔ l.sequence.length ≤ l.index := List.getElem?_eq_none_iff

theorem nextPass_same {l : Lcs} (h : l.index < l.sequence.length ∨ l.passes ≤ l.pass) : l.nextPass = l := by
  unfold Lcs.nextPass
  exact if_neg fun x => by omega

theorem nextPass_next {l : Lcs} (last : l.sequence.length ≤ l.index) (more : l.pass < l.passes) :
    l.nextPass = { l with pass := l.pass + 1, index := 0, tries := 1 } := by
  unfold Lcs.nextPass
  exact if_pos ⟨last, more⟩

/-! ### LAMP results -/

theorem submitOwed_usable (c : Nat) : submitOwed b c s =
    if ((s.clcAt b).link = .active ∧ (s.clcAt b).lampSlot = none) ∧ (s.lcsAt b).linkHeldLost = false
    then s.modClc b (fun k => k.submitLamp c false) else s := by
  rw [submitOwed_eq]
  refine ite_of_iff ?_ rfl rfl
  grind

theorem lcsResult_on {c : Nat} (circuit : (s.lcsAt b).circuit = some c) (light : (s.lcsAt b).phase = .light) (x : TxResult) :
    lcsResult b c true x s = lampOnResult b x s := by
  unfold lcsResult
  exact if_pos ⟨light, rfl, circuit⟩

theorem lcsResult_off {c : Nat} (circuit : (s.lcsAt b).circuit = some c) (off : (s.lcsAt b).phase = .off) (x : TxResult) :
    lcsResult b c false x s = lampOffResult b c x s := by
  unfold lcsResult
  exact (if_neg fun h => nomatch h.2.1).trans (if_pos ⟨off, rfl, circuit⟩)

/-- A result outside a step. -/
theorem lcsResult_apart {c : Nat} (apart : (s.lcsAt b).circuit ≠ some c ∨ ((s.lcsAt b).phase ≠ .light ∧ (s.lcsAt b).phase ≠ .off))
    (on : Bool) (x : TxResult) : lcsResult b c on x s =
      if (s.lcsAt b).owed = some c then lampOwedResult b c on x s else (s, []) := by
  unfold lcsResult
  refine (if_neg fun h => ?_).trans ((if_neg fun h => ?_).trans rfl)
  · exact apart.elim (fun e => e h.2.2) (fun e => e.1 h.1)
  · exact apart.elim (fun e => e h.2.2) (fun e => e.2 h.1)

theorem inSession_iff : s.inSession b = true ↔ (s.bfeAt b).enabled = true ∧ (s.bfeAt b).plug = true ∧ (s.dkuAt b).state = .docked := by
  unfold State.inSession
  rw [Bool.and_eq_true, Bool.and_eq_true, beq_iff_eq, and_assoc]

theorem lcsRemoved_eq : lcsRemoved b s = if s.inSession b = true then
      if (s.lcsAt b).phase = .baseline then
        (s.modLcs b (fun l => { l with outcome := some (.disturbed, none), baseline := [] }), [.lcsStepEnd b])
      else if (s.lcsAt b).phase = .light then
        (s.modLcs b (fun l => { l with outcome := some (.disturbed, none), baseline := [] }), [])
      else if (s.lcsAt b).phase = .settle ∨ (s.lcsAt b).phase = .lit then
        goOff b (s.modLcs b (fun l => { l with outcome := some (.disturbed, none), baseline := [] }))
      else (s, [])
    else (s, []) := by
  unfold lcsRemoved
  split
  · cases (s.lcsAt b).phase <;> rfl
  · rfl

/-! ### Outcomes handed on -/

theorem verdict_none_iff (o : LampOutcome) : o.verdict = none ↔ o ∉ [LampOutcome.open, .low, .high, .pass] := by
  cases o <;> decide

theorem verdict_some {o : LampOutcome} (m : o ∈ [LampOutcome.open, .low, .high, .pass]) :
    o.verdict = some (if o = .pass then .passed else .failed) := by
  revert m
  cases o <;> decide

theorem formUnconfirmed_eq (f : Frd) : f.formUnconfirmed = (f.table.entries.filter (fun e =>
    e.active && decide (∃ k ∈ e.circuit, f.verdicts[k]? = some .passed))).map (fun e => (e.source, e.code)) := by
  have passed (v : Option Verdict) : v.getD .none = .passed ↔ v = some .passed := by cases v <;> simp
  refine congrArg (List.map _) (List.filter_congr fun e _ => congrArg (e.active && ·) ?_)
  cases e.circuit with
  | none => simp
  | some c =>
    refine Bool.eq_iff_iff.mpr ?_
    simp only [Frd.verdict, beq_iff_eq, passed, Option.mem_def, Option.some.injEq, exists_eq_left', decide_eq_true_eq]

theorem takeOutcome_unconfirmed (f : Frd) (c : Nat) (o : LampOutcome) :
    (f.takeOutcome c o).unconfirmed = (f.takeOutcome c o).formUnconfirmed := by
  unfold Frd.takeOutcome
  split <;> rfl

theorem takeOutcome_none {f : Frd} (c : Nat) {o : LampOutcome} (none' : o.verdict = none) :
    f.takeOutcome c o = { f with unconfirmed := f.formUnconfirmed } := by
  unfold Frd.takeOutcome
  rw [none']

theorem takeOutcome_some {f : Frd} (c : Nat) {o : LampOutcome} {v : Verdict} (some' : o.verdict = some v) :
    ∃ u, f.takeOutcome c o = { f with
      unconfirmed := u, verdicts := f.verdicts.setIfInBounds c v
      table := { f.table with entries := f.table.entries.map (fun e =>
        if e.circuit = some c then { e with confirmed := v == .failed } else e) } } := by
  unfold Frd.takeOutcome
  rw [some']
  exact ⟨_, rfl⟩

end

end Sys2Proof.Machine
end

section
/-! O45, concluded. -/

namespace Sys2Proof.Machine

section

variable {b : BayNo} {s : State}

/-- A lamp run's end (R138). -/
theorem lcsRunEnd_ends (running : (s.lcsAt b).status = .running) (free : (s.lcsAt b).phase = .none) {st : LampStatus} {why : LampReason}
    (ends : ((∀ x ∈ (s.lcsAt b).results, x.outcome = .pass) ∧ st = .passed ∧ why = .passed) ∨
      (¬ (∀ x ∈ (s.lcsAt b).results, x.outcome = .pass) ∧ st = .failed ∧ why = .failed)) : lcsRunEnd b s =
      ((s.modLcs b (fun l => { l with
          status := st, reasons := ⟨false, false, false⟩, validity := some (60 * s.setting 11 * 1000)
          baseline := [], outcome := none, settle := none })).modFrd b (fun _ => (s.frdAt b).takeOutcomes (s.lcsAt b).results),
        [.tellLamp b, .raise b .lamp (.lamp why)
          (decide (∃ p ∈ ((s.frdAt b).takeOutcomes (s.lcsAt b).results).unconfirmed, p ∉ (s.frdAt b).unconfirmed))]) := by
  have pass : (s.lcsAt b).results.all (fun r => r.outcome == .pass) = decide (∀ x ∈ (s.lcsAt b).results, x.outcome = .pass) :=
    Bool.eq_iff_iff.mpr (by simp)
  have forget {st : LampStatus} : (s.modLcs b fun l => { l.noStep with
      status := st, reasons := .none, validity := secTimer (60 * s.setting 11) }) = s.modLcs b (fun l => { l with
      status := st, reasons := ⟨false, false, false⟩, validity := some (60 * s.setting 11 * 1000)
      baseline := [], outcome := none, settle := none }) := by
    refine modLcs_congr ?_
    dsimp only [Lcs.noStep]
    rw [free]
    rfl
  unfold lcsRunEnd handOutcomes
  dsimp only
  rw [if_pos ⟨running, free⟩, pass, forget, State.modLcs_lcsAt_same, State.modLcs_frdAt, gains_eq]
  rcases ends with ⟨yes, rfl, rfl⟩ | ⟨no, rfl, rfl⟩
  · rw [decide_eq_true yes]; rfl
  · rw [decide_eq_false no]; rfl

/-- A disturbed step keeps that outcome (R134). -/
theorem outcome_kept (o : LampOutcome) :
    s.modLcs b (fun l => { l with outcome := if (s.lcsAt b).outcome.isSome = true then l.outcome else some (o, none) }) =
      s.modLcs b (fun l => { l with outcome := if l.outcome = none then some (o, none) else l.outcome }) := by
  refine modLcs_congr ?_
  cases (s.lcsAt b).outcome <;> rfl

/-- The state after a step's end, before the run goes on or pauses. -/
def State.endedStep (s : State) (b : BayNo) : State := (releaseStep b s).1.modLcs b (fun l => l.judge.noStep)

theorem lcsStepEnd_eq : lcsStepEnd b s =
    if ((s.endedStep b).lcsAt b).status = .running ∧ ((s.endedStep b).lcsAt b).mode = .step ∧
        ¬ (((s.endedStep b).lcsAt b).sequence.length ≤ ((s.endedStep b).lcsAt b).index ∧
          ((s.endedStep b).lcsAt b).passes ≤ ((s.endedStep b).lcsAt b).pass)
    then ((s.endedStep b).modLcs b (fun l => { l with status := .paused, reasons := { l.reasons with step := true } }),
      (releaseStep b s).2 ++ [.tellLamp b, .raise b .lamp (.lamp .paused) false])
    else (s.endedStep b, (releaseStep b s).2 ++ [.lcsNext b]) := by
  have last (l : Lcs) : l.atEnd = false ↔ ¬ (l.sequence.length ≤ l.index ∧ l.passes ≤ l.pass) := by
    unfold Lcs.atEnd
    rw [← Bool.decide_and, decide_eq_false_iff_not]
  unfold lcsStepEnd
  simp only [last]
  rfl

end

/-- Settles O45. -/
theorem lampMeasurementEventsAct : Obligations.LampMeasurementEventsAct := by
  have next {s t : State} (h : s = t) : (.next s : Host.Outcome State Fault Refusal) = .next t := congrArg _ h
  refine ⟨fun b amps s c circuit base => ?_, fun b amps s other => ?_, fun b s => ⟨fun settling runs => ?_, fun idle => ?_,
    fun stopped => ?_, fun runs => ?_⟩, fun b s => ⟨fun stands => ?_, fun running paused => ?_⟩,
    fun b s => ⟨lcsNext_idle, fun running free last pass => ?_, fun running free u which => ?_⟩, fun b c s => ?_, fun b s => ?_,
    fun b s => ⟨fun idle => ?_, fun running free st why ends => lcsRunEnd_ends running free ends⟩, fun f c o => ?_, fun b s => ?_⟩
  · refine next ?_
    show perform (lcsBaseline b amps s) = _
    unfold lcsBaseline
    dsimp only
    rw [circuit_some circuit]
    dsimp only
    rw [if_pos base, submitLampOf_eq, perform_ite]
    rfl
  · refine next ?_
    show perform (lcsBaseline b amps s) = _
    unfold lcsBaseline
    dsimp only
    split
    · rw [if_neg other]; rfl
    · rfl
  · refine next ?_
    show perform (lcsSettled b s) = _
    unfold lcsSettled
    dsimp only
    rw [if_pos ⟨settling, Option.isSome_iff_ne_none.mpr runs⟩]
    rfl
  · refine next ?_
    show perform (lcsSettled b s) = _
    unfold lcsSettled
    dsimp only
    rw [if_neg fun h => idle.elim (fun e => e h.1) (fun e => Option.isSome_iff_ne_none.mp h.2 e)]
    rfl
  · refine next ?_
    show perform (lcsExpired b s) = _
    unfold lcsExpired
    dsimp only
    rw [stopped]
    rfl
  · refine next ?_
    show perform (lcsExpired b s) = _
    unfold lcsExpired
    dsimp only
    rw [if_pos (Option.isSome_iff_ne_none.mpr runs)]
  · show lcsAutomatic b s = _
    unfold lcsAutomatic
    rcases stands with e | e <;> rw [e] <;> rfl
  · show lcsAutomatic b s = _
    unfold lcsAutomatic
    cases status : (s.lcsAt b).status
    case running => exact absurd status running
    case paused => exact absurd status paused
    all_goals rfl
  · refine lcsNext_end running free ?_
    rw [circuit_none_iff]
    by_cases more : (s.lcsAt b).pass < (s.lcsAt b).passes
    · rw [nextPass_next last more, pass.resolve_left (Nat.not_le.mpr more)]
      exact Nat.zero_le _
    · rw [nextPass_same (.inr (Nat.not_lt.mp more))]
      exact last
  · have taken : (s.lcsAt b).nextPass.circuit ≠ none ∧ s.modLcs b Lcs.nextPass = u := by
      rw [Ne, circuit_none_iff]
      rcases which with ⟨inside, rfl⟩ | ⟨last, more, some', rfl⟩
      · have same := nextPass_same (l := u.lcsAt b) (.inl inside)
        exact ⟨by rw [same]; exact Nat.not_le.mpr inside, modLcs_self same⟩
      · have new := nextPass_next last more
        refine ⟨?_, modLcs_congr new⟩
        rw [new]
        exact Nat.not_le.mpr (List.length_pos_iff.mpr some')
    have channels : u.channels = s.channels ∧ u.channelQueue = s.channelQueue := by rw [← taken.2]; exact ⟨rfl, rfl⟩
    have freeChannel : u.freeChannel = s.freeChannel := by unfold State.freeChannel; rw [channels.1]
    have step : handle (.lcsNext b) s = _ := lcsNext_step running free taken.1
    rw [taken.2] at step
    refine ⟨fun owed => step.trans (if_neg owed), fun owed c open' lower empty => ?_, fun owed waits => ?_⟩
    · rw [step, if_pos owed, askChannel_takes (freeChannel.trans (freeChannel_lowest open' lower)) (channels.2.trans empty)]
    · rw [step, if_pos owed, askChannel_waits, channels.2]
      rw [freeChannel, channels.2]
      exact waits.imp freeChannel_none id
  · dsimp only
    refine ⟨fun circuit light => ?_, fun circuit off => ?_, fun owed apart => ?_, fun owed apart on x => ?_, fun circuit session => ?_,
      fun idle => ?_⟩
    · have on (x : TxResult) : handle (.lcsResult b c true x) s = lampOnResult b x s := lcsResult_on (circuit_some circuit) light x
      refine ⟨fun x undisturbed => ?_, fun x disturbed => ?_, ?_, fun active => ?_, fun lost => ?_⟩
      · rw [on]
        unfold lampOnResult
        rw [undisturbed]
        rfl
      · rw [on]
        unfold lampOnResult
        dsimp only
        rw [if_pos (Option.isSome_iff_ne_none.mpr disturbed), goOff_eq circuit]
      · rw [on]
        unfold lampOnResult
        dsimp only
        rw [outcome_kept]
      · rw [on]
        unfold lampOnResult
        dsimp only
        rw [if_pos active, outcome_kept, goOff_eq (c := c) (by rw [State.modLcs_lcsAt_same]; exact circuit)]
        rfl
      · rw [on]
        unfold lampOnResult
        exact if_neg lost
    · have off' (x : TxResult) : handle (.lcsResult b c false x) s = lampOffResult b c x s := lcsResult_off (circuit_some circuit) off x
      refine ⟨fun x => off' _, off' _, ?_⟩
      rw [off']
      unfold lampOffResult
      dsimp only
      rw [submitOwed_usable, State.modLcs_lcsAt_same]
      rfl
    · have owed' (on : Bool) (x : TxResult) : handle (.lcsResult b c on x) s = lampOwedResult b c on x s :=
        (lcsResult_apart apart on x).trans (if_pos owed)
      refine ⟨fun on => ?_, fun x => owed' _ _, fun x => ?_, fun on => ?_⟩
      · exact owed' _ _
      · rw [owed']
        exact Prod.ext (submitOwed_usable c) rfl
      · rw [owed']
        exact Prod.ext (submitOwed_usable c) rfl
    · exact (lcsResult_apart apart on x).trans (if_neg owed)
    · have session := inSession_iff.mpr session
      refine ⟨fun base => ?_, fun light => ?_, fun lit => ?_⟩
      · exact lcsRemoved_eq.trans ((if_pos session).trans (if_pos base))
      · refine lcsRemoved_eq.trans ((if_pos session).trans ((if_neg ?_).trans (if_pos light)))
        rw [light]; nofun
      · refine lcsRemoved_eq.trans ((if_pos session).trans ((if_neg ?_).trans ((if_neg ?_).trans ((if_pos lit).trans ?_))))
        · rcases lit with e | e <;> rw [e] <;> nofun
        · rcases lit with e | e <;> rw [e] <;> nofun
        · exact (goOff_eq (c := c) (by rw [State.modLcs_lcsAt_same]; exact circuit)).trans rfl
    · refine lcsRemoved_eq.trans ?_
      by_cases session : s.inSession b = true
      · have dark := idle.resolve_left (Classical.not_not.mpr (inSession_iff.mp session))
        have other {p : StepPhase} (out : p ∉ [StepPhase.none, .queued, .quietWait, .off]) : (s.lcsAt b).phase ≠ p := fun e => out (e ▸ dark)
        rw [if_pos session, if_neg (other (by decide)), if_neg (other (by decide)), if_neg]
        exact fun h => h.elim (other (by decide)) (other (by decide))
      · exact if_neg session
  · refine ⟨fun running step more => ?_, fun goes => ?_⟩
    · exact lcsStepEnd_eq.trans (if_pos ⟨running, step, more⟩)
    · refine lcsStepEnd_eq.trans (if_neg fun h => ?_)
      obtain ⟨running, step, more⟩ := h
      rcases goes with e | e | e
      · exact e running
      · exact nomatch e.symm.trans step
      · exact more e
  · show lcsRunEnd b s = _
    unfold lcsRunEnd
    exact if_neg fun h => idle.elim (fun e => e h.1) (fun e => e h.2)
  · refine ⟨(takeOutcome_unconfirmed ..).trans (formUnconfirmed_eq _), fun none' => ?_, fun some' => ?_, rfl, fun r rs => rfl⟩
    · rw [takeOutcome_none c ((verdict_none_iff o).mpr none')]
    · obtain ⟨u, taken⟩ := takeOutcome_some (f := f) c (verdict_some some')
      rw [taken]
      refine ⟨fun k below => ?_, ?_⟩
      · rw [Vector.getElem?_setIfInBounds]
        by_cases e : k = c
        · subst e
          rw [if_pos rfl, if_pos rfl, if_pos below]
        · rw [if_neg fun x => e x.symm, if_neg e]
      · have marks : ((if o = .pass then Verdict.passed else .failed) == .failed) = decide (o ≠ .pass) := by
          by_cases pass : o = .pass <;> simp [pass]
        simp only [marks]
  · refine ⟨fun ⟨d, active, check, setting⟩ => ?_, fun no => ?_, rfl, rfl, rfl, rfl⟩
    · show lcsDocked b s = _
      unfold lcsDocked
      dsimp only
      rw [active]
      exact if_pos ⟨check, setting⟩
    · show lcsDocked b s = _
      unfold lcsDocked
      dsimp only
      cases active : s.activeOf b with
      | none => rfl
      | some d => exact if_neg fun h => no ⟨d, active, h.1, h.2⟩

end Sys2Proof.Machine
end

section
/-! O31 (R57 to R59, R70, R74): the requests on the Fault Class Map, and what a change of it hands on. -/

namespace Sys2Proof.Machine

/-! ### The entry a request carries -/

theorem sourceOf_none_iff (x : Byte) : sourceOf x = none ↔ 32 ≤ x.toNat ∧ x.toNat ≠ 255 := by
  unfold sourceOf
  split
  · exact ⟨nofun, fun h => absurd ‹_› h.2⟩
  · split
    · exact ⟨nofun, fun h => by omega⟩
    · exact ⟨fun _ => by omega, fun _ => rfl⟩

theorem dispositionOf_eq (x : Byte) : dispositionOf x = [Disposition.blocking, .advisory, .ignore][x.toNat]? := by
  unfold dispositionOf
  generalize x.toNat = n
  match n with
  | 0 => rfl
  | 1 => rfl
  | 2 => rfl
  | n + 3 => rfl

theorem dispositionOf_none_iff (x : Byte) : dispositionOf x = none ↔ 3 ≤ x.toNat := by
  rw [dispositionOf_eq, List.getElem?_eq_none_iff]
  rfl

theorem yesNoOf_eq (x : Byte) : yesNoOf x = [false, true][x.toNat]? := by
  unfold yesNoOf
  generalize x.toNat = n
  match n with
  | 0 => rfl
  | 1 => rfl
  | n + 2 => rfl

theorem yesNoOf_none_iff (x : Byte) : yesNoOf x = none ↔ 2 ≤ x.toNat := by
  rw [yesNoOf_eq, List.getElem?_eq_none_iff]
  rfl

theorem mapEntryOf_none_iff (w : MapWords) : mapEntryOf w = none ↔
    w.high.toNat < w.low.toNat ∨ (32 ≤ w.source.toNat ∧ w.source.toNat ≠ 255) ∨ 3 ≤ w.disposition.toNat ∨ 2 ≤ w.heatStop.toNat := by
  rw [← sourceOf_none_iff, ← dispositionOf_none_iff, ← yesNoOf_none_iff]
  unfold mapEntryOf
  cases sourceOf w.source <;> cases dispositionOf w.disposition <;> cases yesNoOf w.heatStop <;> simp

theorem mapEntryOf_some {w : MapWords} {e : MapEntry} (h : mapEntryOf w = some e) : e.low = w.low.toNat ∧ e.high = w.high.toNat ∧
    e.source = (if w.source.toNat = 255 then none else some w.source.toNat) ∧
    [Disposition.blocking, .advisory, .ignore][w.disposition.toNat]? = some e.disposition ∧
    (e.heatStop = true ↔ w.heatStop.toNat = 1) := by
  unfold mapEntryOf at h
  split at h
  · next src d stop source disposition heat =>
    split at h
    · cases h
    · cases h
      refine ⟨rfl, rfl, ?_, (dispositionOf_eq _).symm.trans disposition, ?_⟩
      · unfold sourceOf at source
        split at source
        · next any => rw [if_pos any]; exact (Option.some.inj source).symm
        · next one =>
          split at source
          · rw [if_neg one]; exact (Option.some.inj source).symm
          · cases source
      · rw [yesNoOf_eq] at heat
        revert heat
        generalize w.heatStop.toNat = n
        match n with
        | 0 => intro heat; cases heat; exact ⟨nofun, nofun⟩
        | 1 => intro heat; cases heat; exact ⟨fun _ => rfl, fun _ => rfl⟩
        | n + 2 => exact nofun
  · cases h

/-! ### The requests -/

section

variable {s : State}

/-- An accepted change of the map, answered. -/
def State.mapped (s : State) (m : List MapEntry) (kind : Byte) : State :=
  (perform ({ s with map := m }, allBays.flatMap (fun b => [.frdReclassify b, .frdReshadow b]))).sends kind [0]

theorem mapped_given (m : List MapEntry) (kind : Byte) : (s.mapped m kind).given = { s.given with
    map := m, sending := some ⟨kind, [0]⟩ } := by
  unfold State.mapped
  rw [sends_given, perform_given]
  rfl

theorem reqMapClear_empty (empty : s.map = []) : reqMapClear s = s.sends 0xA0 [0] := by
  unfold reqMapClear
  exact if_pos empty

theorem reqMapClear_full (some' : s.map ≠ []) : reqMapClear s = s.mapped [] 0xA0 := by
  unfold reqMapClear
  exact if_neg some'

theorem reqMapAppend_range {w : MapWords} (none' : mapEntryOf w = none) : reqMapAppend w s = s.sends 0xA1 [3, 2] := by
  unfold reqMapAppend
  rw [none']
  rfl

theorem reqMapInsert_range {w : MapWords} (none' : mapEntryOf w = none) (p : Byte) : reqMapInsert p w s = s.sends 0xA2 [3, 2] := by
  unfold reqMapInsert
  rw [none']
  rfl

theorem reqMapAppend_some {w : MapWords} {e : MapEntry} (entry : mapEntryOf w = some e) : reqMapAppend w s =
    if 64 ≤ s.map.length then s.sends 0xA1 [3, 5] else s.mapped (s.map ++ [e]) 0xA1 := by
  unfold reqMapAppend
  rw [entry]
  rfl

theorem reqMapInsert_some {w : MapWords} {e : MapEntry} (entry : mapEntryOf w = some e) (p : Byte) : reqMapInsert p w s =
    if 64 ≤ s.map.length then s.sends 0xA2 [3, 5]
    else if s.map.length < p.toNat then s.sends 0xA2 [3, 2]
    else s.mapped (s.map.take p.toNat ++ e :: s.map.drop p.toNat) 0xA2 := by
  unfold reqMapInsert
  rw [entry]
  rfl

end

/-! ### Tables and shadows classified anew -/

theorem modFrd_congr {s : State} {b : BayNo} {f g : Frd → Frd} (h : f (s.frdAt b) = g (s.frdAt b)) : s.modFrd b f = s.modFrd b g :=
  congrArg (fun l => ({ s with frd := bayPut s.frd b l } : State)) h

theorem modFrd_self {s : State} {b : BayNo} {f : Frd → Frd} (h : f (s.frdAt b) = s.frdAt b) : s.modFrd b f = s := by
  show ({ s with frd := bayPut s.frd b (f (s.frdAt b)) } : State) = s
  rw [h]
  exact congrArg (fun l => ({ s with frd := l } : State)) (bayPut_bayAt ..)

theorem modFrd_modFrd (s : State) (b : BayNo) (f g : Frd → Frd) : (s.modFrd b f).modFrd b g = s.modFrd b (fun l => g (f l)) := by
  simp only [State.modFrd, bayAt_bayPut_same, bayPut_bayPut]

section

variable {b : BayNo} {s : State}

/-- Whether an entry has no counterpart with its key, disposition and heat-stop in a table (R59). -/
theorem anyNew_iff (new old : List FaultEntry) : new.any (fun e => !old.any (fun o =>
      o.hasKey e.source e.code && o.disposition == e.disposition && o.heatStop == e.heatStop)) = true ↔
    ∃ e ∈ new, ∀ o ∈ old, ¬ (o.source = e.source ∧ o.code = e.code ∧ o.disposition = e.disposition ∧ o.heatStop = e.heatStop) := by
  simp only [List.any_eq_true, Bool.not_eq_true', List.any_eq_false, FaultEntry.hasKey, Bool.and_eq_true, beq_iff_eq, and_assoc]

theorem frdReclassify_idle (idle : (s.frdAt b).retained = true ∨
    ((s.frdAt b).table.entries = [] ∧ (s.frdAt b).table.marks.truncated = false)) : frdReclassify b s = (s, []) := by
  unfold frdReclassify
  refine if_pos ?_
  rcases idle with e | ⟨e, f⟩
  · rw [e]; rfl
  · rw [e, f]; exact Bool.or_true _

theorem frdReclassify_anew (held : (s.frdAt b).retained = false)
    (some' : (s.frdAt b).table.entries ≠ [] ∨ (s.frdAt b).table.marks.truncated = true) : frdReclassify b s =
      (s.modFrd b (fun f => { f with table := { f.table with
          entries := reclassifyAll s.map (s.frdAt b).table.entries
          marks := if (s.frdAt b).table.marks.truncated = true then
            { (s.frdAt b).table.marks with truncated := false, incomplete := true } else (s.frdAt b).table.marks } }),
        (if (s.frdAt b).table.marks.truncated = true then [.frdRequest b .change] else []) ++
        (if ∃ e ∈ reclassifyAll s.map (s.frdAt b).table.entries, ∀ o ∈ (s.frdAt b).table.entries,
            ¬ (o.source = e.source ∧ o.code = e.code ∧ o.disposition = e.disposition ∧ o.heatStop = e.heatStop) then
          [.raise b .faults (.faults .reclassified) false] else []) ++ [.tellScan b, .frdHeatStop b]) := by
  have goes : ¬ ((s.frdAt b).retained || ((s.frdAt b).table.entries.isEmpty && !(s.frdAt b).table.marks.truncated)) = true := by
    rw [held]
    rcases some' with e | e
    · simp [e]
    · simp [e]
  unfold frdReclassify
  simp only [if_neg goes, anyNew_iff]

/-- What a map change makes of a scan (R70). -/
def Frd.reshadowed (map : List MapEntry) (f : Frd) : Frd :=
  match f.scan.state with
  | .idle => f
  | .awaitingLink => if f.scan.marks.truncated then f else { f with scan := { f.scan with shadow := reclassifyAll map f.scan.shadow } }
  | .counting | .reading =>
    if f.scan.marks.truncated then { f with scan := { f.scan with restartPending := true } }
    else { f with scan := { f.scan with shadow := reclassifyAll map f.scan.shadow } }

theorem reshadowed_idle {f : Frd} (map : List MapEntry)
    (idle : f.scan.state = .idle ∨ (f.scan.state = .awaitingLink ∧ f.scan.marks.truncated = true)) : f.reshadowed map = f := by
  unfold Frd.reshadowed
  rcases idle with e | ⟨e, truncated⟩
  · rw [e]
  · rw [e]; exact if_pos truncated

theorem reshadowed_anew {f : Frd} (map : List MapEntry) (stands : f.scan.state ≠ .idle) (whole : f.scan.marks.truncated = false) :
    f.reshadowed map = { f with scan := { f.scan with shadow := reclassifyAll map f.scan.shadow } } := by
  have whole : ¬ f.scan.marks.truncated = true := by rw [whole]; nofun
  unfold Frd.reshadowed
  cases e : f.scan.state
  case idle => exact absurd e stands
  all_goals exact if_neg whole

theorem reshadowed_restart {f : Frd} (map : List MapEntry) (runs : f.scan.state = .counting ∨ f.scan.state = .reading)
    (truncated : f.scan.marks.truncated = true) : f.reshadowed map = { f with scan := { f.scan with restartPending := true } } := by
  unfold Frd.reshadowed
  rcases runs with e | e <;> rw [e] <;> exact if_pos truncated

theorem frdReshadow_eq (b : BayNo) (s : State) : frdReshadow b s = (s.modFrd b (Frd.reshadowed s.map), []) := rfl

end

/-- Settles O31. -/
theorem mapRequestsChangeTheMap : Obligations.MapRequestsChangeTheMap := by
  have next {s t : State} (h : s = t) : (.next s : Host.Outcome State Fault Refusal) = .next t := congrArg _ h
  refine ⟨fun s => ?_, mapEntryOf_none_iff, fun w s none' => ⟨next (reqMapAppend_range none'), fun p => next (reqMapInsert_range none' p)⟩,
    fun w e s entry full => ⟨next ((reqMapAppend_some entry).trans (if_pos full)), fun p => next ((reqMapInsert_some entry p).trans (if_pos full))⟩,
    fun w e s entry room => ⟨?_, fun p => ⟨fun beyond => ?_, fun within => ?_⟩⟩, fun w e => mapEntryOf_some,
    fun s => ⟨fun some' => next (reqMapClear_full some'), fun w e entry room => ⟨?_, fun p within => ?_⟩⟩, fun b s => ?_⟩
  · by_cases empty : s.map = []
    · refine ⟨_, next (reqMapClear_empty empty), ?_, fun _ => rfl⟩
      rw [sends_given, ← empty]
      rfl
    · exact ⟨_, next (reqMapClear_full empty), mapped_given .., fun e => absurd e empty⟩
  · exact ⟨_, next ((reqMapAppend_some entry).trans (if_neg (Nat.not_le.mpr room))), mapped_given ..⟩
  · exact next ((reqMapInsert_some entry p).trans ((if_neg (Nat.not_le.mpr room)).trans (if_pos beyond)))
  · exact ⟨_, next ((reqMapInsert_some entry p).trans ((if_neg (Nat.not_le.mpr room)).trans (if_neg (Nat.not_lt.mpr within)))), mapped_given ..⟩
  · exact next ((reqMapAppend_some entry).trans (if_neg (Nat.not_le.mpr room)))
  · exact next ((reqMapInsert_some entry p).trans ((if_neg (Nat.not_le.mpr room)).trans (if_neg (Nat.not_lt.mpr within))))
  · refine ⟨frdReclassify_idle, frdReclassify_anew, fun idle => ?_, fun stands whole => ?_, fun runs truncated => ?_, ?_⟩
    · exact (frdReshadow_eq b s).trans (congrArg (·, []) (modFrd_self (reshadowed_idle s.map idle)))
    · exact (frdReshadow_eq b s).trans (congrArg (·, []) (modFrd_congr (reshadowed_anew s.map stands whole)))
    · exact (frdReshadow_eq b s).trans (congrArg (·, []) (modFrd_congr (reshadowed_restart s.map runs truncated)))
    · show frdHeatStop b s = _
      unfold frdHeatStop
      simp only [FaultTable.heatStop, List.any_eq_true, Bool.and_eq_true]

end Sys2Proof.Machine
end

section
/-! O32 (R60 to R75, R200): scans, the records they take, commits, failures and recoveries. -/

namespace Sys2Proof.Machine

/-! ### A scan requested, begun and taken up -/

section

variable {b : BayNo} {s : State}

/-- A scan begins (R60). -/
def State.scanBegun (s : State) (b : BayNo) (kinds : KindSet) : State :=
  (s.modFrd b (fun f => { f with scan := ⟨.counting, kinds, 0, 0, [], .clear, false⟩ })).modClc b (fun c => c.submitRead .fcount)

theorem frdBegin_eq (kinds : KindSet) : frdBegin b kinds s = (s.scanBegun b kinds, []) := rfl

theorem readHeld_iff : s.readHeld b = true ↔ (s.dkuAt b).state = .readingFaults ∧ (s.frdAt b).readSinceDocking = true := by
  unfold State.readHeld
  rw [Bool.and_eq_true, beq_iff_eq]

theorem faultAbsent_iff (p : Profile) : p.faultAbsent = true ↔ ∃ i, p.identity = some i ∧ i.faultMemory = false := by
  unfold Profile.faultAbsent
  cases p.identity with
  | none => exact ⟨nofun, nofun⟩
  | some i => simp

theorem frdRequest_eq (k : ScanKind) : frdRequest b k s =
    if ∃ i, (s.dkuAt b).profile.identity = some i ∧ i.faultMemory = false then frdCommit b [] .clear (KindSet.none.add k) s
    else if ((s.dkuAt b).state = .readingFaults ∧ (s.frdAt b).readSinceDocking = true) ∨ (s.frdAt b).scan.state ≠ .idle ∨
      (s.frdAt b).linkHeldLost = true then (s.modFrd b (fun f => { f with rescan := f.rescan.add k }), [])
    else (s.scanBegun b (KindSet.none.add k), []) := by
  unfold frdRequest
  simp only [faultAbsent_iff, Bool.or_eq_true, readHeld_iff, bne_iff_ne, or_assoc]
  rfl

theorem frdTakeRescan_eq : frdTakeRescan b s =
    if (s.frdAt b).rescan = .none ∨ ((s.dkuAt b).state = .readingFaults ∧ (s.frdAt b).readSinceDocking = true) ∨
      (s.frdAt b).scan.state ≠ .idle ∨ (s.frdAt b).linkHeldLost = true then (s, [])
    else ((s.modFrd b (fun f => { f with rescan := .none })).scanBegun b (s.frdAt b).rescan, []) := by
  unfold frdTakeRescan
  simp only [readHeld_iff]
  rfl

/-! ### Results -/

theorem frdResult_counted (counting : (s.frdAt b).scan.state = .counting) (n : Nat) : frdResult b .fcount (.done (.fcount n)) s =
    if (s.frdAt b).scan.restartPending = true then (s.scanBegun b (s.frdAt b).scan.kinds, []) else frdCounted b n s := by
  unfold frdResult
  dsimp only
  rw [counting]
  rfl

theorem frdResult_read (reading : (s.frdAt b).scan.state = .reading) (payload : List Byte) :
    frdResult b (.fread (s.frdAt b).scan.next) (.done (.fread payload)) s =
      if (s.frdAt b).scan.restartPending = true then (s.scanBegun b (s.frdAt b).scan.kinds, [])
      else frdNextRecord b ((s.frdAt b).scan.take s.map (s.frdAt b).scan.next payload) (s.frdAt b).scan.next s := by
  unfold frdResult
  dsimp only
  rw [reading]
  exact if_neg (Classical.not_not.mpr rfl)

theorem frdResult_failed {r : BayRequest} (outstanding : ((s.frdAt b).scan.state = .counting ∧ r = .fcount) ∨
    ((s.frdAt b).scan.state = .reading ∧ r = .fread (s.frdAt b).scan.next)) : frdResult b r .failed s = frdReadFailed b r s := by
  unfold frdResult
  dsimp only
  rcases outstanding with ⟨state, rfl⟩ | ⟨state, rfl⟩
  · rw [state]
  · rw [state]
    exact if_neg (Classical.not_not.mpr rfl)

theorem frdResult_idle (idle : (s.frdAt b).scan.state = .idle ∨ (s.frdAt b).scan.state = .awaitingLink) (r : BayRequest) (x : TxResult) :
    frdResult b r x s = (s, []) := by
  unfold frdResult
  dsimp only
  rcases idle with e | e <;> rw [e] <;> rfl

theorem frdResult_other (reading : (s.frdAt b).scan.state = .reading) {i : Nat} (other : i ≠ (s.frdAt b).scan.next) (x : TxResult) :
    frdResult b (.fread i) x s = (s, []) := by
  unfold frdResult
  dsimp only
  rw [reading]
  split
  · next e _ => cases e
  · next e _ => cases e
  · next _ e => exact if_pos (BayRequest.fread.inj e ▸ other)
  · next _ e => exact if_pos (BayRequest.fread.inj e ▸ other)
  · rfl

theorem frdReadFailed_lost (lost : (s.clcAt b).link ≠ .active) (r : BayRequest) : frdReadFailed b r s = frdFail b s := by
  unfold frdReadFailed
  exact if_neg lost

theorem frdReadFailed_active (active : (s.clcAt b).link = .active) (r : BayRequest) : frdReadFailed b r s =
    if (s.frdAt b).scan.restartPending = true then (s.scanBegun b (s.frdAt b).scan.kinds, [])
    else (s.modClc b (fun c => c.submitRead r), []) := by
  unfold frdReadFailed
  rw [if_pos active]
  rfl

/-! ### Losses and recoveries -/

theorem frdLost_idle (idle : (s.frdAt b).scan.state = .idle ∨ (s.frdAt b).scan.state = .awaitingLink) :
    frdLost b s = (s.modFrd b (fun f => { f with linkHeldLost := true }), []) := by
  unfold frdLost
  dsimp only
  rcases idle with e | e <;> rw [e] <;> rfl

theorem frdLost_runs (runs : (s.frdAt b).scan.state = .counting ∨ (s.frdAt b).scan.state = .reading) :
    frdLost b s = ((frdFail b s).1.modFrd b (fun f => { f with linkHeldLost := true }), (frdFail b s).2) := by
  have both : frdFail b (s.modFrd b (fun f => { f with linkHeldLost := true })) =
      ((frdFail b s).1.modFrd b (fun f => { f with linkHeldLost := true }), (frdFail b s).2) := by
    unfold frdFail
    dsimp only
    rw [modFrd_modFrd, modFrd_modFrd]
  unfold frdLost
  dsimp only
  rcases runs with e | e <;> rw [e] <;> exact both

theorem frdRecovered_awaiting (awaiting : (s.frdAt b).scan.state = .awaitingLink) : frdRecovered b s =
    ((s.modFrd b (fun f => { f with linkHeldLost := false })).scanBegun b (s.frdAt b).scan.kinds, []) := by
  unfold frdRecovered
  dsimp only
  rw [awaiting]
  rfl

theorem frdRecovered_other (other : (s.frdAt b).scan.state ≠ .awaitingLink) :
    frdRecovered b s = frdTakeRescan b (s.modFrd b (fun f => { f with linkHeldLost := false })) := by
  unfold frdRecovered
  cases e : (s.frdAt b).scan.state
  case awaitingLink => exact absurd e other
  all_goals rfl

end

/-! ### Records taken -/

theorem splitLowest_append (xs : List FaultEntry) (x : FaultEntry) : splitLowest (xs ++ [x]) = some (xs, x) := by
  induction xs with
  | nil => rfl
  | cons y ys ih =>
    cases ys with
    | nil => rfl
    | cons z zs =>
      show (match splitLowest (z :: zs ++ [x]) with | some (ys, y') => some (y :: ys, y') | none => none) = _
      rw [ih]

section

variable (sc : Scan) (map : List MapEntry) (i : Nat) {payload : List Byte}

theorem take_bad (none' : faultRecordOf payload = none) :
    sc.take map i payload = { sc with marks := { sc.marks with badRecord := true } } := by
  unfold Scan.take
  rw [none']

theorem take_merged {r : FaultRecord} (some' : faultRecordOf payload = some r) {x : FaultEntry}
    (found : sc.shadow.find? (fun y => y.source == r.source && y.code == r.code) = some x) : sc.take map i payload = { sc with
      shadow := rankInsert (x.merge r) (sc.shadow.filter (fun y => !(y.source == r.source && y.code == r.code)))
      marks := { sc.marks with badRecord := sc.marks.badRecord || r.bad } } := by
  unfold Scan.take FaultEntry.hasKey
  rw [some']
  dsimp only
  rw [found]

theorem take_added {r : FaultRecord} (some' : faultRecordOf payload = some r)
    (new : sc.shadow.find? (fun y => y.source == r.source && y.code == r.code) = none) : sc.take map i payload = { sc with
      shadow := (addEntry (r.entry map i) sc.shadow).1
      marks := { sc.marks with
        badRecord := sc.marks.badRecord || r.bad
        truncated := sc.marks.truncated || (addEntry (r.entry map i) sc.shadow).2 } } := by
  unfold Scan.take FaultEntry.hasKey
  rw [some']
  dsimp only
  rw [new]

end

theorem addEntry_room (e : FaultEntry) {es : List FaultEntry} (room : es.length < 32) : addEntry e es = (rankInsert e es, false) := by
  unfold addEntry
  exact if_pos room

theorem addEntry_full (e : FaultEntry) {upper : List FaultEntry} {low : FaultEntry} (full : 32 ≤ (upper ++ [low]).length) :
    addEntry e (upper ++ [low]) = (if e.above low = true then rankInsert e upper else upper ++ [low], true) := by
  unfold addEntry
  rw [if_neg (show ¬ _ < Config.tableSize from Nat.not_lt.mpr full), splitLowest_append]
  dsimp only
  split <;> rfl

end Sys2Proof.Machine
end

section
/-! O32, concluded: coach fault records as read, the commit of a scan, and the statement. -/

namespace Sys2Proof.Machine

/-! ### Records as read (R200) -/

theorem word16_toNat (lo hi : Byte) : (word16 lo hi).toNat = lo.toNat + 256 * hi.toNat := by
  unfold word16
  rw [BitVec.toNat_append, ← Nat.shiftLeft_add_eq_or_of_lt lo.isLt, Nat.shiftLeft_eq]
  omega

theorem word16_toInt (lo hi : Byte) : (word16 lo hi).toInt =
    if lo.toNat + 256 * hi.toNat < 32768 then ((lo.toNat + 256 * hi.toNat : Nat) : Int) else ((lo.toNat + 256 * hi.toNat : Nat) : Int) - 65536 := by
  rw [BitVec.toInt_eq_toNat_cond, word16_toNat]
  split <;> split <;> omega

theorem readCircuit_frame (present : Bool) (rest : List Byte) :
    (readCircuit present rest).2.2 = if present = true then rest.drop 1 else rest := by
  unfold readCircuit
  cases present with
  | false => rfl
  | true =>
    cases rest with
    | nil => rfl
    | cons c more =>
      simp only [if_true]
      split <;> rfl

theorem readCircuit_low {c : Byte} {more : List Byte} (low : c.toNat ≤ 63) :
    readCircuit true (c :: more) = (some c.toNat, false, more) := if_pos low

theorem readCircuit_high {c : Byte} {more : List Byte} (high : 63 < c.toNat) : readCircuit true (c :: more) = (none, true, more) :=
  if_neg (Nat.not_le.mpr high)

theorem readCircuit_bad_iff (present : Bool) (rest : List Byte) : (readCircuit present rest).2.1 = true ↔
    ¬ (present = true → ∃ c more, rest = c :: more ∧ c.toNat ≤ 63) := by
  unfold readCircuit
  cases present with
  | false => simp
  | true =>
    cases rest with
    | nil => simp
    | cons c more =>
      by_cases low : c.toNat ≤ 63
      · simp [low]
      · simp [low]

theorem readFreeze_absent (frame : List Byte) : readFreeze false frame = (none, false) := rfl

theorem readFreeze_short {frame : List Byte} (short : frame.length < 4) : readFreeze true frame = (none, true) := by
  unfold readFreeze
  rw [if_pos rfl]
  split
  · simp only [List.length_cons] at short; omega
  · rfl

theorem readFreeze_whole (t0 t1 v0 v1 : Byte) (more : List Byte) : readFreeze true (t0 :: t1 :: v0 :: v1 :: more) =
    (some ((word16 t0 t1).toInt, (word16 v0 v1).toNat), false) := rfl

theorem faultRecordOf_short {payload : List Byte} (short : payload.length < 12) : faultRecordOf payload = none := by
  unfold faultRecordOf
  split
  · simp only [List.length_cons] at short; omega
  · rfl

theorem take_limit (sc : Scan) (map : List MapEntry) (i : Nat) (payload : List Byte) :
    (sc.take map i payload).limit = sc.limit ∧ (sc.take map i payload).kinds = sc.kinds := by
  cases record : faultRecordOf payload with
  | none => rw [take_bad sc map i record]; exact ⟨rfl, rfl⟩
  | some r =>
    cases found : sc.shadow.find? (fun y => y.source == r.source && y.code == r.code) with
    | none => rw [take_added sc map i record found]; exact ⟨rfl, rfl⟩
    | some x => rw [take_merged sc map i record found]; exact ⟨rfl, rfl⟩

/-- A coach fault record of at least twelve bytes, its optional parts behind them. -/
theorem faultRecordOf_bytes (c0 c1 src st occ f0 f1 f2 l0 l1 l2 fl : Byte) (rest : List Byte) :
    faultRecordOf (c0 :: c1 :: src :: st :: occ :: f0 :: f1 :: f2 :: l0 :: l1 :: l2 :: fl :: rest) =
      if 31 < src.toNat ∨ 1 < st.toNat then none else some {
        code := (word16 c0 c1).toNat
        source := src.toNat
        active := st.toNat == 1
        occurrences := max occ.toNat 1
        firstSeen := hourOf f0 f1 f2
        lastSeen := hourOf l0 l1 l2
        circuit := (readCircuit (fl.getLsbD 0) rest).1
        freeze := (readFreeze (fl.getLsbD 1) (readCircuit (fl.getLsbD 0) rest).2.2).1
        bad := (readCircuit (fl.getLsbD 0) rest).2.1 || (readFreeze (fl.getLsbD 1) (readCircuit (fl.getLsbD 0) rest).2.2).2 } := rfl

/-! ### The commit (R67) -/

/-- An entry without its read index and its marks. -/
def FaultEntry.bare (e : FaultEntry) : FaultEntry := { e with readIndex := 0, isNew := false, confirmed := false }

theorem same_iff (x y : FaultEntry) : x.same y = true ↔ x.bare = y.bare := by
  simp only [FaultEntry.same, FaultEntry.bare, Bool.and_eq_true, beq_iff_eq, FaultEntry.mk.injEq, and_true, true_and]
  grind

theorem differs_iff (t : FaultTable) (entries : List FaultEntry) (m : TableMarks) : t.differs entries m = true ↔
    ¬ (t.entries.length = entries.length ∧ (∀ e ∈ entries, ∃ o ∈ t.entries, o.bare = e.bare) ∧ t.marks = m) := by
  rw [Classical.not_and_iff_not_or_not, Classical.not_and_iff_not_or_not, ← or_assoc]
  simp only [FaultTable.differs, Bool.or_eq_true, bne_iff_ne, List.any_eq_true, Bool.not_eq_true', List.any_eq_false, same_iff,
    Classical.not_forall, exists_prop, not_exists, not_and, ne_eq]

theorem atCommit_eq (f : Frd) (e : FaultEntry) : FaultEntry.atCommit f e = { e with
    isNew := decide (∀ o ∈ f.table.entries, ¬ (o.source = e.source ∧ o.code = e.code))
    confirmed := decide (∃ c ∈ e.circuit, f.verdicts[c]? = some .failed) } := by
  have isNew : (!f.table.entries.any (fun o => o.hasKey e.source e.code)) =
      decide (∀ o ∈ f.table.entries, ¬ (o.source = e.source ∧ o.code = e.code)) :=
    Bool.eq_iff_iff.mpr (by simp [FaultEntry.hasKey])
  have failed (v : Option Verdict) : v.getD .none = .failed ↔ v = some .failed := by cases v <;> simp
  unfold FaultEntry.atCommit
  rw [isNew]
  refine congrArg (fun x => ({ e with isNew := _, confirmed := x } : FaultEntry)) ?_
  cases e.circuit with
  | none => simp
  | some c =>
    refine Bool.eq_iff_iff.mpr ?_
    simp only [Frd.verdict, beq_iff_eq, failed, Option.mem_def, Option.some.injEq, exists_eq_left', decide_eq_true_eq]

theorem gains_iff (old new : List (Nat × Nat)) : gains old new = true ↔ ∃ p ∈ new, p ∉ old := by simp [gains]

/-- Settles O32. -/
theorem faultScanRequestsAHostScan : Obligations.FaultScanRequestsAHostScan := by
  have next {s t : State} (h : s = t) : (.next s : Host.Outcome State Fault Refusal) = .next t := congrArg _ h
  refine ⟨fun x s above => next ?_, fun b s => ⟨fun off => next ?_, fun on out => next ?_, fun on docked => next ?_⟩, fun b k s => ⟨fun absent => ?_, fun present waits => ?_, fun present goes => ?_⟩, rfl, fun b n s counting => ?_,
    fun b payload s reading whole => ?_, fun sc map i payload => ?_, fun c0 c1 src st occ f0 f1 f2 l0 l1 l2 fl rest => ?_,
    fun b shadow m kinds s => ?_, fun b r s => ?_, fun payload short => faultRecordOf_short short, fun b s => ?_⟩
  · show reqFaultScan x s = _
    unfold reqFaultScan
    rw [bayOf_of_le above]
    rfl
  · show reqFaultScan (byte b.val) s = _
    unfold reqFaultScan
    rw [bayOf_byte]
    exact if_pos off
  · show reqFaultScan (byte b.val) s = _
    unfold reqFaultScan
    rw [bayOf_byte]
    exact (if_neg (by rw [on]; nofun)).trans (if_pos out)
  · show reqFaultScan (byte b.val) s = _
    unfold reqFaultScan
    rw [bayOf_byte]
    exact (if_neg (by rw [on]; nofun)).trans (if_neg (Classical.not_not.mpr docked))
  · exact (frdRequest_eq k).trans (if_pos absent)
  · exact (frdRequest_eq k).trans ((if_neg present).trans (if_pos waits))
  · exact (frdRequest_eq k).trans ((if_neg present).trans (if_neg goes))
  · have go := frdResult_counted counting n
    have counted : ∀ cap, cap = (s.dkuAt b).profile.capacity → frdCounted b n s = if min n cap = 0
        then frdCommit b [] { (s.frdAt b).scan.marks with overCapacity := (s.frdAt b).scan.marks.overCapacity || decide (cap < n) } (s.frdAt b).scan.kinds s
        else ((s.modFrd b (fun f => { f with scan := { (s.frdAt b).scan with
          state := .reading, limit := min n cap, next := 0
          marks := { (s.frdAt b).scan.marks with overCapacity := (s.frdAt b).scan.marks.overCapacity || decide (cap < n) } } })).modClc b (fun c =>
            c.submitRead (.fread 0)), []) := by
      rintro cap rfl
      rfl
    refine ⟨fun whole empty => ?_, fun whole some' => ?_, fun pending => go.trans (if_pos pending)⟩
    · exact go.trans ((if_neg (by rw [whole]; nofun)).trans ((counted _ rfl).trans (if_pos empty)))
    · exact go.trans ((if_neg (by rw [whole]; nofun)).trans ((counted _ rfl).trans (if_neg some')))
  · obtain ⟨limit, kinds⟩ := take_limit (s.frdAt b).scan s.map (s.frdAt b).scan.next payload
    have go := (frdResult_read reading payload).trans (if_neg (by rw [whole]; nofun))
    refine ⟨fun more => ?_, fun last => ?_⟩
    · refine go.trans ?_
      unfold frdNextRecord
      rw [limit]
      exact if_pos more
    · refine go.trans ?_
      unfold frdNextRecord
      rw [limit, kinds]
      exact if_neg (Nat.not_lt.mpr last)
  · refine ⟨take_bad sc map i, fun r some' => ⟨fun x found => take_merged sc map i some' found, fun new => ⟨fun room => ?_, fun upper low shape full => ?_⟩⟩⟩
    · rw [take_added sc map i some' new, addEntry_room _ room, Bool.or_false]
      rfl
    · rw [take_added sc map i some' new, shape, addEntry_full _ (shape ▸ full), Bool.or_true]
      rfl
  · have bytes := faultRecordOf_bytes c0 c1 src st occ f0 f1 f2 l0 l1 l2 fl rest
    dsimp only
    rw [bytes]
    refine ⟨⟨fun h => ?_, fun h => if_pos h⟩, fun r h => ?_⟩
    · refine Classical.byContradiction fun good => ?_
      rw [if_neg good] at h
      cases h
    · split at h
      · cases h
      · obtain rfl := Option.some.inj h
        dsimp only
        have bad := readCircuit_bad_iff (fl.getLsbD 0) rest
        rw [word16_toNat, readCircuit_frame]
        refine ⟨rfl, rfl, beq_iff_eq, rfl, rfl, rfl, fun none' => ?_, fun c more some' shape => ?_, fun some' empty => ?_, fun none' => ?_,
          fun some' short => ?_, fun t0 t1 v0 v1 more some' shape => ?_⟩
        · rw [none']; rfl
        · rw [some', shape]
          refine ⟨fun low => ?_, fun high => ?_⟩
          · rw [readCircuit_low low]
          · rw [readCircuit_high high]; exact ⟨rfl, rfl⟩
        · rw [some', empty]; exact ⟨rfl, rfl⟩
        · rw [none', readFreeze_absent, Bool.or_false]
          exact ⟨rfl, bad⟩
        · rw [some', readFreeze_short short]
          exact ⟨rfl, Bool.or_true _⟩
        · rw [some', shape, readFreeze_whole, Bool.or_false, word16_toInt, word16_toNat]
          exact ⟨rfl, bad⟩
  · have entries : (reclassifyAll s.map shadow).map (FaultEntry.atCommit (s.frdAt b)) =
        (rankSort (shadow.map (FaultEntry.reclassify s.map))).map (fun e => { e with
          isNew := decide (∀ o ∈ (s.frdAt b).table.entries, ¬ (o.source = e.source ∧ o.code = e.code))
          confirmed := decide (∃ c ∈ e.circuit, (s.frdAt b).verdicts[c]? = some .failed) }) :=
      List.map_congr_left fun e _ => atCommit_eq _ e
    show frdCommit b shadow m kinds s = _
    unfold frdCommit
    dsimp only
    rw [entries, formUnconfirmed_eq]
    simp only [gains_iff, differs_iff, ite_not]
    rfl
  · have failed {x : Reaction} (outstanding : ((s.frdAt b).scan.state = .counting ∧ r = .fcount) ∨
        ((s.frdAt b).scan.state = .reading ∧ r = .fread (s.frdAt b).scan.next)) (h : frdReadFailed b r s = x) :
        handle (.frdResult b r .failed) s = x := (frdResult_failed outstanding).trans h
    refine ⟨fun outstanding => ⟨fun lost => failed outstanding (frdReadFailed_lost lost r), fun active whole => failed outstanding
      ((frdReadFailed_active active r).trans (if_neg (by rw [whole]; nofun)))⟩, frdLost_idle, frdLost_runs, rfl, rfl⟩
  · refine ⟨fun reading pending payload => (frdResult_read reading payload).trans (if_pos pending), fun pending active => ⟨fun counting => ?_, fun reading => ?_⟩,
      fun idle r x => frdResult_idle idle r x, fun reading i x other => frdResult_other reading other x, fun some' goes idle found => ?_,
      fun none' => frdTakeRescan_eq.trans (if_pos none'), fun awaiting => frdRecovered_awaiting awaiting, fun idle some' goes => ?_, fun stands => ?_,
      rfl, fun stands departs => ?_, fun none' => ?_⟩
    · exact (frdResult_failed (.inl ⟨counting, rfl⟩)).trans ((frdReadFailed_active active _).trans (if_pos pending))
    · exact (frdResult_failed (.inr ⟨reading, rfl⟩)).trans ((frdReadFailed_active active _).trans (if_pos pending))
    · refine frdTakeRescan_eq.trans (if_neg ?_)
      rintro (e | e | e | e)
      · exact some' e
      · exact goes e
      · exact e idle
      · rw [found] at e; cases e
    · refine (frdRecovered_other (by rw [idle]; nofun)).trans (frdTakeRescan_eq.trans ?_)
      rw [State.modFrd_frdAt_same]
      refine if_neg ?_
      rintro (e | e | e | e)
      · exact some' e
      · exact goes e
      · exact e idle
      · cases e
    · refine (frdRecovered_other ?_).trans (frdTakeRescan_eq.trans ?_)
      · rcases stands with e | e | ⟨e, -⟩ <;> rw [e] <;> nofun
      · rw [State.modFrd_frdAt_same]
        refine if_pos ?_
        rcases stands with e | e | ⟨-, e | e⟩
        · exact .inr (.inr (.inl (by dsimp only; rw [e]; nofun)))
        · exact .inr (.inr (.inl (by dsimp only; rw [e]; nofun)))
        · exact .inl e
        · exact .inr (.inl e)
    · refine congrArg (·, []) (modFrd_congr ?_)
      exact if_pos (by rw [departs, Bool.and_true]; exact bne_iff_ne.mpr stands)
    · refine congrArg (·, []) (modFrd_self ?_)
      refine if_neg ?_
      rcases none' with e | e <;> rw [e] <;> simp

end Sys2Proof.Machine
end

section
/-! O30 (R38 to R54, R199): docking, the descriptor walk, matching, recovery and the end of a session. -/

namespace Sys2Proof.Machine

theorem modDku_congr {s : State} {b : BayNo} {f g : Dku → Dku} (h : f (s.dkuAt b) = g (s.dkuAt b)) : s.modDku b f = s.modDku b g :=
  congrArg (fun l => ({ s with dku := bayPut s.dku b l } : State)) h

theorem modDku_self {s : State} {b : BayNo} {f : Dku → Dku} (h : f (s.dkuAt b) = s.dkuAt b) : s.modDku b f = s := by
  show ({ s with dku := bayPut s.dku b (f (s.dkuAt b)) } : State) = s
  rw [h]
  exact congrArg (fun l => ({ s with dku := l } : State)) (bayPut_bayAt ..)

theorem modDku_modDku (s : State) (b : BayNo) (f g : Dku → Dku) : (s.modDku b f).modDku b g = s.modDku b (fun d => g (f d)) := by
  simp only [State.modDku, bayAt_bayPut_same, bayPut_bayPut]

theorem modClc_self {s : State} {b : BayNo} {f : Clc → Clc} (h : f (s.clcAt b) = s.clcAt b) : s.modClc b f = s := by
  show ({ s with clc := bayPut s.clc b (f (s.clcAt b)) } : State) = s
  rw [h]
  exact congrArg (fun l => ({ s with clc := l } : State)) (bayPut_bayAt ..)

/-! ### Descriptors (R44, R45, R199) -/

theorem clampNat_eq {lo hi : Nat} (h : lo ≤ hi) (v : Nat) : clampNat lo hi v = max lo (min hi v) := by
  unfold clampNat
  split
  · omega
  · split <;> omega

theorem clampNat_ne_iff {lo hi : Nat} (h : lo ≤ hi) (v : Nat) : clampNat lo hi v ≠ v ↔ v < lo ∨ hi < v := by
  rw [clampNat_eq h]
  omega

theorem markClamped_iff (p : Profile) (xs : List (Nat × Nat × Nat)) : (p.markClamped xs).clamped = true ↔
    p.clamped = true ∨ ∃ x ∈ xs, clampNat x.1 x.2.1 x.2.2 ≠ x.2.2 := by
  simp only [Profile.markClamped, Bool.or_eq_true, List.any_eq_true, bne_iff_ne]

/-- A part of the profile taken once: a second descriptor of its kind is marked DUPLICATE. -/
theorem applyHeater_eq (p : Profile) (n w : Nat) : p.applyHeater n w = { (if p.heater = none
    then { p with heater := some (max 1 (min 8 n), max 5 (min 120 w)) } else { p with duplicate := true }) with
    clamped := (p.markClamped [(1, 8, n), (5, 120, w)]).clamped } := by
  unfold Profile.applyHeater
  rw [clampNat_eq (by decide), clampNat_eq (by decide)]
  dsimp only [Profile.markClamped]
  cases p.heater <;> rfl

theorem applyCabin_eq (p : Profile) (c u : Nat) : p.applyCabin c u = { (if p.cabin = none
    then { p with cabin := some (max 50 (min 2000 c), max 20 (min 1000 u)) } else { p with duplicate := true }) with
    clamped := (p.markClamped [(50, 2000, c), (20, 1000, u)]).clamped } := by
  unfold Profile.applyCabin
  rw [clampNat_eq (by decide), clampNat_eq (by decide)]
  dsimp only [Profile.markClamped]
  cases p.cabin <;> rfl

theorem applyFaultMemory_eq (p : Profile) (c : Nat) (byte : c ≤ 255) : p.applyFaultMemory c = { (if p.faultCapacity = none
    then { p with faultCapacity := some (max 1 c) } else { p with duplicate := true }) with
    clamped := (p.markClamped [(1, 255, c)]).clamped } := by
  unfold Profile.applyFaultMemory
  rw [clampNat_eq (by decide), Nat.min_eq_right byte]
  dsimp only [Profile.markClamped]
  cases p.faultCapacity <;> rfl

theorem applyLamp_eq (p : Profile) (c : Nat) (group : LampGroup) (n t : Nat) (checkable : Bool) : p.applyLamp c group n t checkable =
    { (if min 63 c ∈ p.lamps.map LampEntry.circuit then { p with duplicate := true }
      else if p.lamps.length < 48 then
        { p with lamps := p.lamps ++ [⟨min 63 c, group, max 10 (min 2000 n), max 5 (min 50 t), checkable⟩] }
      else { p with lampsTruncated := true }) with
      clamped := (p.markClamped [(0, 63, c), (10, 2000, n), (5, 50, t)]).clamped } := by
  have known : (p.lamps.any (fun e => e.circuit == min 63 c)) = true ↔ min 63 c ∈ p.lamps.map LampEntry.circuit := by simp
  unfold Profile.applyLamp
  rw [clampNat_eq (by decide), clampNat_eq (by decide), clampNat_eq (by decide), Nat.zero_max]
  dsimp only [Profile.markClamped]
  simp only [known]
  split
  · rfl
  · by_cases room : p.lamps.length < 48
    · rw [if_pos (show p.lamps.length < Config.lampSize from room)]
      simp only [if_pos room]
    · rw [if_neg (show ¬ p.lamps.length < Config.lampSize from room)]
      simp only [if_neg room]

theorem applyDescriptor_identity (p : Profile) (kind : Nat) (body : List Byte) : (p.applyDescriptor kind body).identity = p.identity := by
  unfold Profile.applyDescriptor
  split
  · rw [applyHeater_eq]; split <;> rfl
  · rw [applyCabin_eq]; split <;> rfl
  · split
    · rw [applyLamp_eq]
      split
      · rfl
      · split <;> rfl
    · rfl
  · next c _ => rw [applyFaultMemory_eq _ _ (by have := c.isLt; omega)]; split <;> rfl
  · rfl

theorem applyDescriptor_unknown (p : Profile) {kind : Nat} (body : List Byte) (unknown : kind ∉ [1, 2, 3, 4]) :
    p.applyDescriptor kind body = { p with unknownDescriptor := true } := by
  unfold Profile.applyDescriptor
  split
  case h_5 => rfl
  all_goals exact absurd (by decide) unknown

theorem applyDescriptor_short (p : Profile) {kind : Nat} {body : List Byte} (short : (kind = 1 ∧ body.length < 2) ∨
    (kind = 2 ∧ body.length < 4) ∨ (kind = 3 ∧ body.length < 6) ∨ (kind = 4 ∧ body.length < 1)) :
    p.applyDescriptor kind body = { p with unknownDescriptor := true } := by
  unfold Profile.applyDescriptor
  split
  case h_5 => rfl
  all_goals
    simp only [List.length_cons] at short
    omega

theorem lampGroupOf_eq (g : Byte) : lampGroupOf g = [LampGroup.front, .rear, .side, .interior, .signal, .marker][g.toNat]? := by
  unfold lampGroupOf
  generalize g.toNat = n
  match n with
  | 0 => rfl
  | 1 => rfl
  | 2 => rfl
  | 3 => rfl
  | 4 => rfl
  | 5 => rfl
  | n + 6 => rfl

/-! ### Matching (R49, R50) -/

section

variable {b : BayNo} {s : State}

theorem matchState_unmatched (h : (s.dkuAt b).state ≠ .docked ∨ ∀ x, s.activeOf b = some x → x.fleet = none) :
    s.matchState b = .unmatched := by
  unfold State.matchState
  split
  · next docked =>
    have none' := h.resolve_left (Classical.not_not.mpr docked)
    cases active : s.activeOf b with
    | none => rfl
    | some x =>
      dsimp only
      rw [none' x active]
  · rfl

theorem matchState_matched {x : Departure} {n : Nat} (docked : (s.dkuAt b).state = .docked) (active : s.activeOf b = some x)
    (fleet : x.fleet = some n) : s.matchState b =
      if (s.dkuAt b).profile.identity.map Identity.fleet = some n then .matched else .mismatched := by
  unfold State.matchState
  rw [if_pos docked, active]
  dsimp only
  rw [fleet]
  cases (s.dkuAt b).profile.identity with
  | none => rfl
  | some i => simp

/-- A record for another bay that expects the coach in this bay. -/
def State.elsewhere (s : State) (b : BayNo) (x : Departure) : Prop :=
  x.bay ≠ b ∧ x.fleet ≠ none ∧ x.fleet = (s.dkuAt b).profile.identity.map Identity.fleet

theorem wrongBayRecord_none (none' : ∀ x ∈ s.departures, ¬ s.elsewhere b x) : s.wrongBayRecord b = none := by
  unfold State.wrongBayRecord
  unfold State.elsewhere at none'
  cases identity : (s.dkuAt b).profile.identity with
  | none => rfl
  | some i =>
    rw [identity] at none'
    rw [List.find?_eq_none]
    intro x m fits
    simp only [Bool.and_eq_true, bne_iff_ne, beq_iff_eq] at fits
    exact none' x m ⟨fits.1, by rw [fits.2]; nofun, fits.2⟩

theorem wrongBayRecord_first {before after : List Departure} {x : Departure} (shape : s.departures = before ++ x :: after)
    (first : ∀ y ∈ before, ¬ s.elsewhere b y) (here : s.elsewhere b x) : s.wrongBayRecord b = some x := by
  unfold State.wrongBayRecord
  unfold State.elsewhere at first here
  obtain ⟨bay, present, fleet⟩ := here
  cases identity : (s.dkuAt b).profile.identity with
  | none => rw [identity] at fleet; exact absurd fleet present
  | some i =>
    rw [identity] at fleet first
    rw [shape]
    refine List.find?_eq_some_iff_append.mpr ⟨?_, before, after, rfl, fun y m => ?_⟩
    · simp only [Bool.and_eq_true, bne_iff_ne, beq_iff_eq]
      exact ⟨bay, fleet⟩
    · refine Bool.not_eq_true' _ ▸ Bool.eq_false_iff.mpr fun fits => ?_
      simp only [Bool.and_eq_true, bne_iff_ne, beq_iff_eq] at fits
      exact first y m ⟨fits.1, by rw [fits.2]; nofun, fits.2⟩

theorem inWrongBay_iff : s.inWrongBay b = true ↔
    (s.dkuAt b).state = .docked ∧ s.wrongBayRecord b ≠ none ∧ (s.dkuAt b).matching ≠ .matched := by
  unfold State.inWrongBay
  simp only [Bool.and_eq_true, beq_iff_eq, bne_iff_ne, Option.isSome_iff_ne_none, and_assoc]

theorem dkuWrongBay_clear (held : (s.dkuAt b).retained = false) (no : s.inWrongBay b = false) :
    dkuWrongBay b s = (s.modDku b (fun d => { d with wrongBay := false }), []) := by
  unfold dkuWrongBay
  rw [if_neg (by rw [held]; nofun), no]
  cases s.wrongBayRecord b <;> rfl

theorem dkuWrongBay_set {x : Departure} (held : (s.dkuAt b).retained = false) (yes : s.inWrongBay b = true)
    (record : s.wrongBayRecord b = some x) : dkuWrongBay b s = (s.modDku b (fun d => { d with wrongBay := true }),
      if (s.dkuAt b).wrongBay = true then [] else [.raise b .wrongBay (.bay x.bay) false]) := by
  unfold dkuWrongBay
  rw [if_neg (by rw [held]; nofun), yes, record]
  cases (s.dkuAt b).wrongBay <;> rfl

theorem dkuMatch_eq (held : (s.dkuAt b).retained = false) : dkuMatch b s =
    (s.modDku b (fun d => { d with matching := s.matchState b }),
      (if s.matchState b = (s.dkuAt b).matching then [] else [.tellDock b]) ++ [.dkuWrongBay b]) := by
  unfold dkuMatch
  exact if_neg (by rw [held]; nofun)

/-! ### Results (R40 to R43, R51) -/

theorem dkuResult_failed {r : BayRequest} (read : (s.dkuAt b).read = some (r, true)) :
    dkuResult b r .failed s = dkuReadFailed b r s := by
  unfold dkuResult
  exact if_pos read

theorem dkuResult_identified (read : (s.dkuAt b).read = some (.ident, true)) (probing : (s.dkuAt b).state = .probing)
    (f t : Nat) (m : Bool) : dkuResult b .ident (.done (.ident f t m)) s = dkuIdentified b ⟨f, t, m⟩ s := by
  unfold dkuResult
  dsimp only
  rw [if_pos read, probing]

theorem dkuResult_reidentified (read : (s.dkuAt b).read = some (.ident, true)) (docked : (s.dkuAt b).state = .docked)
    (f t : Nat) (m : Bool) : dkuResult b .ident (.done (.ident f t m)) s = dkuReidentified b f s := by
  unfold dkuResult
  dsimp only
  rw [if_pos read, docked]

theorem dkuResult_described {i : Nat} (read : (s.dkuAt b).read = some (.desc i, true))
    (walks : (s.dkuAt b).state = .readingDescriptors) (kind n : Nat) (body : List Byte) :
    dkuResult b (.desc i) (.done (.desc kind n body)) s = dkuDescribed b i kind n body s := by
  unfold dkuResult
  dsimp only
  rw [if_pos read, walks]

theorem dkuResult_docked (read : (s.dkuAt b).read = some (.status, true)) (faults : (s.dkuAt b).state = .readingFaults)
    (cabin : Option Int) (ignition stop changed : Bool) (n : Nat) :
    dkuResult b .status (.done (.status cabin ignition stop changed n)) s = dkuDocked b s := by
  unfold dkuResult
  dsimp only
  rw [if_pos read, faults]

theorem dkuResult_other {r : BayRequest} (other : (s.dkuAt b).read ≠ some (r, true)) (x : TxResult) : dkuResult b r x s = (s, []) :=
  if_neg other

/-- A DESC of docking taken: the index and the body. -/
def State.described (s : State) (b : BayNo) (i kind : Nat) (body : List Byte) : State :=
  s.modDku b (fun d => { d with
    indices := (s.dkuAt b).indices ++ [i], profile := d.profile.applyDescriptor kind body, read := none })

theorem dkuDescribed_eq (i kind n : Nat) (body : List Byte) : dkuDescribed b i kind n body s =
    if n = 255 then ((s.described b i kind body).modDku b (fun d => { d with state := .readingFaults }), [.tellDock b, .frdRequest b .docking])
    else if n < 64 ∧ n ∉ (s.dkuAt b).indices ++ [i] then (s.described b i kind body, [.dkuSubmit b (.desc n)])
    else ((s.described b i kind body).modDku b (fun d => d.failChain i n), [.tellDock b, .raise b .dock (.dock true) false]) := by
  have fresh : ((s.dkuAt b).indices ++ [i]).contains n = false ↔ n ∉ (s.dkuAt b).indices ++ [i] := by
    rw [← Bool.not_eq_true, List.contains_iff_mem]
  unfold dkuDescribed
  simp only [fresh]
  rfl

end

end Sys2Proof.Machine
end

section
/-! O30, concluded. -/

namespace Sys2Proof.Machine

theorem takesRead_iff (c : Clc) : c.takesRead = true ↔ c.link = .active ∧ c.readSlot = none := by
  unfold Clc.takesRead
  rw [Bool.and_eq_true, beq_iff_eq, Option.isNone_iff_eq_none]

theorem submitRead_refused {c : Clc} (waits : c.takesRead = false) (r : BayRequest) : c.submitRead r = c := by
  unfold Clc.submitRead
  exact if_neg (by rw [waits]; nofun)

theorem reaction_congr {s t : State} (h : s = t) (ns : List Notice) : ((s, ns) : Reaction) = (t, ns) := by rw [h]

/-- Settles O30. -/
theorem redockActsInOrder : Obligations.RedockActsInOrder := by
  have next {s t : State} (h : s = t) : (.next s : Host.Outcome State Fault Refusal) = .next t := congrArg _ h
  refine ⟨fun x s above => next ?_, fun b s => ⟨fun off => next ?_, fun on barred => next ?_, fun on plug free => next ?_⟩,
    fun b why s => ⟨fun idle => if_pos idle, fun stands => if_neg stands⟩,
    fun b s => ⟨rfl, fun held => if_pos held, fun held => if_neg (by rw [held]; nofun), rfl, rfl, fun r => ⟨fun active free => ?_, fun waits => ?_⟩⟩,
    fun b fleet coachType memory s read => ⟨fun probing => dkuResult_identified read probing .., fun i docked identity => ?_⟩,
    fun b i kind n body s read walks => ?_, fun b cabin ignition stop changed n s read faults => ?_, fun b r s read => dkuResult_failed read,
    fun p n w rest => ?_, fun p c0 c1 u0 u1 rest => ?_, fun p c g n0 n1 t ch rest => ?_, fun p c rest => ?_,
    fun p kind body unknown => applyDescriptor_unknown p body unknown, fun p kind body short => applyDescriptor_short p short, fun b s => ?_⟩
  · show reqRedock x s = _
    unfold reqRedock
    rw [bayOf_of_le above]
    rfl
  · show reqRedock (byte b.val) s = _
    unfold reqRedock
    rw [bayOf_byte]
    exact if_pos off
  · show reqRedock (byte b.val) s = _
    unfold reqRedock
    rw [bayOf_byte]
    refine (if_neg (by rw [on]; nofun)).trans ?_
    by_cases plug : (s.bfeAt b).plug = false
    · exact if_pos plug
    · exact (if_neg plug).trans (if_pos (barred.resolve_left plug))
  · show reqRedock (byte b.val) s = _
    unfold reqRedock
    rw [bayOf_byte]
    exact (if_neg (by rw [on]; nofun)).trans ((if_neg (by rw [plug]; nofun)).trans (if_neg free))
  · have taken : (s.clcAt b).takesRead = true := (takesRead_iff _).mpr ⟨active, free⟩
    show dkuSubmit b r s = _
    unfold dkuSubmit
    dsimp only
    rw [taken]
    rfl
  · have refused : (s.clcAt b).takesRead = false :=
      Bool.eq_false_iff.mpr fun e => waits.elim (fun f => f ((takesRead_iff _).mp e).1) (fun f => f ((takesRead_iff _).mp e).2)
    show dkuSubmit b r s = _
    unfold dkuSubmit
    dsimp only
    rw [refused, modClc_self (f := fun c => c.submitRead r) (submitRead_refused refused r)]
    rfl
  · refine (dkuResult_reidentified read docked ..).trans ?_
    unfold dkuReidentified
    dsimp only
    rw [identity]
    dsimp only
    split <;> rfl
  · have go := (dkuResult_described read walks kind n body).trans (dkuDescribed_eq i kind n body)
    have fields {f : Dku → Dku} {g : Dku → Dku} (h : f { s.dkuAt b with
          indices := (s.dkuAt b).indices ++ [i], profile := (s.dkuAt b).profile.applyDescriptor kind body, read := none } = g (s.dkuAt b)) :
        (s.described b i kind body).modDku b f = s.modDku b g := by
      unfold State.described
      rw [modDku_modDku]
      exact modDku_congr h
    refine ⟨fun last => go.trans ((if_pos last).trans ?_), fun low new => go.trans ((if_neg ?_).trans ((if_pos ⟨low, new⟩).trans ?_)),
      fun goes bad => go.trans ((if_neg goes).trans ((if_neg ?_).trans ?_))⟩
    · refine reaction_congr ?_ _
      exact fields rfl
    · rintro rfl; exact absurd low (by decide)
    · refine reaction_congr ?_ _
      exact modDku_congr rfl
    · exact fun h => bad.elim (Nat.not_le.mpr h.1) h.2
    · refine reaction_congr ?_ _
      refine fields ?_
      dsimp only [Dku.failChain]
      rw [applyDescriptor_identity]
  · exact (dkuResult_docked read faults ..).trans rfl
  · dsimp only
    have heater : p.applyDescriptor 1 (n :: w :: rest) = p.applyHeater n.toNat w.toNat := rfl
    rw [heater, applyHeater_eq]
    refine ⟨?_, fun none' => ?_, fun some' => ?_⟩
    · rw [markClamped_iff]
      simp only [List.mem_cons, List.not_mem_nil, or_false, exists_eq_or_imp, exists_eq_left]
      rw [clampNat_ne_iff (by decide), clampNat_ne_iff (by decide), or_assoc]
    · rw [if_pos none']
    · rw [if_neg some']
  · dsimp only
    have cabin : p.applyDescriptor 2 (c0 :: c1 :: u0 :: u1 :: rest) = p.applyCabin (word16 c0 c1).toNat (word16 u0 u1).toNat := rfl
    rw [cabin, word16_toNat, word16_toNat, applyCabin_eq]
    refine ⟨?_, fun none' => ?_, fun some' => ?_⟩
    · rw [markClamped_iff]
      simp only [List.mem_cons, List.not_mem_nil, or_false, exists_eq_or_imp, exists_eq_left]
      rw [clampNat_ne_iff (by decide), clampNat_ne_iff (by decide), or_assoc]
    · rw [if_pos none']
    · rw [if_neg some']
  · dsimp only
    have lamp : p.applyDescriptor 3 (c :: g :: n0 :: n1 :: t :: ch :: rest) = match lampGroupOf g with
        | some group => p.applyLamp c.toNat group (word16 n0 n1).toNat t.toNat (ch.toNat != 0)
        | none => { p with unknownDescriptor := true } := rfl
    refine ⟨fun above => ?_, fun group known => ?_⟩
    · rw [lamp, lampGroupOf_eq, List.getElem?_eq_none above]
    · rw [lamp, lampGroupOf_eq, known]
      dsimp only
      rw [word16_toNat, applyLamp_eq]
      refine ⟨?_, fun listed => ?_, fun new room => ?_, fun new full => ?_⟩
      · rw [markClamped_iff]
        simp only [List.mem_cons, List.not_mem_nil, or_false, exists_eq_or_imp, exists_eq_left]
        rw [clampNat_ne_iff (by decide), clampNat_ne_iff (by decide), clampNat_ne_iff (by decide)]
        simp only [Nat.not_lt_zero, false_or, or_assoc]
      · rw [if_pos listed]
      · rw [if_neg new, if_pos room]
      · rw [if_neg new, if_neg (Nat.not_lt.mpr full)]
  · dsimp only
    have byte : c.toNat ≤ 255 := Nat.le_of_lt_succ c.isLt
    have memory : p.applyDescriptor 4 (c :: rest) = p.applyFaultMemory c.toNat := rfl
    rw [memory, applyFaultMemory_eq _ _ byte]
    refine ⟨?_, fun none' => ?_, fun some' => ?_⟩
    · rw [markClamped_iff]
      simp only [List.mem_cons, List.not_mem_nil, or_false, exists_eq_left]
      rw [clampNat_ne_iff (by decide)]
      exact or_congr_right ⟨fun h => h.resolve_right (Nat.not_lt.mpr byte), .inl⟩
    · rw [if_pos none']
    · rw [if_neg some']
  · refine ⟨matchState_unmatched, fun x n docked active fleet => matchState_matched docked active fleet, fun held => ⟨if_pos held, if_pos held⟩,
      fun held => ⟨dkuMatch_eq held, fun clear => ?_, fun before x after shape first here docked other => ?_⟩, fun reads => if_pos reads,
      fun other => if_neg other, fun docked => ?_, fun r docks waits => ?_, fun idle => ?_, fun r x other => dkuResult_other other x, rfl⟩
    · refine dkuWrongBay_clear held (Bool.eq_false_iff.mpr fun yes => ?_)
      obtain ⟨docked, record, other⟩ := inWrongBay_iff.mp yes
      rcases clear with e | e | none'
      · exact e docked
      · exact other e
      · exact record (wrongBayRecord_none none')
    · have record := wrongBayRecord_first shape first here
      exact dkuWrongBay_set held (inWrongBay_iff.mpr ⟨docked, by rw [record]; nofun, other⟩) record
    · show dkuRecovered b s = _
      unfold dkuRecovered
      dsimp only
      rw [docked]
    · show dkuRecovered b s = _
      unfold dkuRecovered
      dsimp only
      rcases docks with e | e | e <;> rw [e, waits]
    · show dkuRecovered b s = _
      unfold dkuRecovered
      dsimp only
      split
      · next docked =>
        rcases idle with e | e | ⟨e, -⟩
        · exact nomatch docked.symm.trans e
        · exact nomatch docked.symm.trans e
        · exact absurd docked e
      · next probing read =>
        rcases idle with e | e | ⟨-, e⟩
        · exact nomatch probing.symm.trans e
        · exact nomatch probing.symm.trans e
        · exact absurd read (e _)
      · next walks read =>
        rcases idle with e | e | ⟨-, e⟩
        · exact nomatch walks.symm.trans e
        · exact nomatch walks.symm.trans e
        · exact absurd read (e _)
      · next faults read =>
        rcases idle with e | e | ⟨-, e⟩
        · exact nomatch faults.symm.trans e
        · exact nomatch faults.symm.trans e
        · exact absurd read (e _)
      · rfl

end Sys2Proof.Machine
end

section
/-! O57 (R17 to R35, R190, R198): the line's timing rows, the arbiter and the link's states. -/

namespace Sys2Proof.Machine

theorem modClc_congr {s : State} {b : BayNo} {f g : Clc → Clc} (h : f (s.clcAt b) = g (s.clcAt b)) : s.modClc b f = s.modClc b g :=
  congrArg (fun l => ({ s with clc := bayPut s.clc b l } : State)) h

theorem modClc_modClc (s : State) (b : BayNo) (f g : Clc → Clc) : (s.modClc b f).modClc b g = s.modClc b (fun c => g (f c)) := by
  simp only [State.modClc, bayAt_bayPut_same, bayPut_bayPut]

/-! ### Sending and the reply start (R17, R19) -/

section Line

variable {s : State} {b : BayNo} {f : InFlight}

theorem clcSend_ready (busy : (s.clcAt b).inflight = some f) {n : Nat} (ready : f.phase = .ready n) : (clcSend b s).1 =
    if (s.clcAt b).maySend n = true then
      s.modClc b (fun c => { c with inflight := some { f with phase := .sending }, lineOut := f.request.frame })
    else s := by
  unfold clcSend done
  dsimp only
  split
  · next may =>
    refine modClc_congr ?_
    rw [busy]
    dsimp only
    rw [ready]
    exact if_pos may
  · next may =>
    refine modClc_self ?_
    rw [busy]
    dsimp only
    rw [ready]
    exact if_neg may

theorem clcSend_other (busy : (s.clcAt b).inflight = some f) (other : ∀ n, f.phase ≠ .ready n) : (clcSend b s).1 = s := by
  unfold clcSend done
  dsimp only
  refine modClc_self ?_
  rw [busy]
  dsimp only
  split
  · next n ready => exact absurd ready (other n)
  all_goals rfl

theorem clcSend_idle (idle : (s.clcAt b).inflight = none) : (clcSend b s).1 = s := by
  unfold clcSend done
  dsimp only
  refine modClc_self ?_
  rw [idle]

theorem clcSent_free (free : (s.clcAt b).lineOut = []) : (clcSent b s).1 = s := by
  unfold clcSent done
  dsimp only
  refine modClc_self ?_
  rw [free]

theorem clcSent_idle (idle : (s.clcAt b).inflight = none) (used : (s.clcAt b).lineOut ≠ []) :
    (clcSent b s).1 = s.modClc b (fun c => { c with lineOut := [] }) := by
  unfold clcSent done
  dsimp only
  refine modClc_congr ?_
  obtain ⟨x, xs, line⟩ := List.exists_cons_of_ne_nil used
  rw [line, idle]

theorem clcSent_busy (busy : (s.clcAt b).inflight = some f) (used : (s.clcAt b).lineOut ≠ []) : (clcSent b s).1 =
    s.modClc b (fun c => { c with
      lineOut := []
      inflight := if f.phase = .sending then some { f with phase := .waiting 100 } else c.inflight }) := by
  unfold clcSent done
  dsimp only
  refine modClc_congr ?_
  obtain ⟨x, xs, line⟩ := List.exists_cons_of_ne_nil used
  rw [line, busy]
  dsimp only
  split <;> rfl

theorem clcReplyStart_waits (busy : (s.clcAt b).inflight = some f) {n : Nat} (waits : f.phase = .waiting n) (start : Byte) :
    clcReplyStart b start s = if start = 0xA5
      then done ((clcHeard b s).modClc b (fun c => { c with inflight := some { f with phase := .receiving } }))
      else attemptFails b f (clcHeard b s) := by
  unfold clcReplyStart
  dsimp only
  rw [busy]
  dsimp only
  rw [waits]
  rfl

theorem clcReplyStart_other (busy : (s.clcAt b).inflight = some f) (other : ∀ n, f.phase ≠ .waiting n) (start : Byte) :
    clcReplyStart b start s = done (clcHeard b s) := by
  unfold clcReplyStart
  dsimp only
  rw [busy]
  dsimp only
  split
  · next n waits => exact absurd waits (other n)
  all_goals rfl

theorem clcReplyStart_idle (idle : (s.clcAt b).inflight = none) (start : Byte) :
    clcReplyStart b start s = done (clcHeard b s) := by
  unfold clcReplyStart
  dsimp only
  rw [idle]

end Line

/-! ### Submissions and the arbiter (R25 to R27, R35) -/

section Arbiter

variable {c : Clc}

theorem takeHighest_heat {n : Nat} (heat : c.heatSlot = some n) :
    c.takeHighest = { c with heatSlot := none, inflight := some ⟨.stage n, some .heat, 1, .ready 100⟩ } := by
  unfold Clc.takeHighest
  rw [heat]
  rfl

theorem takeHighest_lamp (heat : c.heatSlot = none) {k : Nat} {on : Bool} (lamp : c.lampSlot = some (k, on)) :
    c.takeHighest = { c with lampSlot := none, inflight := some ⟨.lamp k on, some .lamp, 1, .ready 100⟩ } := by
  unfold Clc.takeHighest
  rw [heat, lamp]
  rfl

theorem takeHighest_read (heat : c.heatSlot = none) (lamp : c.lampSlot = none) {r : BayRequest} (read : c.readSlot = some r) :
    c.takeHighest = { c with readSlot := none, inflight := some ⟨r, some .read, 1, .ready 100⟩ } := by
  unfold Clc.takeHighest
  rw [heat, lamp, read]
  rfl

theorem takeHighest_poll (heat : c.heatSlot = none) (lamp : c.lampSlot = none) (read : c.readSlot = none) (poll : c.pollSlot = true) :
    c.takeHighest = { c with pollSlot := false, inflight := some ⟨.status, some .poll, 1, .ready 100⟩ } := by
  unfold Clc.takeHighest
  rw [heat, lamp, read, poll]
  rfl

theorem takeHighest_none (heat : c.heatSlot = none) (lamp : c.lampSlot = none) (read : c.readSlot = none) (poll : c.pollSlot = false) :
    c.takeHighest = c := by
  unfold Clc.takeHighest
  rw [heat, lamp, read, poll]

theorem submitHeat_eq (c : Clc) (n : Nat) :
    c.submitHeat n = if c.link = .down then c else { c with heatSlot := some n }.arbitrate := by
  split
  · next down => exact submitHeat_down down n
  · next up => exact submitHeat_up up n

theorem submitLamp_eq (c : Clc) (k : Nat) (on : Bool) : c.submitLamp k on =
    if c.link = .active ∧ c.lampSlot = none then { c with lampSlot := some (k, on) }.arbitrate else c :=
  ite_of_iff (takesLamp_iff c) rfl rfl

theorem submitRead_eq (c : Clc) (r : BayRequest) : c.submitRead r =
    if c.link = .active ∧ c.readSlot = none then { c with readSlot := some r }.arbitrate else c :=
  ite_of_iff (takesRead_iff c) rfl rfl

theorem submitPoll_eq (c : Clc) : c.submitPoll =
    if c.link = .active ∧ c.polling = false then { c with pollSlot := true }.arbitrate else c := by
  unfold Clc.submitPoll
  exact ite_of_iff (by simp) rfl rfl

theorem discard_down (down : c.link = .down) : c.discard = c := by
  unfold Clc.discard
  rw [down]

theorem discard_active (active : c.link = .active) : c.discard = { c with
    inflight := none, poll := none, lastStatus := none, failures := 0, heatSlot := none, lampSlot := none
    readSlot := none, pollSlot := false } := by
  unfold Clc.discard
  rw [active]
  rfl

theorem reprobing_iff : c.reprobing = true ↔ c.inflight.map InFlight.cls = some none := by
  unfold Clc.reprobing
  split
  · next f busy => rw [busy, Option.isNone_iff_eq_none, Option.map_some, Option.some_inj]
  · next idle =>
    rw [idle]
    exact ⟨nofun, nofun⟩

theorem discard_lost (lost : c.link = .lost) : c.discard = { c with
    inflight := none, poll := none, lastStatus := none, heatSlot := none, lampSlot := none, readSlot := none
    pollSlot := false
    reprobe := if c.inflight.map InFlight.cls = some none then some 5000 else c.reprobe } := by
  unfold Clc.discard
  rw [lost]
  dsimp only
  rw [show (if c.reprobing = true then msTimer Config.reprobePeriod else c.reprobe) =
    if c.inflight.map InFlight.cls = some none then some 5000 else c.reprobe from ite_of_iff reprobing_iff rfl rfl]
  rfl

end Arbiter

/-! ### The timers and the end of a transaction (R24, R30, R35) -/

section Timers

variable {s : State} {b : BayNo}

theorem clcPoll_runs (runs : (s.clcAt b).poll ≠ none) : perform (clcPoll b s) =
    s.modClc b (fun c => { c with poll := some (s.setting 4 * 1000) }.submitPoll) := by
  unfold clcPoll
  rw [if_pos (Option.isSome_iff_ne_none.2 runs)]
  rfl

theorem clcPoll_idle (idle : (s.clcAt b).poll = none) : perform (clcPoll b s) = s := by
  unfold clcPoll
  rw [if_neg (by rw [idle]; nofun)]
  rfl

theorem clcNext_ended (ended : (s.clcAt b).inflight = none ∨ ∃ f, (s.clcAt b).inflight = some f ∧ f.phase = .reporting) :
    (clcNext b s).1 = s.modClc b (fun c => { c with inflight := none }.arbitrate) := by
  unfold clcNext done
  dsimp only
  refine modClc_congr ?_
  obtain idle | ⟨f, busy, ended⟩ := ended
  · rw [idle]
    dsimp only
    rw [← idle]
  · rw [busy]
    exact if_pos ended

theorem clcNext_stands {f : InFlight} (busy : (s.clcAt b).inflight = some f) (stands : f.phase ≠ .reporting) :
    (clcNext b s).1 = s := by
  unfold clcNext done
  dsimp only
  refine modClc_self ?_
  rw [busy]
  exact if_neg stands

end Timers

theorem crc8Steps_eight (c : Byte) : crc8Steps 8 c =
    (List.range 8).foldl (fun (c : Byte) _ => if c.getLsbD 7 = true then (c <<< 1) ^^^ 0x07 else c <<< 1) c := rfl

theorem crc8_append (xs : List Byte) (x : Byte) : crc8 (xs ++ [x]) = crc8Steps 8 (crc8 xs ^^^ x) := by
  unfold crc8
  rw [List.foldl_append]
  rfl

/-- Settles O57. -/
theorem linkTimingEventsAct : Obligations.LinkTimingEventsAct := by
  have next {s t : State} (h : s = t) : (.next s : Host.Outcome State Fault Refusal) = .next t := congrArg _ h
  refine ⟨⟨fun b s f busy => ⟨fun n ready free quiet => next ?_, fun n ready waits => next ?_, fun other => next (clcSend_other busy other),
      fun sending used => next ?_, fun n waits => next ?_, fun other start => next ?_, fun other used => next ?_⟩,
    fun b s idle => ⟨next (clcSend_idle idle), fun start => next ?_, fun used => next (clcSent_idle idle used),
      fun lost runs => next ?_⟩,
    fun b s => ⟨fun free => next (clcSent_free free), fun stands => next ?_, fun stopped => next (clcPoll_idle stopped),
      fun runs drops => next ?_, fun runs active free busy => next ?_, fun runs active free idle heat lamp read => next ?_⟩⟩,
    fun c => ⟨arbitrate_waits, fun active idle => ⟨fun n heat => ?_, fun heat => ⟨fun k on lamp => ?_, fun lamp =>
      ⟨fun r read => ?_, fun read poll => ?_, fun read poll => ?_⟩⟩⟩, submitHeat_eq c, submitLamp_eq c, submitRead_eq c⟩,
    fun b s => ⟨fun down => ?_, fun up => ?_, ?_, fun down => ?_, fun active => ?_, fun lost => ?_, fun ended => ?_,
      fun f busy stands => ?_, rfl⟩,
    fun i n k on => ⟨rfl, rfl, rfl, rfl, rfl, rfl, rfl⟩, rfl, by decide +kernel, fun xs x => (crc8_append xs x).trans (crc8Steps_eight _)⟩
  · exact (clcSend_ready busy ready).trans (if_pos ((maySend_iff ..).2 ⟨free, quiet⟩))
  · refine (clcSend_ready busy ready).trans (if_neg fun may => ?_)
    obtain ⟨free, quiet⟩ := (maySend_iff ..).1 may
    obtain used | ⟨short, left⟩ := waits
    · exact used free
    · omega
  · exact (clcSent_busy busy used).trans (modClc_congr (by rw [if_pos sending]))
  · refine (congrArg perform ((clcReplyStart_waits busy waits 0xA5).trans (if_pos rfl))).trans ?_
    rw [perform_done]
    exact modClc_modClc ..
  · exact congrArg perform (clcReplyStart_other busy other start)
  · exact (clcSent_busy busy used).trans (modClc_congr (by rw [if_neg other]))
  · exact congrArg perform (clcReplyStart_idle idle start)
  · show perform (clcReprobe b s) = _
    unfold clcReprobe
    rw [if_pos ⟨lost, Option.isSome_iff_ne_none.2 runs, idle⟩]
    rfl
  · show perform (clcReprobe b s) = _
    unfold clcReprobe
    rw [if_neg fun ⟨lost, runs, _⟩ => stands.elim (absurd lost) (Option.isSome_iff_ne_none.1 runs)]
    rfl
  · refine (clcPoll_runs runs).trans (modClc_congr ((submitPoll_eq _).trans (if_neg fun ⟨active, free⟩ => ?_)))
    exact drops.elim (absurd active) (fun polls => nomatch free.symm.trans polls)
  · refine (clcPoll_runs runs).trans (modClc_congr ((submitPoll_eq _).trans ((if_pos ⟨active, free⟩).trans ?_)))
    exact arbitrate_waits (.inr busy)
  · refine (clcPoll_runs runs).trans (modClc_congr ((submitPoll_eq _).trans ((if_pos ⟨active, free⟩).trans ?_)))
    have slot : (s.clcAt b).pollSlot = false := (Bool.or_eq_false_iff.1 free).1
    rw [arbitrate_begins (by exact active) (by exact idle), takeHighest_poll (by exact heat) (by exact lamp) (by exact read) rfl, slot]
  · exact (arbitrate_begins active idle).trans (takeHighest_heat heat)
  · exact (arbitrate_begins active idle).trans (takeHighest_lamp heat lamp)
  · exact (arbitrate_begins active idle).trans (takeHighest_read heat lamp read)
  · exact (arbitrate_begins active idle).trans (takeHighest_poll heat lamp read poll)
  · exact (arbitrate_begins active idle).trans (takeHighest_none heat lamp read poll)
  · show clcUp b s = _
    refine reaction_congr (modClc_congr ?_) _
    exact if_pos down
  · show clcUp b s = _
    refine reaction_congr (modClc_self ?_) _
    exact if_neg up
  · show clcDown b s = _
    unfold clcDown
    simp only [beq_iff_eq]
    rfl
  · refine reaction_congr (modClc_self ?_) _
    exact discard_down down
  · refine reaction_congr (modClc_congr ?_) _
    exact discard_active active
  · refine reaction_congr (modClc_congr ?_) _
    exact discard_lost lost
  · exact reaction_congr (clcNext_ended ended) _
  · exact reaction_congr (clcNext_stands busy stands) _

end Sys2Proof.Machine
end

section
/-! O58, O59 (R17 to R31, R36, R198): failed attempts and good replies. -/

namespace Sys2Proof.Machine

/-! ### A row that fails the attempt (R19) -/

section Fails

variable {s : State} {b : BayNo} {f : InFlight}

theorem replyChecks_iff (start kind : Byte) (payload : List Byte) (check : Byte) : replyChecks start kind payload check = true ↔
    start = 0xA5 ∧ payload.length ≤ 32 ∧ crc8 (checkedBytes kind payload) = check := by
  unfold replyChecks
  rw [Bool.and_eq_true, Bool.and_eq_true, beq_iff_eq, beq_iff_eq, decide_eq_true_iff, and_assoc]
  rfl

theorem open_iff (p : AttemptPhase) : p.open = true ↔ (∃ n, p = .waiting n) ∨ p = .receiving := by
  cases p <;> simp [AttemptPhase.open]

theorem clcFailure_found (busy : (s.clcAt b).inflight = some f) {p : AttemptPhase → Bool} (found : p f.phase = true) :
    clcFailure b p s = attemptFails b f s := by
  unfold clcFailure
  rw [busy]
  exact if_pos found

theorem clcReply_fails (busy : (s.clcAt b).inflight = some f) (opened : f.phase.open = true) {start kind check : Byte} {payload : List Byte}
    (wrong : replyChecks start kind payload check = true → readReply f.request kind payload = none) :
    clcReply b start kind payload check s = attemptFails b f (clcHeard b s) := by
  unfold clcReply
  dsimp only
  rw [busy]
  dsimp only
  rw [if_pos opened]
  split
  · next good => rw [wrong good]
  · rfl

theorem clcReply_succeeds (busy : (s.clcAt b).inflight = some f) (opened : f.phase.open = true) {kind check : Byte} {payload : List Byte}
    {result : TxResult} (good : replyChecks 0xA5 kind payload check = true) (read : readReply f.request kind payload = some result) :
    clcReply b 0xA5 kind payload check s = attemptSucceeds b f result (clcHeard b s) := by
  unfold clcReply
  dsimp only
  rw [busy]
  dsimp only
  rw [if_pos opened, if_pos good, read]

theorem clcReply_shut (shut : ∀ g, (s.clcAt b).inflight = some g → g.phase.open = false) (start kind check : Byte) (payload : List Byte) :
    clcReply b start kind payload check s = done (clcHeard b s) := by
  unfold clcReply
  dsimp only
  split
  · next g busy => exact if_neg (by rw [shut g busy]; nofun)
  · rfl

/-- A character received sets the quiet time to 0; without one it stands. -/
theorem heard_eq (s : State) (b : BayNo) (heard : Bool) : (if heard = true then clcHeard b s else s) =
    s.modClc b (fun c => { c with quiet := if heard = true then 0 else c.quiet }) := by
  cases heard
  · exact (modClc_self rfl).symm
  · rfl

theorem failingRow_fails {row : Instr} (busy : (s.clcAt b).inflight = some f) (fails : FailsAttempt b f row) :
    exec row s = .next (perform (attemptFails b f (if hearsCharacter row = true then clcHeard b s else s))) := by
  have next {r : Reaction} {t : Reaction} (h : r = t) : (.next (perform r) : Host.Outcome State Fault Refusal) = .next (perform t) :=
    by rw [h]
  have heard (c : BayNo) : ((clcHeard c s).clcAt c).inflight = (s.clcAt c).inflight := by
    rw [clcHeard, State.modClc_clcAt_same]
  cases row with
  | noReply c =>
    obtain ⟨rfl, n, waits⟩ := fails
    exact next (clcFailure_found busy (by rw [waits]; rfl))
  | replyGap c =>
    obtain ⟨rfl, arrives⟩ := fails
    exact next (clcFailure_found busy (by rw [arrives]; rfl))
  | replyCharacterError c =>
    obtain ⟨rfl, opened⟩ := fails
    exact next (clcFailure_found ((heard _).trans busy) ((open_iff _).2 opened))
  | replyStart r =>
    obtain ⟨c, start⟩ := r
    obtain ⟨rfl, ⟨n, waits⟩, other⟩ := fails
    exact next ((clcReplyStart_waits busy waits start).trans (if_neg other))
  | replyFrame r kind payload check =>
    obtain ⟨c, start⟩ := r
    obtain ⟨rfl, opened, wrong⟩ := fails
    refine next (clcReply_fails busy ((open_iff _).2 opened) fun good => ?_)
    obtain ⟨sync, short, checked⟩ := (replyChecks_iff ..).1 good
    obtain other | long | bad | unread := wrong
    · exact absurd sync other
    · omega
    · exact absurd checked bad
    · exact unread
  | _ => exact fails.elim

end Fails

/-- Settles O58: the failing rows all fail the attempt, which is repeated or ends its transaction. -/
theorem failedAttemptsAreRepeatedAndCounted : Obligations.FailedAttemptsAreRepeatedAndCounted := by
  intro b row s f busy fails most
  dsimp only
  rw [failingRow_fails busy fails, heard_eq]
  generalize hearsCharacter row = heard
  have counted : (s.modClc b (fun c => { c with quiet := if heard = true then 0 else c.quiet })).modClc b Clc.countError =
      s.modClc b (fun c => { c with
        attemptErrors := min ((s.clcAt b).attemptErrors + 1) 65535
        quiet := if heard = true then 0 else (s.clcAt b).quiet }) := by
    refine (modClc_modClc ..).trans (modClc_congr ?_)
    unfold Clc.countError
    rw [show (if (s.clcAt b).attemptErrors < Config.maxAttemptErrors then (s.clcAt b).attemptErrors + 1 else (s.clcAt b).attemptErrors) =
      min ((s.clcAt b).attemptErrors + 1) 65535 by rw [Config.maxAttemptErrors]; split <;> omega]
  unfold attemptFails
  dsimp only
  rw [counted]
  refine ⟨fun early => ?_, fun third none' => ?_, fun cls third some' first => ?_, fun cls third some' second => ?_⟩
  · rw [if_pos (show f.attempt < Config.maxAttempts from early), perform_done, modClc_modClc]
    rfl
  · rw [if_neg (Nat.not_lt.2 (show Config.maxAttempts ≤ f.attempt from third)), none']
    dsimp only
    rw [perform_done, modClc_modClc]
    rfl
  · obtain ⟨request, _, attempt, phase⟩ := f
    subst some'
    rw [if_neg (Nat.not_lt.2 (show Config.maxAttempts ≤ attempt from third))]
    dsimp only
    unfold transactionFailed
    rw [if_pos (by rw [State.modClc_clcAt_same]; exact first), modClc_modClc]
    rfl
  · obtain ⟨request, _, attempt, phase⟩ := f
    subst some'
    rw [if_neg (Nat.not_lt.2 (show Config.maxAttempts ≤ attempt from third))]
    dsimp only
    unfold transactionFailed enterLost
    dsimp only
    rw [if_neg (by rw [State.modClc_clcAt_same]; exact second), modClc_modClc, State.modClc_clcAt_same]
    rfl

/-! ### Good replies (R18 to R24, R31, R36, R198) -/

section Replies

variable (kind : Byte) (payload : List Byte)

theorem readReply_ident (f0 f1 t m : Byte) (rest : List Byte) : readReply .ident 0x90 (f0 :: f1 :: t :: m :: rest) =
    if f0.toNat + 256 * f1.toNat = 0 then none
    else some (.done (.ident (f0.toNat + 256 * f1.toNat) t.toNat (decide (m ≠ 0)))) := by
  have memory : (m.toNat != 0) = decide (m ≠ 0) := by
    rw [Bool.eq_iff_iff, bne_iff_ne, decide_eq_true_iff, ne_eq, ne_eq, BitVec.toNat_eq]
    rfl
  unfold readReply
  dsimp only
  rw [word16_toNat, memory]
  split
  · next known => exact (if_neg known.2).symm
  · next unknown => exact (if_pos (Decidable.not_not.1 fun known => unknown ⟨rfl, known⟩)).symm

theorem readReply_status (fl t0 t1 n : Byte) (rest : List Byte) (raw : Nat) (t : Int) (hraw : raw = t0.toNat + 256 * t1.toNat)
    (ht : t = if raw < 32768 then (raw : Int) else raw - 65536) : readReply .status 0x94 (fl :: t0 :: t1 :: n :: rest) =
    some (.done (.status (if fl.getLsbD 0 = true ∧ -400 ≤ t ∧ t ≤ 600 then some t else none)
      (fl.getLsbD 1) (fl.getLsbD 2) (fl.getLsbD 3) (min n.toNat 8))) := by
  have value : (word16 t0 t1).toInt = t := by rw [word16_toInt, ht, hraw]
  unfold readReply
  dsimp only
  rw [value, if_pos (by rfl)]
  simp only [Bool.and_eq_true, decide_eq_true_eq, and_assoc]

theorem toNat_ne {x y : Byte} (h : x ≠ y) : x.toNat ≠ y.toNat := fun same => h (BitVec.eq_of_toNat_eq same)

theorem readReply_ident_wrong (wrong : kind ≠ 0x90 ∨ payload.length < 4) : readReply .ident kind payload = none := by
  unfold readReply
  dsimp only
  split
  · refine if_neg fun ⟨right, _⟩ => ?_
    exact wrong.elim (fun other => toNat_ne other right) (by simp)
  · rfl

theorem readReply_desc_wrong (i : Nat) (wrong : kind ≠ 0x91 ∨ payload.length < 2) : readReply (.desc i) kind payload = none := by
  unfold readReply
  dsimp only
  split
  · refine if_neg fun right => ?_
    exact wrong.elim (fun other => toNat_ne other right) (by simp)
  · rfl

theorem readReply_fcount_wrong (wrong : kind ≠ 0x92 ∨ payload.length < 1) : readReply .fcount kind payload = none := by
  unfold readReply
  dsimp only
  split
  · refine if_neg fun right => ?_
    exact wrong.elim (fun other => toNat_ne other right) (by simp)
  · rfl

theorem readReply_status_wrong (wrong : kind ≠ 0x94 ∨ payload.length < 4) : readReply .status kind payload = none := by
  unfold readReply
  dsimp only
  split
  · refine if_neg fun right => ?_
    exact wrong.elim (fun other => toNat_ne other right) (by simp)
  · rfl

theorem toNat_eq_iff (x y : Byte) : x.toNat = y.toNat ↔ x = y := BitVec.toNat_eq.symm

end Replies

/-- Settles O59. -/
theorem goodReplyEndsTheTransaction : Obligations.GoodReplyEndsTheTransaction := by
  refine ⟨fun b kind check payload s f result busy opened short checked read => ?_, fun b start kind check payload s shut => ?_,
    fun kind payload => rfl, fun f0 f1 t m rest => readReply_ident .., fun i k n body => rfl, fun n rest => rfl,
    fun fl t0 t1 n rest => readReply_status fl t0 t1 n rest _ _ rfl rfl, fun kind payload i n k on =>
      ⟨readReply_ident_wrong kind payload, readReply_desc_wrong kind payload i, readReply_fcount_wrong kind payload,
        ite_of_iff (and_congr_left' (toNat_eq_iff kind 0x93)) rfl rfl, readReply_status_wrong kind payload,
        ite_of_iff (toNat_eq_iff kind 0x95) rfl (ite_of_iff (toNat_eq_iff kind 0xEE) rfl rfl),
        ite_of_iff (toNat_eq_iff kind 0x96) rfl (ite_of_iff (toNat_eq_iff kind 0xEE) rfl rfl)⟩⟩
  · have taken : exec (.replyFrame ⟨b, 0xA5⟩ kind payload check) s = .next (perform (attemptSucceeds b f result (clcHeard b s))) :=
      congrArg (fun r => Host.Outcome.next (perform r))
        (clcReply_succeeds busy ((open_iff _).2 opened) ((replyChecks_iff ..).2 ⟨rfl, short, checked⟩) read)
    dsimp only
    rw [taken]
    unfold attemptSucceeds clcHeard
    refine ⟨fun reprobe => ?_, fun cls owner other => ?_, fun cls cabin ignition stop changed n owner status => ?_⟩
    · obtain ⟨request, _, attempt, phase⟩ := f
      subst reprobe
      dsimp only
      unfold linkRecovers
      rw [modClc_modClc]
      simp only [beq_iff_eq]
      rfl
    · obtain ⟨request, _, attempt, phase⟩ := f
      subst owner
      dsimp only
      unfold transactionGood
      dsimp only
      rw [modClc_modClc]
      split
      · exact absurd rfl (other _ _ _ _ _)
      all_goals rfl
    · obtain ⟨request, _, attempt, phase⟩ := f
      subst owner status
      dsimp only
      unfold transactionGood
      dsimp only
      rw [modClc_modClc, modClc_modClc]
      rfl
  · refine congrArg (fun r => Host.Outcome.next (perform r)) (clcReply_shut (fun g busy => ?_) start kind check payload)
    obtain idle | ⟨f, other, arrives, waits⟩ := shut
    · exact nomatch idle.symm.trans busy
    · cases other.symm.trans busy
      exact Bool.eq_false_iff.2 fun opened => ((open_iff _).1 opened).elim (fun ⟨n, w⟩ => waits n w) arrives

end Sys2Proof.Machine
end

section
/-! O55 (R4, R11, R163 to R174): clearance timers, passages, settling, revocation and recall. -/

namespace Sys2Proof.Machine

theorem modClr_congr {s : State} {b : BayNo} {f g : Clr → Clr} (h : f (s.clrAt b) = g (s.clrAt b)) : s.modClr b f = s.modClr b g :=
  congrArg (fun l => ({ s with clr := bayPut s.clr b l } : State)) h

theorem modClr_self {s : State} {b : BayNo} {f : Clr → Clr} (h : f (s.clrAt b) = s.clrAt b) : s.modClr b f = s := by
  show ({ s with clr := bayPut s.clr b (f (s.clrAt b)) } : State) = s
  rw [h]
  exact congrArg (fun l => ({ s with clr := l } : State)) (bayPut_bayAt ..)

theorem modClr_modClr (s : State) (b : BayNo) (f g : Clr → Clr) : (s.modClr b f).modClr b g = s.modClr b (fun c => g (f c)) := by
  simp only [State.modClr, bayAt_bayPut_same, bayPut_bayPut]

theorem setClear_modClr (s : State) (b : BayNo) (f : Clr → Clr) (st : ClearState) : (s.modClr b f).setClear b st =
    (s.modClr b (fun c => { f c with state := st, revoking := false })).modBfe b (fun f => { f with aspect := st.aspect }) := by
  unfold State.setClear
  rw [modClr_modClr]

theorem modBfe_modClr (s : State) (b : BayNo) (f : Bfe → Bfe) (g : Clr → Clr) : (s.modBfe b f).modClr b g = (s.modClr b g).modBfe b f := rfl

/-! ### The lane a bay holds -/

section Released

variable {s : State} {b : BayNo} {l : Lane}

theorem grantedLane_of_grants (held : s.grants l b) (single : ∀ k, k ≠ l → ¬ s.grants k b) : s.grantedLane b = some l := by
  unfold State.grantedLane
  cases l
  · exact if_pos held
  · exact (if_neg (single .a nofun)).trans (if_pos held)

theorem grantedLane_of_none (none' : ∀ l, ¬ s.grants l b) : s.grantedLane b = none := by
  unfold State.grantedLane
  exact (if_neg (none' .a)).trans (if_neg (none' .b))

theorem laneRelease_granted (granted : (s.laneAt l).state = .granted) : laneRelease l false s =
    (s.modLane l (fun _ => ⟨if (s.laneAt l).closePending then .closed else .free, none, false, none⟩),
      .raiseHall .lane (.lane l (if (s.laneAt l).closePending then .closed else .free)) ::
        if (s.laneAt l).closePending then [] else [.laneOffer l]) := by
  unfold laneRelease
  dsimp only
  rw [granted]
  cases (s.laneAt l).closePending <;> rfl

theorem laneRelease_wait (wait : (s.laneAt l).state = .passageWait) (timeout : Bool) : laneRelease l timeout s =
    (s.modLane l (fun _ => ⟨if (s.laneAt l).closePending then .closed else .free, none, false, none⟩),
      (if timeout then .raiseHall .lane (.laneTimeout l)
        else .raiseHall .lane (.lane l (if (s.laneAt l).closePending then .closed else .free))) ::
        ((if (s.laneAt l).closePending then [] else [.laneOffer l]) ++ (s.laneAt l).holder.toList.map .clrOfferTo)) := by
  unfold laneRelease
  dsimp only
  rw [wait]
  cases (s.laneAt l).closePending <;> cases (s.laneAt l).holder <;> rfl

theorem laneReleaseOf_granted (held : s.grants l b) (single : ∀ k, k ≠ l → ¬ s.grants k b) : laneReleaseOf b s =
    (s.modLane l (fun _ => ⟨if (s.laneAt l).closePending then .closed else .free, none, false, none⟩),
      .raiseHall .lane (.lane l (if (s.laneAt l).closePending then .closed else .free)) ::
        if (s.laneAt l).closePending then [] else [.laneOffer l]) := by
  unfold laneReleaseOf
  rw [grantedLane_of_grants held single]
  exact laneRelease_granted held.1

theorem laneReleaseOf_none (none' : ∀ l, ¬ s.grants l b) : laneReleaseOf b s = (s, []) := by
  unfold laneReleaseOf
  rw [grantedLane_of_none none']
  rfl

end Released

/-! ### The revocation (R170) -/

/-- A bay whose clearance is revoked, before its lane is released. -/
def revoked (b : BayNo) (s : State) : State :=
  (s.modClr b (fun c => { c with
    state := .preparing, plugTimer := none, openWait := none, openRequest := false, revoking := true })).modBfe b
    (fun f => { f with aspect := .red })

theorem clrRevoke_eq {b : BayNo} {s : State} (clearing : (s.clrAt b).state = .clearing) (timeout : Bool) : clrRevoke b timeout s =
    ((laneReleaseOf b (revoked b s)).1,
      .contactor b :: (laneReleaseOf b (revoked b s)).2 ++ [.hplDropClearing b, .clrRevokeEnd b timeout]) := by
  have out : (s.setClear b .preparing).modClr b (fun c =>
      { c with plugTimer := none, openWait := none, openRequest := false, revoking := true }) = revoked b s := by
    unfold State.setClear
    rw [modBfe_modClr, modClr_modClr]
    rfl
  unfold clrRevoke
  dsimp only
  rw [if_pos clearing, out]

theorem revoked_untimed (b : BayNo) (s : State) : revoked b (s.modClr b (fun c => { c with plugTimer := none })) = revoked b s := by
  unfold revoked
  rw [modClr_modClr]

theorem revoked_told (b : BayNo) (h : HoldSet) (s : State) : revoked b (s.modClr b (fun c => { c with holds := h })) =
    (revoked b s).modClr b (fun c => { c with holds := h }) := by
  unfold revoked
  rw [modBfe_modClr, modClr_modClr, modClr_modClr]

theorem clrPlugExpired_clearing {b : BayNo} {s : State} (clearing : (s.clrAt b).state = .clearing)
    (runs : (s.clrAt b).plugTimer ≠ none) : clrPlugExpired b s = ((laneReleaseOf b (revoked b s)).1,
      .contactor b :: (laneReleaseOf b (revoked b s)).2 ++ [.hplDropClearing b, .clrRevokeEnd b true]) := by
  unfold clrPlugExpired
  rw [if_pos (Option.isSome_iff_ne_none.2 runs), clrRevoke_eq (by rw [State.modClr_clrAt_same]; exact clearing), revoked_untimed]

theorem clrHolds_clearing {b : BayNo} {s : State} (clearing : (s.clrAt b).state = .clearing) : clrHolds b s =
    if (s.dpmAt b).reported.held = true then clrRevoke b false (s.modClr b (fun c => { c with holds := (s.dpmAt b).reported }))
    else (s.modClr b (fun c => { c with holds := (s.dpmAt b).reported }), []) := by
  unfold clrHolds
  dsimp only
  rw [clearing]
  rfl

theorem clrHolds_revoking {b : BayNo} {s : State} (clearing : (s.clrAt b).state = .clearing) (held : (s.dpmAt b).reported.held = true) :
    clrHolds b s = (let out := (revoked b s).modClr b (fun c => { c with holds := (s.dpmAt b).reported })
      ((laneReleaseOf b out).1, .contactor b :: (laneReleaseOf b out).2 ++ [.hplDropClearing b, .clrRevokeEnd b false])) := by
  rw [clrHolds_clearing clearing, if_pos held, clrRevoke_eq (by rw [State.modClr_clrAt_same]; exact clearing), revoked_told]

theorem clrRevokeEnd_idle {b : BayNo} {s : State} (idle : (s.clrAt b).revoking = false) (timeout : Bool) :
    clrRevokeEnd b timeout s = (s, []) := if_neg (by rw [idle]; nofun)

/-! ### Settling (R163) and the wait order (R166) -/

/-- The state a docked bay settles into, by R163's table. -/
theorem settled_eq (b : BayNo) (s : State) : s.settled b = if (s.clrAt b).holds.held = true then ClearState.preparing
    else if (s.clrAt b).windowOpen = false then .ready else if (s.frdAt b).scanDone = true then .queued else .scanning := by
  unfold State.settled
  simp only [Bool.not_eq_true']

theorem settles_iff (st : ClearState) : st.settles = true ↔ st ∈ [ClearState.preparing, .ready, .scanning, .queued] := by
  cases st <;> simp [ClearState.settles]

theorem settled_settles (b : BayNo) (s : State) : (s.settled b).settles = true := by
  rw [settled_eq]
  split
  · rfl
  · split
    · rfl
    · split <;> rfl

theorem clrHolds_settles {b : BayNo} {s : State} (docked : (s.clrAt b).state.settles = true) (idle : (s.clrAt b).revoking = false) :
    clrHolds b s = settle b (s.modClr b (fun c => { c with holds := (s.dpmAt b).reported })) := by
  unfold clrHolds
  dsimp only
  rw [settles_iff, List.mem_cons, List.mem_cons, List.mem_cons, List.mem_singleton] at docked
  rcases docked with state | state | state | state <;> rw [state] <;> exact if_neg (by rw [idle]; nofun)

theorem leaveOrder_leaveOrder (b : BayNo) (s : State) : leaveOrder b (leaveOrder b s) = leaveOrder b s := by
  unfold leaveOrder
  rw [List.filter_filter]
  simp only [Bool.and_self]

/-- The wait order after a move: a bay that is QUEUED stands at its place, one that was has left (R166). -/
theorem moveTo_eq (b : BayNo) (st : ClearState) (s : State) : moveTo b st s =
    (({ s with waitOrder := if st = .queued then s.waitPlace b (s.waitOrder.filter (fun x => x != b))
        else if (s.clrAt b).state = .queued then s.waitOrder.filter (fun x => x != b) else s.waitOrder } : State).setClear b st,
      [.raise b .clearance (.clearance st) false] ++
        ((if (s.clrAt b).state = .queued ∨ st = .queued then [.tellReliance b] else []) ++
          (if st = .scanning then [.frdRequest b .departure] else []) ++ (if st = .queued then [.clrOfferTo b] else []))) := by
  have rejoin : joinOrder b (leaveOrder b s) = joinOrder b s := by
    unfold joinOrder
    rw [leaveOrder_leaveOrder]
  unfold moveTo
  refine reaction_congr (congrArg (fun t => State.setClear t b st) ?_) _
  by_cases joins : st = .queued
  · rw [if_pos joins, if_pos joins, ← joinOrder_eq]
    split
    · exact rejoin
    · rfl
  · rw [if_neg joins, if_neg joins]
    split <;> rfl

theorem waitsAhead_iff (s : State) (x y : BayNo) : s.waitsAhead x y = true ↔
    s.waitKey x < s.waitKey y ∨ (s.waitKey x = s.waitKey y ∧ x.val < y.val) := by
  unfold State.waitsAhead
  split
  · next same => simp [same]
  · next other => simp [other]

theorem waitsAhead_trans {s : State} {x y z : BayNo} (h : s.waitsAhead x y = true) (h' : s.waitsAhead y z = true) :
    s.waitsAhead x z = true := by
  rw [waitsAhead_iff] at *
  omega

theorem waitsAhead_total {s : State} {x y : BayNo} (ne : x ≠ y) (not : ¬ s.waitsAhead x y = true) : s.waitsAhead y x = true := by
  have other : x.val ≠ y.val := fun same => ne (Fin.ext same)
  rw [waitsAhead_iff] at *
  omega

theorem waitPlace_perm (s : State) (b : BayNo) (q : List BayNo) : (s.waitPlace b q).Perm (b :: q) := by
  induction q with
  | nil => exact .refl _
  | cons x xs ih =>
    unfold State.waitPlace
    split
    · exact .refl _
    · exact (ih.cons x).trans (.swap b x xs)

theorem waitPlace_pairwise (s : State) {b : BayNo} {q : List BayNo} (new : b ∉ q)
    (ordered : q.Pairwise (fun x y => s.waitsAhead x y = true)) :
    (s.waitPlace b q).Pairwise (fun x y => s.waitsAhead x y = true) := by
  induction q with
  | nil => exact List.pairwise_singleton ..
  | cons x xs ih =>
    obtain ⟨head, tail⟩ := List.pairwise_cons.1 ordered
    unfold State.waitPlace
    split
    · next ahead =>
      refine List.pairwise_cons.2 ⟨fun y member => ?_, ordered⟩
      obtain rfl | later := List.mem_cons.1 member
      · exact ahead
      · exact waitsAhead_trans ahead (head y later)
    · next behind =>
      refine List.pairwise_cons.2 ⟨fun y member => ?_, ih (fun m => new (.tail _ m)) tail⟩
      obtain rfl | later := (mem_waitPlace s b).1 member
      · exact waitsAhead_total (fun e => new (e ▸ .head _)) behind
      · exact head y later

/-! ### Recall (R171), the window (R164) and the lanes' timers (R174) -/

theorem clrHolds_recalled {b : BayNo} {s : State} (recalled : (s.clrAt b).state = .recalled) : clrHolds b s =
    let told := s.modClr b (fun c => { c with holds := (s.dpmAt b).reported })
    if (s.dpmAt b).reported.held = true then (leaveOrder b told, []) else (joinOrder b told, [.clrOfferTo b]) := by
  unfold clrHolds
  dsimp only
  rw [recalled]
  rfl

theorem clrHolds_cleared {b : BayNo} {s : State} (cleared : (s.clrAt b).state = .cleared) (held : (s.dpmAt b).reported.held = true) :
    clrHolds b s = clrRecall b (s.modClr b (fun c => { c with holds := (s.dpmAt b).reported })) := by
  unfold clrHolds
  dsimp only
  rw [cleared]
  exact if_pos held

theorem windowOpenAt_eq (d : Option Departure) (now : Nat) [Decidable (∃ p ∈ d.map (fun d => d.time - 60 * d.lead), p ≤ now)] :
    windowOpenAt (d.map Departure.windowPoint) now = decide (∃ p ∈ d.map (fun d => d.time - 60 * d.lead), p ≤ now) := by
  rw [Bool.eq_iff_iff, windowOpenAt_iff, decide_eq_true_iff]
  cases d <;> simp

end Sys2Proof.Machine
end

section
/-! O55, concluded. -/

namespace Sys2Proof.Machine

theorem modLane_self {s : State} {l : Lane} {f : LaneRecord → LaneRecord} (h : f (s.laneAt l) = s.laneAt l) : s.modLane l f = s := by
  cases l
  · exact congrArg (fun r => ({ s with laneA := r } : State)) h
  · exact congrArg (fun r => ({ s with laneB := r } : State)) h

theorem revoked_laneAt (b : BayNo) (s : State) (l : Lane) : (revoked b s).laneAt l = s.laneAt l := by cases l <;> rfl

theorem modClr_laneAt (s : State) (b : BayNo) (f : Clr → Clr) (l : Lane) : (s.modClr b f).laneAt l = s.laneAt l := by cases l <;> rfl

theorem grants_of_laneAt {s t : State} {l : Lane} (same : t.laneAt l = s.laneAt l) {b : BayNo} : t.grants l b ↔ s.grants l b := by
  unfold State.grants
  rw [same]

/-- The lane that a bay holds is released from a state with the same lanes. -/
theorem laneReleaseOf_granted_in {s t : State} (same : ∀ k, t.laneAt k = s.laneAt k) {b : BayNo} {l : Lane} (held : s.grants l b)
    (single : ∀ k, k ≠ l → ¬ s.grants k b) : laneReleaseOf b t =
    (t.modLane l (fun _ => ⟨if (s.laneAt l).closePending then .closed else .free, none, false, none⟩),
      .raiseHall .lane (.lane l (if (s.laneAt l).closePending then .closed else .free)) ::
        if (s.laneAt l).closePending then [] else [.laneOffer l]) := by
  rw [laneReleaseOf_granted ((grants_of_laneAt (same l)).2 held) (fun k ne => mt (grants_of_laneAt (same k)).1 (single k ne)), same l]

theorem laneReleaseOf_none_in {s t : State} (same : ∀ k, t.laneAt k = s.laneAt k) {b : BayNo} (none' : ∀ l, ¬ s.grants l b) :
    laneReleaseOf b t = (t, []) := laneReleaseOf_none fun l => mt (grants_of_laneAt (same l)).1 (none' l)

/-- Settles O55. -/
theorem clearanceTimersAndPassagesAct : Obligations.ClearanceTimersAndPassagesAct := by
  have next {s t : State} (h : s = t) : (.next s : Host.Outcome State Fault Refusal) = .next t := congrArg _ h
  have acts {r t : Reaction} (h : r = t) : (.next (perform r) : Host.Outcome State Fault Refusal) = .next (perform t) := by rw [h]
  refine ⟨fun b s => ⟨⟨_, rfl, ?_⟩, ⟨_, rfl, ?_⟩, fun stopped => next ?_, fun runs clearing free => acts ?_, fun stopped => next ?_,
      fun runs other => next ?_⟩,
    fun b s clearing => ⟨fun none' => ⟨fun runs => acts ?_, fun held => ?_⟩, fun l granted holder single => ⟨fun runs => acts ?_, fun held => ?_⟩,
      fun free => ?_, ?_⟩,
    fun b timeout s => ⟨fun idle => clrRevokeEnd_idle idle timeout, fun revoking held => ?_, fun revoking free => ?_⟩,
    fun l s => ⟨⟨_, rfl, ?_⟩, ⟨_, rfl⟩, fun other stopped => next ?_, fun wait runs => acts ?_, fun idle => next ?_,
      fun n since long wait => acts ?_, fun n since long other => next ?_⟩,
    fun b s => ⟨fun docked idle => ⟨?_, ?_⟩, fun docking => ?_, fun scanning => ?_, ?_⟩, fun b st s => ?_,
    fun b xs s => ⟨waitPlace_perm s b xs, fun new ordered => ?_⟩,
    fun b s => ⟨fun recalled held => ?_, fun recalled free => ?_, fun cleared held l granted holder single => ?_⟩⟩
  · rw [evOpenWaitTimer, perform_given]
    exact given_of_quiet (clrOpenWaitExpired_quiet b s)
  · rw [evPlugTimer, perform_given]
    exact given_of_quiet (clrPlugExpired_quiet b s)
  · show perform (clrOpenWaitExpired b s) = s
    unfold clrOpenWaitExpired
    rw [if_neg (by rw [stopped]; nofun), perform_done]
  · show clrOpenWaitExpired b s = _
    unfold clrOpenWaitExpired clrOpenPoint
    rw [if_pos (Option.isSome_iff_ne_none.2 runs), if_pos (by rw [State.modClr_clrAt_same]; exact ⟨clearing, free⟩), modClr_modClr]
  · show perform (clrPlugExpired b s) = s
    unfold clrPlugExpired
    rw [if_neg (by rw [stopped]; nofun), perform_done]
  · show perform (clrPlugExpired b s) = _
    unfold clrPlugExpired clrRevoke
    rw [if_pos (Option.isSome_iff_ne_none.2 runs), if_neg (by rw [State.modClr_clrAt_same]; exact other), perform_done]
  · refine (clrPlugExpired_clearing clearing runs).trans ?_
    rw [laneReleaseOf_none_in (revoked_laneAt b s) (fun l grants => none' l grants.2)]
    rfl
  · refine (clrHolds_revoking clearing held).trans ?_
    dsimp only
    rw [laneReleaseOf_none_in (fun k => (modClr_laneAt ..).trans (revoked_laneAt b s k)) (fun l grants => none' l grants.2)]
    rfl
  · refine (clrPlugExpired_clearing clearing runs).trans ?_
    rw [laneReleaseOf_granted_in (revoked_laneAt b s) ⟨granted, holder⟩ (fun k ne grants => single k ne grants.2)]
    rfl
  · refine (clrHolds_revoking clearing held).trans ?_
    dsimp only
    rw [laneReleaseOf_granted_in (fun k => (modClr_laneAt ..).trans (revoked_laneAt b s k)) ⟨granted, holder⟩
      (fun k ne grants => single k ne grants.2)]
    rfl
  · exact (clrHolds_clearing clearing).trans (if_neg (by rw [free]; nofun))
  · show clrPlugOut b s = _
    unfold clrPlugOut
    rw [clearing]
    refine reaction_congr ?_ _
    exact setClear_modClr ..
  · show clrRevokeEnd b timeout s = _
    unfold clrRevokeEnd
    rw [if_pos revoking, if_pos held]
    rfl
  · show clrRevokeEnd b timeout s = _
    unfold clrRevokeEnd
    rw [if_pos revoking, if_neg (by rw [free]; nofun)]
    rfl
  · rw [evLaneTimer, perform_given]
    exact given_of_quiet (laneExpired_quiet l s)
  · show perform (laneExpired l s) = s
    unfold laneExpired
    dsimp only
    rw [if_neg fun h => other h.1, perform_done]
    refine modLane_self ?_
    rw [← stopped]
  · show laneExpired l s = _
    unfold laneExpired
    dsimp only
    rw [if_pos ⟨wait, Option.isSome_iff_ne_none.2 runs⟩, laneRelease_wait wait]
    cases (s.laneAt l).holder <;> rfl
  · refine (congrArg perform (?_ : gatePassage l s = (s, []))).trans (perform_nothing s)
    cases l
    · exact if_neg (by rw [show s.hallInputs.gateA = none from idle]; nofun)
    · exact if_neg (by rw [show s.hallInputs.gateB = none from idle]; nofun)
  · cases l
    · refine (if_pos (by rw [show s.hallInputs.gateA = some n from since]; rfl)).trans ((if_pos wait).trans ?_)
      rw [laneRelease_wait (by exact wait)]
      show (_, _ :: (_ ++ s.laneA.holder.toList.map Notice.clrOfferTo)) = _
      dsimp only [State.laneAt]
      cases s.laneA.holder <;> rfl
    · refine (if_pos (by rw [show s.hallInputs.gateB = some n from since]; rfl)).trans ((if_pos wait).trans ?_)
      rw [laneRelease_wait (by exact wait)]
      show (_, _ :: (_ ++ s.laneB.holder.toList.map Notice.clrOfferTo)) = _
      dsimp only [State.laneAt]
      cases s.laneB.holder <;> rfl
  · cases l
    · exact congrArg perform ((if_pos (by rw [show s.hallInputs.gateA = some n from since]; rfl)).trans (if_neg other))
    · exact congrArg perform ((if_pos (by rw [show s.hallInputs.gateB = some n from since]; rfl)).trans (if_neg other))
  · show clrSettle b s = _
    unfold clrSettle settle
    rw [if_pos (by rw [(settles_iff _).2 docked, idle]; rfl), settled_eq]
    rfl
  · show clrHolds b s = _
    rw [clrHolds_settles ((settles_iff _).2 docked) idle]
    unfold settle
    rw [settled_eq, State.modClr_clrAt_same, State.modClr_frdAt]
    rfl
  · show clrDocked b s = _
    unfold clrDocked settle
    rw [if_pos docking, if_neg (fun same => ?_), settled_eq]
    have settles := settled_settles b s
    rw [same, docking] at settles
    cases settles
  · show clrScanCommitted b s = _
    unfold clrScanCommitted settle
    rw [if_pos scanning, settled_eq]
    rfl
  · show clrWindow b s = _
    unfold clrWindow
    dsimp only
    rw [windowOpenAt_eq, funext windowPoint_eq]
  · rw [moveTo_eq]
    rfl
  · have same : (fun x y => s.waitsAhead x y = true) = _ := funext fun x => funext fun y => propext (waitsAhead_iff s x y)
    have placed := waitPlace_pairwise s new (same ▸ ordered)
    rw [same] at placed
    exact placed
  · exact (clrHolds_recalled recalled).trans (if_pos held)
  · have place := waitPlace_congr (s := s) (t := s.modClr b (fun c => { c with holds := (s.dpmAt b).reported })) rfl b
    refine (clrHolds_recalled recalled).trans ((if_neg (by rw [free]; nofun)).trans ?_)
    rw [joinOrder_eq, place]
    rfl
  · show clrHolds b s = _
    rw [clrHolds_cleared cleared held]
    unfold clrRecall
    rw [laneReleaseOf_granted_in (fun k => modClr_laneAt ..) ⟨granted, holder⟩ (fun k ne grants => single k ne grants.2)]
    rfl

end Sys2Proof.Machine
end

section
/-! O56 (R1 to R4, R104, R152, R162, R172): debouncing, the sensors and what their changes do in the clearance states. -/

namespace Sys2Proof.Machine

theorem debounce_eq (raw debounced : Bool) (t : Timer) (period : Nat) : debounce raw debounced t period =
    if raw = debounced then none else some (t.getD period) := by
  unfold debounce
  cases t <;> rfl

/-! ### The lane of a bay that leaves (R172, R174) -/

section Leaves

variable {s : State} {b : BayNo} {l : Lane}

theorem leaveCleared_laneAt (b : BayNo) (s : State) (l : Lane) : (leaveCleared b s).laneAt l = s.laneAt l := by cases l <;> rfl

theorem lanePassageWait_granted {t : State} (same : ∀ k, t.laneAt k = s.laneAt k) (held : s.grants l b) (single : ∀ k, k ≠ l → ¬ s.grants k b) :
    lanePassageWait b t = (t.modLane l (fun r => { r with state := .passageWait, timer := some (t.setting 15 * 1000) }),
      [.raiseHall .lane (.lane l .passageWait)]) := by
  unfold lanePassageWait
  rw [grantedLane_of_grants ((grants_of_laneAt (same l)).2 held) (fun k ne => mt (grants_of_laneAt (same k)).1 (single k ne))]
  rfl

theorem lanePassageWait_none {t : State} (same : ∀ k, t.laneAt k = s.laneAt k) (none' : ∀ l, ¬ s.grants l b) :
    lanePassageWait b t = (t, []) := by
  unfold lanePassageWait
  rw [grantedLane_of_none fun l => mt (grants_of_laneAt (same l)).1 (none' l)]
  rfl

theorem clrPresence_left (state : (s.clrAt b).state = .cleared ∨ (s.clrAt b).state = .recalled) :
    clrPresence b false s = clrLeft b (decide ((s.clrAt b).state = .cleared)) s := by
  unfold clrPresence
  obtain e | e := state <;> rw [e] <;> rfl

theorem clrPlugIn_left (state : (s.clrAt b).state = .cleared ∨ (s.clrAt b).state = .recalled) : clrPlugIn b s =
    ((laneReleaseOf b (leaveCleared b s)).1.setClear b .docking, .contactor b :: (laneReleaseOf b (leaveCleared b s)).2 ++
      [.raise b .clearance (.clearance .docking) false] ++ [.tellFreeze b false]) := by
  unfold clrPlugIn
  obtain e | e := state <;> rw [e] <;> rfl

end Leaves

/-! ### The changes that do nothing -/

section Idle

variable {s : State} {b : BayNo}

theorem clrPresence_occupied (other : (s.clrAt b).state ≠ .empty) : clrPresence b true s = (s, []) := by
  unfold clrPresence
  split
  · next e _ => exact absurd e other
  · next occupied => cases occupied
  · next occupied => cases occupied
  · next occupied => cases occupied
  · rfl

theorem clrPresence_vacant (other : (s.clrAt b).state ∉ [ClearState.arrived, .cleared, .recalled]) :
    clrPresence b false s = (s, []) := by
  unfold clrPresence
  split
  · next occupied => cases occupied
  · next e _ => exact absurd (by rw [e]; decide) other
  · next e _ => exact absurd (by rw [e]; decide) other
  · next e _ => exact absurd (by rw [e]; decide) other
  · rfl

theorem clrPlugIn_other (other : (s.clrAt b).state ∉ [ClearState.arrived, .cleared, .recalled]) : clrPlugIn b s = (s, []) := by
  unfold clrPlugIn
  split
  · next e => exact absurd (by rw [e]; decide) other
  · next e => exact absurd (by rw [e]; decide) other
  · next e => exact absurd (by rw [e]; decide) other
  all_goals rfl

theorem clrPlugOut_arrives (state : (s.clrAt b).state ∈ [ClearState.docking, .preparing, .ready, .scanning, .queued]) :
    clrPlugOut b s = moveTo b .arrived s := by
  unfold clrPlugOut
  simp only [List.mem_cons, List.not_mem_nil, or_false] at state
  rcases state with e | e | e | e | e <;> rw [e]

theorem clrPlugOut_other (state : (s.clrAt b).state ∈ [ClearState.outOfService, .empty, .arrived, .cleared, .recalled]) :
    clrPlugOut b s = (s, []) := by
  unfold clrPlugOut
  simp only [List.mem_cons, List.not_mem_nil, or_false] at state
  rcases state with e | e | e | e | e <;> rw [e] <;> rfl

end Idle

/-- Settles O56. -/
theorem fieldInputsAreDebounced : Obligations.FieldInputsAreDebounced := by
  have next {s t : State} (h : s = t) : (.next s : Host.Outcome State Fault Refusal) = .next t := congrArg _ h
  have acts {r t : Reaction} (h : r = t) : (.next (perform r) : Host.Outcome State Fault Refusal) = .next (perform t) := by rw [h]
  refine ⟨fun b level s => ⟨next ?_, next ?_, next ?_⟩,
    fun s => ⟨next ?_, fun short => next ?_, next ?_, fun short => next ?_, fun long => acts ?_, fun long => acts ?_⟩,
    fun b s => ⟨fun stopped => next ?_, fun runs => acts ?_, fun stopped => next ?_, fun runs out => acts ?_, fun runs plug => acts ?_⟩,
    fun s => ⟨fun stopped => next ?_, fun runs => acts ?_⟩,
    fun b s => ⟨fun empty => ?_, fun arrived => ?_, clrPresence_occupied, clrPresence_vacant, fun out =>
      ⟨fun l held single => ?_, fun none' => ?_, fun l held single => ?_, fun none' => ?_⟩,
      fun arrived => ?_, clrPlugIn_other, clrPlugOut_arrives, clrPlugOut_other, fun why => ?_⟩,
    fun b cleared id s active => ?_⟩
  · show perform (done (s.modBfe b _)) = _
    rw [perform_done]
    refine modBfe_congr ?_
    rw [debounce_eq]
    rfl
  · show perform (done (s.modBfe b _)) = _
    rw [perform_done]
    refine modBfe_congr ?_
    rw [debounce_eq]
    rfl
  · show perform (done (s.modInputs _)) = _
    rw [perform_done]
    unfold State.modInputs
    dsimp only
    rw [debounce_eq]
    rfl
  · rfl
  · show perform (gateLevel .a false s) = _
    unfold gateLevel
    dsimp only
    rw [if_neg fun h => Nat.not_le.2 short h.2]
    rfl
  · rfl
  · show perform (gateLevel .b false s) = _
    unfold gateLevel
    dsimp only
    rw [if_neg fun h => Nat.not_le.2 short h.2]
    rfl
  · have active : s.hallInputs.gateA.isSome = true := by
      cases since : s.hallInputs.gateA with
      | none => rw [since] at long; exact absurd long (by decide)
      | some _ => rfl
    exact (if_pos ⟨rfl, long⟩).trans (if_pos active).symm
  · have active : s.hallInputs.gateB.isSome = true := by
      cases since : s.hallInputs.gateB with
      | none => rw [since] at long; exact absurd long (by decide)
      | some _ => rfl
    exact (if_pos ⟨rfl, long⟩).trans (if_pos active).symm
  · refine (congrArg perform (?_ : presenceChange b s = (s, []))).trans (perform_nothing s)
    exact if_pos (by rw [stopped]; rfl)
  · show presenceChange b s = _
    unfold presenceChange
    dsimp only
    rw [if_neg (by rw [Option.isNone_iff_eq_none]; exact runs)]
    simp only [Bool.not_not, Bool.and_eq_true, Bool.not_eq_true']
    refine reaction_congr ?_ _
    exact modBfe_congr rfl
  · refine (congrArg perform (?_ : plugChange b s = (s, []))).trans (perform_nothing s)
    exact if_pos (by rw [stopped]; rfl)
  · show plugChange b s = _
    unfold plugChange plugInNotices
    dsimp only
    rw [if_neg (by rw [Option.isNone_iff_eq_none]; exact runs), if_neg (by rw [out]; nofun)]
    refine (reaction_congr (modBfe_congr (g := fun f => { f with plug := true, plugTimer := none }) ?_) _).trans ?_
    · rw [out]
      rfl
    · cases (s.bfeAt b).presence <;> rfl
  · show plugChange b s = _
    unfold plugChange plugOutNotices
    dsimp only
    rw [if_neg (by rw [Option.isNone_iff_eq_none]; exact runs), if_pos plug]
    simp only [beq_iff_eq]
    refine (reaction_congr (modBfe_congr (g := fun f => { f with plug := false, plugTimer := none }) ?_) _).trans ?_
    · rw [plug]
      rfl
    · cases (s.bfeAt b).presence <;> rfl
  · refine (congrArg perform (?_ : shedLineChange s = (s, []))).trans (perform_nothing s)
    exact if_pos (by rw [stopped]; rfl)
  · show shedLineChange s = _
    unfold shedLineChange
    rw [if_neg (by rw [Option.isNone_iff_eq_none]; exact runs)]
    cases s.hallInputs.shed <;> rfl
  · show clrPresence b true s = _
    unfold clrPresence
    rw [empty]
    rfl
  · show clrPresence b false s = _
    unfold clrPresence
    rw [arrived]
    rfl
  · refine (clrPresence_left out).trans ?_
    unfold clrLeft
    rw [lanePassageWait_granted (leaveCleared_laneAt b s) held single]
    rfl
  · refine (clrPresence_left out).trans ?_
    unfold clrLeft
    rw [lanePassageWait_none (leaveCleared_laneAt b s) none']
    rfl
  · refine (clrPlugIn_left out).trans ?_
    rw [laneReleaseOf_granted_in (leaveCleared_laneAt b s) held single]
    dsimp only
    cases (s.laneAt l).closePending <;> rfl
  · refine (clrPlugIn_left out).trans ?_
    rw [laneReleaseOf_none_in (leaveCleared_laneAt b s) none']
    rfl
  · show clrPlugIn b s = _
    unfold clrPlugIn
    rw [arrived]
  · show clrUndocked b why s = _
    have settles : (s.clrAt b).state.settles = true ↔ _ := settles_iff _
    unfold clrUndocked
    cases why with
    | redock => exact ite_of_iff (settles.trans ⟨fun h => ⟨.inl rfl, h⟩, fun h => h.2⟩) rfl rfl
    | identity => exact ite_of_iff (settles.trans ⟨fun h => ⟨.inr rfl, h⟩, fun h => h.2⟩) rfl rfl
    | plugOut => exact (if_neg fun h => h.1.elim nofun nofun).symm
    | disabled => exact (if_neg fun h => h.1.elim nofun nofun).symm
  · show departed b cleared s = _
    unfold departed
    rw [active]
    rfl

end Sys2Proof.Machine
end
